-- ==== Sys2Proof/Word.lean ====
section
/-! DEFINITION. The word types of the loop's cells and of the part's counts. -/

namespace Sys2Proof

/-- One byte of a cell (01 1.8). -/
abbrev Byte := BitVec 8

/-- A 16-bit field: an encoder count, a board number, an episode number, a channel value. -/
abbrev Word16 := BitVec 16

/-- A 32-bit field: a cycle number or a conveyor position, both wrapping (00_scope.md 4.2, R1). -/
abbrev Word32 := BitVec 32

end Sys2Proof
end

