-- ==== Sys2Proof/Syntax.lean ====
section
/-! DEFINITION. The commands of the block: one constructor of `Instr` for each row of spec/opcode_table.json. A command
that is a cell at the loop input carries every byte of that cell (01 1.8), its CHECK field included. -/

namespace Sys2Proof

/-- A cell as 16 bytes on the loop (01 1.8): the payload is bytes 4 to 13, byte 4 the most significant. -/
structure RawCell where
  dest : Byte
  src : Byte
  kind : Byte
  tag : Byte
  payload : BitVec 80
  check : Word16
  deriving DecidableEq, Repr

/-- A SAMPLE cell (KIND 3): byte 4 the sequence, byte 5 the channel statuses, bytes 6 to 13 four channel values. -/
structure SampleCell where
  dest : Byte
  src : Byte
  tag : Byte
  sequence : Byte
  statuses : Byte
  value0 : Word16
  value1 : Word16
  value2 : Word16
  value3 : Word16
  check : Word16
  deriving DecidableEq, Repr

/-- A COMPLETION cell (KIND 6): byte 4 the operation number, byte 5 the result, bytes 6 and 7 the quantity. -/
structure CompletionCell where
  dest : Byte
  src : Byte
  tag : Byte
  number : Byte
  result : Byte
  quantity : Word16
  unused : BitVec 48
  check : Word16
  deriving DecidableEq, Repr

/-- A CYCLE_END cell (KIND 2): bytes 4 to 7 the cycle number. -/
structure CycleEndCell where
  dest : Byte
  src : Byte
  tag : Byte
  cycle : Word32
  unused : BitVec 48
  check : Word16
  deriving DecidableEq, Repr

/-- A REQUEST cell (KIND 7) but for its request code, which the command itself names. `operands` is bytes 6 to 13, byte 6
the most significant; bytes a request does not use are ignored (R30) but stand in the CHECK. -/
structure ReqCell where
  dest : Byte
  src : Byte
  tag : Byte
  operands : BitVec 64
  check : Word16
  deriving DecidableEq, Repr

/-- The two waves of the solder pot and their pumps (09 9.2). -/
inductive Wave where
  | chip
  | laminar
  deriving DecidableEq, Repr

/-- The two extraction ducts and their fans (10). -/
inductive Duct where
  | one
  | two
  deriving DecidableEq, Repr

/-- Place of a signal S1..S23 in its table: S n has place n - 1 (02 2.1). -/
abbrev SigIx := Fin 23

/-- The commands, in the order of spec/opcode_table.json. -/
inductive Instr where
  | powerOnReset
  | cycleStart
  | degradationBlockComplete
  | cycleEnd (c : CycleEndCell)
  | cellDiscarded (c : RawCell)
  | sample (c : SampleCell)
  | completion (c : CompletionCell)
  | staleTimerExpiry (signal : SigIx)
  | noMotionTimerExpiry
  | meltDwellExpiry
  | setbackTimerExpiry
  | pumpGraceExpiry (pump : Wave)
  | feedTimerExpiry
  | settleTimerExpiry
  | fanGraceExpiry (duct : Duct)
  | stopTimerExpiry
  | resumeTimerExpiry
  | stage (r : ReqCell)
  | commit (r : ReqCell)
  | discard (r : ReqCell)
  | read (r : ReqCell)
  | removeRecipe (r : ReqCell)
  | lockLimits (r : ReqCell)
  | start (r : ReqCell)
  | stop (r : ReqCell)
  | hold (r : ReqCell)
  | ackHold (r : ReqCell)
  | setDisposition (r : ReqCell)
  | resume (r : ReqCell)
  | selectNext (r : ReqCell)
  | setSpeed (r : ReqCell)
  | enterMaintenance (r : ReqCell)
  | leaveMaintenance (r : ReqCell)
  | setOutput (r : ReqCell)
  | restart (r : ReqCell)
  | ackAlarm (r : ReqCell)
  | forceCutoff (r : ReqCell)
  | clearCutoff (r : ReqCell)
  | feedNow (r : ReqCell)
  | setback (r : ReqCell)
  | unknownRequest (code : Word16) (r : ReqCell)
  deriving DecidableEq, Repr

end Sys2Proof
end

