-- ==== Sys2Proof/Decode.lean ====
section
/-! DEFINITION. The words of spec/opcode_table.json. The table gives its rows no bits: the commands of the part are events and
cells, and a cell's kind and operands are read by the tests of 01, R4 (Sys2Proof/Machine/Cells.lean). -/

namespace Sys2Proof

/-- The command that a word spells by the table's bits: none, since no row of the table has bits (log entry 29). -/
def decodeTableWord (_nbits _w : Nat) : Option Instr := none

end Sys2Proof
end

