-- ==== Sys2Proof/Machine/Types.lean ====
section
/-! DEFINITION. The named states and kinds of the thirteen blocks, one inductive for each list of states of the manual. -/

namespace Sys2Proof.Machine

/-- Place of an output O1..O23: O n has place n - 1 (02 2.2). -/
abbrev OutIx := Fin 23
/-- Number of an alarm A0..A42 (11, R170). -/
abbrev AlarmIx := Fin 43
/-- Place of a thermal loop L1..L8: L n has place n - 1 (07). -/
abbrev LoopIx := Fin 8
/-- Place of a preheat zone 1..6: zone n has place n - 1 (08). -/
abbrev ZoneIx := Fin 6
/-- Number of a recipe slot 0..15 (R46). -/
abbrev SlotIx := Fin 16
/-- Place of a nozzle 1..8: nozzle n has place n - 1 and valve O(8 + n) (06). -/
abbrev NozzleIx := Fin 8
/-- A board number, 0..65535 wrapping (R73). -/
abbrev BoardNo := Word16

/-- Loop state (R6). -/
inductive LoopState where
  | starting | up | down
  deriving DecidableEq, Repr

/-- Line state (03 3.2). -/
inductive LineState where
  | unconfigured | standby | run | draining | maintenance
  deriving DecidableEq, Repr

/-- Hold phase (12). -/
inductive HoldPhase where
  | none | stopping | held | resuming
  deriving DecidableEq, Repr

/-- Pot state (R138). -/
inductive PotState where
  | cold | melting | molten | ready | setback | fault
  deriving DecidableEq, Repr

/-- Feeder state (09 9.5). -/
inductive FeederState where
  | idle | feeding | settling | faulted
  deriving DecidableEq, Repr

/-- Freshness of a signal (R17, R18). -/
inductive Freshness where
  | noData | fresh | stale
  deriving DecidableEq, Repr

/-- Status of a sample arrival (R16). -/
inductive SampleStatus where
  | good | openWire | range
  deriving DecidableEq, Repr

/-- Cutoff action of an output (R24). -/
inductive CutoffAction where
  | off | safe | hold
  deriving DecidableEq, Repr

/-- The six cutoff groups (11 11.7). -/
inductive Group where
  | flux | preheat | potheat | wave | feed | extract
  deriving DecidableEq, Repr

/-- Disposition of a board (R74). -/
inductive Disposition where
  | goOn | rework
  deriving DecidableEq, Repr

/-- Flux status of a board (06 6.1). -/
inductive FluxStatus where
  | pending | spraying | done | skipped
  deriving DecidableEq, Repr

/-- Wave status of a board (R148, R149). -/
inductive WaveStatus where
  | pending | inContact | done | lowered
  deriving DecidableEq, Repr

/-- The defects of a board, in the bit order of the REPORT cell (01 1.8). -/
inductive Defect where
  | dose | temp | tempUnknown | fluxCut | holdInWave | unplanned | trackUnsure | noRecipe
  deriving DecidableEq, Repr

/-- State of a spray segment (06 6.1). -/
inductive SegState where
  | pending | opened | ending | closed | cut | dropped
  deriving DecidableEq, Repr

/-- Kind of a spray edge (R88). -/
inductive EdgeKind where
  | opening | closing
  deriving DecidableEq, Repr

/-- What the exit sensor's current board is (R79). -/
inductive ExitMatch where
  | none | matched | phantom
  deriving DecidableEq, Repr

/-- Outcome of a retired board (R83). -/
inductive BoardOutcome where
  | good | rework | lost
  deriving DecidableEq, Repr

/-- Capture state of the topside check (08 8.4). -/
inductive CaptureState where
  | waiting | armed | taken | unknown
  deriving DecidableEq, Repr

/-- Flux tank state (R103). -/
inductive TankState where
  | unknown | normal | low | empty
  deriving DecidableEq, Repr

/-- Demand of a duct (R160, R161). -/
inductive Demand where
  | base | boost
  deriving DecidableEq, Repr

/-- State of an alarm (R169). -/
inductive AlarmState where
  | clear | pending | active | latched
  deriving DecidableEq, Repr

/-- Class of an alarm (R169). -/
inductive AlarmClass where
  | soft | hard
  deriving DecidableEq, Repr

/-- Kind of an alarm (R169). -/
inductive AlarmKind where
  | level | event
  deriving DecidableEq, Repr

/-- Lock state of the hold record (R191). -/
inductive LockState where
  | locked | acknowledged
  deriving DecidableEq, Repr

/-- The two banks of a recipe slot (R60). -/
inductive BankId where
  | a | b
  deriving DecidableEq, Repr

/-- The eight writable tables, in the order of their codes 0..7 (R46). -/
inductive TableKind where
  | channel | output | geometry | line | limits | tuning | alarm | recipe
  deriving DecidableEq, Repr

/-- Action byte of a COMMAND cell (01 1.8). -/
inductive Action where
  | set | feed | abort
  deriving DecidableEq, Repr

/-- Reply statuses (01 1.8, 03 3.3). -/
inductive ReplyStatus where
  | ok | clamped | stageReplaced | busy | state | badIndex | badValue | notPermitted | locked | stillActive
  | nothingStaged | emptySlot | unknownRequest
  deriving DecidableEq, Repr

/-- What began a hold or activated a group: an alarm, or a request with its source address (R63, R179, 12). -/
inductive Cause where
  | alarm (a : AlarmIx)
  | request (src : Byte)
  deriving DecidableEq, Repr

/-- Who sent a request (R31). -/
inductive Source where
  | lineController | panel | otherNode
  deriving DecidableEq, Repr

end Sys2Proof.Machine
end

