-- ==== Sys2Proof/Config.lean ====
section
/-! DEFINITION. The constants of the part, and the one value the manual leaves open. -/

namespace Sys2Proof

/-- How many hand-overs between blocks one event may take before the model gives the event up and sets `overrun`.
DESIGN CHOICE (log entry 5): the manual gives no bound; no event is known to come near it. -/
def Config.cascadeBudget : Nat := 4294967296

/-- The order in which READ counts the wave statuses: the place of each among the four. DESIGN CHOICE (log entry 20): R62
codes a state by 'its place in the list of its states in its chapter', and chapter 9 lists the wave statuses in no order,
so the order is a free value: nothing can be proved of it but that it is an order of four. -/
opaque Config.waveStatusOrder : Equiv.Perm (Fin 4)

end Sys2Proof
end

