-- ==== Sys2Proof/Machine/State.lean ====
section
/-! DEFINITION. The state of the part: one structure for each of the thirteen blocks (00_scope.md 1.3), all plain data, and
the state after power-on reset. -/

namespace Sys2Proof.Machine

/-- No rule of the manual stops the part: what it finds is reported in alarms, cutoff groups and reply statuses, which are
state. The type has no constructor, so no step can fault. -/
inductive Fault where
  deriving DecidableEq, Repr

/-- Why a command has no meaning. -/
inductive Refusal where
  /-- Raised by `exec` alone, for a command that has no meaning yet; safe (the model stops). No arm raises it now. -/
  | notModelled (mnemonic : String)
  deriving DecidableEq, Repr

/-! ## LIF -/

/-- A COMMAND cell awaiting a train, with the output it belongs to (01 1.5). -/
structure CommandCell where
  output : OutIx
  dest : Byte
  channel : Byte
  value : Nat
  number : Byte
  action : Action
  deriving DecidableEq, Repr

/-- A TIMED_COMMAND cell awaiting a train, with the valve output it belongs to (01 1.5). -/
structure TimedCell where
  output : OutIx
  dest : Byte
  channel : Byte
  isOpen : Bool
  duty : Nat
  delay : Nat
  deriving DecidableEq, Repr

/-- A cell of the command queue. -/
inductive QueuedCell where
  | command (c : CommandCell)
  | timed (c : TimedCell)
  deriving DecidableEq, Repr

/-- The exit report of a retired record (R83). -/
structure ExitReport where
  number : BoardNo
  label : Nat
  outcome : BoardOutcome
  defects : Byte
  dose : Nat
  topside : Option Int
  chipMs : Nat
  laminarMs : Nat
  holds : Nat
  deriving DecidableEq, Repr

/-- A cell of the message queue: a REPLY (its data are bytes 5 to 13), or one of the two parts of an exit report. -/
inductive Message where
  | reply (dest tag : Byte) (status : ReplyStatus) (data : List Byte)
  | reportPart1 (dest : Byte) (report : ExitReport)
  | reportPart2 (dest : Byte) (report : ExitReport)
  deriving DecidableEq, Repr

/-- State of the Loop Interface (01 1.1). `sent` is the train last sent at the loop output, as cells. -/
structure Lif where
  cycle : Word32
  openCycle : Bool
  loopState : LoopState
  consecutiveComplete : Nat
  consecutiveLost : Nat
  blockCycles : Nat
  blockErrors : Nat
  lastBlockErrors : Nat
  checkErrors : Nat
  lateCells : Nat
  commandQueue : List QueuedCell
  carryList : List TimedCell
  deferredSet : List CommandCell
  messageQueue : List Message
  sent : List RawCell
  deriving DecidableEq, Repr

/-! ## SIG and OUT -/

/-- A signal record (R17). A timer is `none` when stopped and holds the time it was started with when running. -/
structure SignalRecord where
  lastGood : Option Int
  status : Option SampleStatus
  nonGood : Nat
  freshness : Freshness
  arrivalCycle : Word32
  staleTimer : Option Nat
  deriving DecidableEq, Repr

/-- An output record (R23). -/
structure OutputRecord where
  automatic : Nat
  manual : Option Nat
  held : Nat
  delivered : Nat
  deriving DecidableEq, Repr

/-- The last operation handed to the feeder O21 (R28). -/
structure FeederOperation where
  action : Action
  quantity : Nat
  number : Byte
  deriving DecidableEq, Repr

/-- State of the Output Table. -/
structure Out where
  records : Vector OutputRecord 23
  operation : Option FeederOperation
  deriving DecidableEq, Repr

/-! ## MRU and TBS -/

/-- Field values of a table, each named by item and field number (R46), in rising order of (item, field). -/
abbrev FieldMap := List (Nat × Nat × Int)

/-- A staging buffer that is not empty: the index it holds and its staged fields (04 4.2). -/
structure StagingBuffer where
  index : Nat
  fields : FieldMap
  deriving DecidableEq, Repr

/-- The configured set (R34). -/
structure ConfiguredSet where
  channel : Bool
  output : Bool
  geometry : Bool
  line : Bool
  limits : Bool
  tuning : Bool
  deriving DecidableEq, Repr

/-- The eight staging buffers (04 4.2). -/
structure StagingBuffers where
  channel : Option StagingBuffer
  output : Option StagingBuffer
  geometry : Option StagingBuffer
  line : Option StagingBuffer
  limits : Option StagingBuffer
  tuning : Option StagingBuffer
  alarm : Option StagingBuffer
  recipe : Option StagingBuffer
  deriving DecidableEq, Repr

/-- State of the Management Request Unit (03 3.1). -/
structure Mru where
  line : LineState
  configured : ConfiguredSet
  lineSpeed : Option Nat
  nextSlot : SlotIx
  staging : StagingBuffers
  limitsLock : Bool
  dropped : Nat
  deriving DecidableEq, Repr

/-- The programmable part of an alarm record (R169, R177): bits 0 to 5 of the link set are the groups FLUX to EXTRACT, bit
6 the hold, bit 7 admission. -/
structure AlarmEntry where
  cls : AlarmClass
  masked : Bool
  delay : Nat
  links : BitVec 8
  deriving DecidableEq, Repr

/-- A recipe bank (R60). -/
structure Bank where
  filled : Bool
  fields : FieldMap
  references : Nat
  deriving DecidableEq, Repr

/-- A recipe slot (R60). -/
structure Slot where
  bankA : Bank
  bankB : Bank
  pointer : BankId
  deriving DecidableEq, Repr

/-- State of the Table Store (04). A field that no commit has written reads 0 (R49). -/
structure Tbs where
  channel : FieldMap
  output : FieldMap
  outputCommitted : Vector Bool 23
  geometry : FieldMap
  line : FieldMap
  limits : FieldMap
  tuning : FieldMap
  alarms : Vector AlarmEntry 43
  slots : Vector Slot 16
  deriving DecidableEq, Repr

/-! ## BTK -/

/-- A board record (R74). -/
structure Board where
  number : BoardNo
  bank : Option (SlotIx × BankId)
  lead : Word32
  length : Option Int
  unplanned : Bool
  disposition : Disposition
  flux : FluxStatus
  dose : Nat
  topside : Option Int
  wave : WaveStatus
  chipMs : Nat
  laminarMs : Nat
  defects : Byte
  holds : Nat
  lossMark : Bool
  exitMatched : Bool
  deriving DecidableEq, Repr

/-- A board sensor filter (R69). -/
structure SensorFilter where
  level : Bool
  runCount : Nat
  runStamp : Word32
  deriving DecidableEq, Repr

/-- State of the Board Tracker (05). The gate command is OPEN when `gateOpen` is set. -/
structure Btk where
  position : Word32
  reference : Option Word16
  history : List Word32
  v8 : Option Int
  gap : Bool
  entryFilter : SensorFilter
  exitFilter : SensorFilter
  entryBoard : Option BoardNo
  lastEntryTail : Option Word32
  exitMatch : ExitMatch
  gateOpen : Bool
  train : List Board
  nextNumber : BoardNo
  exits : List ExitReport
  noMotionTimer : Option Nat
  faultCondition : Bool
  deriving DecidableEq, Repr

/-! ## FLX -/

/-- A spray edge (R88). -/
structure Edge where
  position : Word32
  board : BoardNo
  segment : Nat
  kind : EdgeKind
  deriving DecidableEq, Repr

/-- A segment of a spray run. -/
structure Segment where
  number : Nat
  state : SegState
  deriving DecidableEq, Repr

/-- The spray record of a board (06). -/
structure SprayRecord where
  board : BoardNo
  segments : List Segment
  runClosing : Bool
  dose : Nat
  deriving DecidableEq, Repr

/-- State, duty and owner of a nozzle (R91). -/
structure NozzleView where
  isOpen : Bool
  duty : Nat
  owner : Option BoardNo
  deriving DecidableEq, Repr

/-- A nozzle record: what the segments make of it, and its interval plan (R95): the view at the interval's start and the
changes handed at the sample that opened it, each with its delay. `closeOwed` marks the close that R99 leaves to the next
scheduling sample. -/
structure Nozzle where
  view : NozzleView
  planStart : NozzleView
  planChanges : List (Nat × NozzleView)
  closeOwed : Bool
  deriving DecidableEq, Repr

/-- State of the Flux Controller (06). -/
structure Flx where
  edges : List Edge
  sprays : List SprayRecord
  nozzles : Vector Nozzle 8
  forcing : Bool
  lastAccounted : Option Word32
  lateEdges : Nat
  tank : TankState
  deriving DecidableEq, Repr

/-! ## TLE and PHM -/

/-- A loop record (07 7.1). -/
structure LoopRecord where
  setpoint : Option Int
  integrator : Int
  uPrev : Int
  invalidCount : Nat
  lastMeasurement : Option Int
  lastComputation : Option Word32
  sensorLost : Bool
  overTemp : Bool
  deriving DecidableEq, Repr

/-- State of the Thermal Loop Engine. -/
structure Tle where
  loops : Vector LoopRecord 8
  deriving DecidableEq, Repr

/-- State of the Preheat Manager (08). -/
structure Phm where
  governing : Vector (Option BoardNo) 6
  span : Vector (Option BoardNo) 6
  captures : List (BoardNo × CaptureState)
  phase : HoldPhase
  deriving DecidableEq, Repr

/-! ## POT -/

/-- A pump record (R143, R145, R146). -/
structure Pump where
  governing : Option BoardNo
  atSpeedCount : Nat
  atSpeed : Bool
  grace : Option Nat
  fault : Bool
  deriving DecidableEq, Repr

/-- The flags of one board at one wave (09). -/
structure WaveFlags where
  entered : Bool
  governed : Bool
  contact : Bool
  deriving DecidableEq, Repr

/-- The wave record of a board (R150). -/
structure WaveRecord where
  board : BoardNo
  chip : WaveFlags
  laminar : WaveFlags
  deriving DecidableEq, Repr

/-- The feeder operation record (09 9.5). -/
structure Feeder where
  state : FeederState
  number : Byte
  levelBefore : Option Int
  delivered : Nat
  aborted : Bool
  ineffective : Nat
  feedTimer : Option Nat
  settleTimer : Option Nat
  deriving DecidableEq, Repr

/-- State of the Pot Controller (09). -/
structure Pot where
  temperature : Option Int
  state : PotState
  meltTimer : Option Nat
  setbackTimer : Option Nat
  chip : Pump
  laminar : Pump
  waves : List WaveRecord
  levelWindow : List Int
  level : Option Int
  feeder : Feeder
  debt : Int
  ignored : Nat
  lastEncoder : Option Word32
  deriving DecidableEq, Repr

/-! ## EXM, ACU and HLD -/

/-- What EXM holds of one duct (10), with the delivered command of the pump of the same number. -/
structure DuctRecord where
  demand : Demand
  fanAutomatic : Nat
  fanDelivered : Nat
  pumpDelivered : Nat
  grace : Option Nat
  airflow : Bool
  filter : Bool
  fanFault : Bool
  deriving DecidableEq, Repr

/-- State of the Extraction Monitor. -/
structure Exm where
  duct1 : DuctRecord
  duct2 : DuctRecord
  flame : Bool
  deriving DecidableEq, Repr

/-- The part of an alarm record that is ACU's own (R169). -/
structure AlarmRecord where
  state : AlarmState
  count : Nat
  occurrences : Nat
  raiseCycle : Option Word32
  deriving DecidableEq, Repr

/-- A cutoff group record (R179). -/
structure GroupRecord where
  active : Bool
  manual : Bool
  cause : Option Cause
  deriving DecidableEq, Repr

/-- State of the Alarm and Cutoff Unit. `a41Btk` and `a41Hld` are the last conditions given for A41 (R169). -/
structure Acu where
  alarms : Vector AlarmRecord 43
  groups : Vector GroupRecord 6
  a41Btk : Bool
  a41Hld : Bool
  deriving DecidableEq, Repr

/-- A board line of the hold record (12). -/
structure BoardLine where
  board : BoardNo
  leadOffset : Int
  flux : FluxStatus
  wave : WaveStatus
  nozzleOpen : Bool
  disposition : Disposition
  forcedRework : Bool
  deriving DecidableEq, Repr

/-- The hold record (12). -/
structure HoldRecord where
  episode : Word16
  primary : Cause
  later : List Cause
  notListed : Nat
  entryPosition : Word32
  stopPosition : Option Word32
  lock : LockState
  lines : List BoardLine
  deriving DecidableEq, Repr

/-- State of the Hold Controller. -/
structure Hld where
  phase : HoldPhase
  episode : Word16
  record : Option HoldRecord
  stopTimer : Option Nat
  resumeTimer : Option Nat
  stillCount : Nat
  faultCondition : Bool
  deriving DecidableEq, Repr

/-- The state of the part, and of the model around it: `pending` is the queue of waiting commands, oldest first, and
`overrun` is set once the hand-overs of an event did not end within the budget (log entry 5). -/
structure State where
  lif : Lif
  sig : Vector SignalRecord 23
  out : Out
  mru : Mru
  tbs : Tbs
  btk : Btk
  flx : Flx
  tle : Tle
  phm : Phm
  pot : Pot
  exm : Exm
  acu : Acu
  hld : Hld
  overrun : Bool
  pending : List Instr
  deriving DecidableEq, Repr

/-! ## Power-on reset -/

/-- A link set from its group links and its hold and admission links (R177, field 4). -/
def linkSet (flux preheat potheat wave feed extract hold admission : Bool) : BitVec 8 :=
  BitVec.ofNat 8 (flux.toNat + 2 * preheat.toNat + 4 * potheat.toNat + 8 * wave.toNat + 16 * feed.toNat
    + 32 * extract.toNat + 64 * hold.toNat + 128 * admission.toNat)

/-- The ALARM table after power-on reset (R170), and the fixed part of a fixed alarm's entry. -/
def alarmDefault (a : AlarmIx) : AlarmEntry :=
  let n := a.val
  let none' := linkSet false false false false false false false false
  let hold := linkSet false false false false false false true false
  let preheat := linkSet false true false false false false false false
  let potheat := linkSet false false true false false false false false
  let waveHold := linkSet false false false true false false true false
  let feed := linkSet false false false false true false false false
  let holdAdmission := linkSet false false false false false false true true
  if n = 0 then ⟨.hard, false, 0, holdAdmission⟩
  else if n ≤ 2 then ⟨.soft, false, 0, none'⟩
  else if n ≤ 8 then ⟨.hard, false, 3, preheat⟩
  else if n ≤ 10 then ⟨.hard, false, 3, potheat⟩
  else if n ≤ 16 then ⟨.hard, false, 25, preheat⟩
  else if n ≤ 18 then ⟨.hard, false, 25, potheat⟩
  else if n = 19 then ⟨.hard, false, 0, hold⟩
  else if n = 20 then ⟨.hard, false, 10, waveHold⟩
  else if n = 21 then ⟨.hard, false, 10, feed⟩
  else if n = 22 then ⟨.soft, false, 10, feed⟩
  else if n = 23 then ⟨.soft, false, 0, none'⟩
  else if n = 24 then ⟨.hard, false, 0, feed⟩
  else if n = 25 then ⟨.hard, false, 10, waveHold⟩
  else if n = 26 then ⟨.soft, false, 50, none'⟩
  else if n = 27 then ⟨.hard, false, 50, linkSet true false false false false false false true⟩
  else if n ≤ 29 then ⟨.soft, false, 0, none'⟩
  else if n = 30 then ⟨.hard, false, 100, linkSet true true false false false false false true⟩
  else if n = 31 then ⟨.hard, false, 100, waveHold⟩
  else if n ≤ 33 then ⟨.soft, false, 255, none'⟩
  else if n = 34 then ⟨.hard, false, 100, linkSet true true false false false false true false⟩
  else if n = 35 then ⟨.hard, false, 100, waveHold⟩
  else if n = 36 then ⟨.hard, false, 0, linkSet true true false false false true true true⟩
  else if n = 37 then ⟨.hard, false, 0, hold⟩
  else if n ≤ 39 then ⟨.soft, false, 0, none'⟩
  else if n = 40 then ⟨.hard, false, 25, holdAdmission⟩
  else if n = 41 then ⟨.hard, false, 0, hold⟩
  else ⟨.hard, false, 0, holdAdmission⟩

/-- LIF after power-on reset (R13). -/
def Lif.reset : Lif :=
  { cycle := 0, openCycle := false, loopState := .starting, consecutiveComplete := 0, consecutiveLost := 0,
    blockCycles := 0, blockErrors := 0, lastBlockErrors := 0, checkErrors := 0, lateCells := 0, commandQueue := [],
    carryList := [], deferredSet := [], messageQueue := [], sent := [] }

/-- A signal record after power-on reset (R21), and after its channel is remapped (R19). -/
def SignalRecord.reset : SignalRecord :=
  { lastGood := none, status := none, nonGood := 0, freshness := .noData, arrivalCycle := 0, staleTimer := none }

/-- OUT after power-on reset (R29). -/
def Out.reset : Out :=
  { records := Vector.replicate 23 { automatic := 0, manual := none, held := 0, delivered := 0 }, operation := none }

/-- MRU after power-on reset (R45). -/
def Mru.reset : Mru :=
  { line := .unconfigured,
    configured := { channel := false, output := false, geometry := false, line := false, limits := false, tuning := false },
    lineSpeed := none, nextSlot := 0,
    staging := { channel := none, output := none, geometry := none, line := none, limits := none, tuning := none,
                 alarm := none, recipe := none },
    limitsLock := false, dropped := 0 }

/-- TBS after power-on reset (R64). -/
def Tbs.reset : Tbs :=
  { channel := [], output := [], outputCommitted := Vector.replicate 23 false, geometry := [], line := [], limits := [],
    tuning := [], alarms := Vector.ofFn alarmDefault,
    slots := Vector.replicate 16 { bankA := ⟨false, [], 0⟩, bankB := ⟨false, [], 0⟩, pointer := .a } }

/-- BTK after power-on reset (R86). The run stamps are the model's choice (log entry 26). -/
def Btk.reset : Btk :=
  { position := 0, reference := none, history := [], v8 := none, gap := false, entryFilter := ⟨false, 0, 0⟩,
    exitFilter := ⟨false, 0, 0⟩, entryBoard := none, lastEntryTail := none, exitMatch := .none, gateOpen := false,
    train := [], nextNumber := 0, exits := [], noMotionTimer := none, faultCondition := false }

/-- The view of a closed nozzle (R91). -/
def NozzleView.closed : NozzleView := { isOpen := false, duty := 0, owner := none }

/-- A closed nozzle with a plan closed throughout (R99, R104). -/
def Nozzle.closed : Nozzle := { view := .closed, planStart := .closed, planChanges := [], closeOwed := false }

/-- FLX after power-on reset (R104). -/
def Flx.reset : Flx :=
  { edges := [], sprays := [], nozzles := Vector.replicate 8 Nozzle.closed, forcing := true, lastAccounted := none,
    lateEdges := 0, tank := .unknown }

/-- A loop record after power-on reset (R122). -/
def LoopRecord.reset : LoopRecord :=
  { setpoint := none, integrator := 0, uPrev := 0, invalidCount := 0, lastMeasurement := none, lastComputation := none,
    sensorLost := false, overTemp := false }

/-- PHM after power-on reset (R135). -/
def Phm.reset : Phm :=
  { governing := Vector.replicate 6 none, span := Vector.replicate 6 none, captures := [], phase := .none }

/-- A pump record after power-on reset (R158). -/
def Pump.reset : Pump := { governing := none, atSpeedCount := 0, atSpeed := false, grace := none, fault := false }

/-- POT after power-on reset (R158). -/
def Pot.reset : Pot :=
  { temperature := none, state := .cold, meltTimer := none, setbackTimer := none, chip := .reset, laminar := .reset,
    waves := [], levelWindow := [], level := none,
    feeder := { state := .idle, number := 0, levelBefore := none, delivered := 0, aborted := false, ineffective := 0,
                feedTimer := none, settleTimer := none },
    debt := 0, ignored := 0, lastEncoder := none }

/-- A duct record after power-on reset (R168). -/
def DuctRecord.reset : DuctRecord :=
  { demand := .base, fanAutomatic := 0, fanDelivered := 0, pumpDelivered := 0, grace := none, airflow := false,
    filter := false, fanFault := false }

/-- ACU after power-on reset (R183). -/
def Acu.reset : Acu :=
  { alarms := Vector.replicate 43 { state := .clear, count := 0, occurrences := 0, raiseCycle := none },
    groups := Vector.replicate 6 { active := false, manual := false, cause := none }, a41Btk := false, a41Hld := false }

/-- HLD after power-on reset (R196). -/
def Hld.reset : Hld :=
  { phase := .none, episode := 0, record := none, stopTimer := none, resumeTimer := none, stillCount := 0,
    faultCondition := false }

/-- The part right after power-on reset (R13, R21, R29, R45, R64, R86, R104, R122, R135, R158, R168, R183, R196), with no
command waiting. -/
def State.reset : State :=
  { lif := .reset, sig := Vector.replicate 23 .reset, out := .reset, mru := .reset, tbs := .reset, btk := .reset,
    flx := .reset, tle := { loops := Vector.replicate 8 .reset }, phm := .reset, pot := .reset,
    exm := { duct1 := .reset, duct2 := .reset, flame := false }, acu := .reset, hld := .reset, overrun := false,
    pending := [] }

end Sys2Proof.Machine
end

