-- ==== Sys2Proof/Machine/Ops.lean ====
section
/-! DEFINITION. The operations every block shares: numbered names, arithmetic of 00_scope.md 4, field maps, the named fields of
the committed tables (04 4.4, 4.5), and the readers of other blocks' state. -/

namespace Sys2Proof.Machine

/-! ## Numbered names (00_scope.md 4.5) -/

/-- Signal S n. -/
def S (n : Nat) : SigIx := Fin.ofNat 23 (n - 1)
/-- Output O n. -/
def O (n : Nat) : OutIx := Fin.ofNat 23 (n - 1)
/-- Thermal loop L n. -/
def L (n : Nat) : LoopIx := Fin.ofNat 8 (n - 1)
/-- Alarm A n. -/
def A (n : Nat) : AlarmIx := Fin.ofNat 43 n

/-- All signals, outputs, loops, zones, nozzles and alarms, each in number order. -/
def allSignals : List SigIx := List.finRange 23
@[inherit_doc allSignals] def allOutputs : List OutIx := List.finRange 23
@[inherit_doc allSignals] def allLoops : List LoopIx := List.finRange 8
@[inherit_doc allSignals] def allZones : List ZoneIx := List.finRange 6
@[inherit_doc allSignals] def allNozzles : List NozzleIx := List.finRange 8
@[inherit_doc allSignals] def allAlarms : List AlarmIx := List.finRange 43

/-- The groups in the order of their codes (R63). -/
def allGroups : List Group := [.flux, .preheat, .potheat, .wave, .feed, .extract]

/-! ## Arithmetic (00_scope.md 4.2, 4.4) -/

/-- The difference of two positions or cycle numbers, taken modulo 2^32 and read as signed. -/
def signedDiff (a b : Word32) : Int := (a - b).toInt

/-- 'Clamped to [lo, hi]'. -/
def clamp (lo hi x : Int) : Int := if x < lo then lo else if hi < x then hi else x

/-- A count that saturates at `top`. -/
def satAdd (top n k : Nat) : Nat := min top (n + k)

/-! ## Vectors -/

/-- A vector with one place changed. -/
def vset {α : Type} {n : Nat} (v : Vector α n) (i : Fin n) (x : α) : Vector α n := v.set i.val x i.isLt

/-! ## Field maps (R46) -/

/-- The value of a field, if the map holds one. -/
def lookupField : FieldMap → Nat → Nat → Option Int
  | [], _, _ => none
  | (i, f, v) :: m, item, field => if i = item ∧ f = field then some v else lookupField m item field

/-- The value of a field; a field that is not there reads 0 (R49, step 4). -/
def fieldOf (m : FieldMap) (item field : Nat) : Int := (lookupField m item field).getD 0

/-- The map with one field set; entries stay in rising order of (item, field). -/
def putField : FieldMap → Nat → Nat → Int → FieldMap
  | [], item, field, v => [(item, field, v)]
  | (i, f, w) :: m, item, field, v =>
    if i = item ∧ f = field then (item, field, v) :: m
    else if item < i ∨ (item = i ∧ field < f) then (item, field, v) :: (i, f, w) :: m
    else (i, f, w) :: putField m item field v

/-- The map without one field. -/
def dropField (m : FieldMap) (item field : Nat) : FieldMap := m.filter fun e => !(e.1 == item && e.2.1 == field)

/-! ## CHANNEL and OUTPUT (R54) -/

/-- CHANNEL field 1. -/
def channelMapped (t : Tbs) (i : SigIx) : Bool := fieldOf t.channel (i.val + 1) 1 == 1
/-- CHANNEL field 2. -/
def channelNode (t : Tbs) (i : SigIx) : Int := fieldOf t.channel (i.val + 1) 2
/-- CHANNEL field 3. -/
def channelChannel (t : Tbs) (i : SigIx) : Int := fieldOf t.channel (i.val + 1) 3
/-- CHANNEL field 4. -/
def channelStaleLimit (t : Tbs) (i : SigIx) : Nat := (fieldOf t.channel (i.val + 1) 4).toNat
/-- CHANNEL field 5. -/
def channelStaleAlarm (t : Tbs) (i : SigIx) : Bool := fieldOf t.channel (i.val + 1) 5 == 1

/-- OUTPUT field 1. -/
def outputNode (t : Tbs) (o : OutIx) : Byte := BitVec.ofInt 8 (fieldOf t.output (o.val + 1) 1)
/-- OUTPUT field 2. -/
def outputChannel (t : Tbs) (o : OutIx) : Byte := BitVec.ofInt 8 (fieldOf t.output (o.val + 1) 2)
/-- OUTPUT field 3. -/
def outputLimit (t : Tbs) (o : OutIx) : Nat := (fieldOf t.output (o.val + 1) 3).toNat
/-- OUTPUT field 4. -/
def outputAction (t : Tbs) (o : OutIx) : CutoffAction :=
  if fieldOf t.output (o.val + 1) 4 = 1 then .safe else if fieldOf t.output (o.val + 1) 4 = 2 then .hold else .off
/-- OUTPUT field 5. -/
def outputSafe (t : Tbs) (o : OutIx) : Nat := (fieldOf t.output (o.val + 1) 5).toNat
/-- OUTPUT field 6; a valve whose entry has never been committed has flow 0 (R96). -/
def outputFlow (t : Tbs) (o : OutIx) : Nat :=
  if t.outputCommitted[o] then (fieldOf t.output (o.val + 1) 6).toNat else 0

/-! ## GEOMETRY (R55) -/

/-- Item of a wave in GEOMETRY, LINE and RECIPE fields: 1 chip, 2 laminar. -/
def waveItem : Wave → Nat
  | .chip => 1
  | .laminar => 2

/-- Item of a duct or its fan: 1 or 2. -/
def ductItem : Duct → Nat
  | .one => 1
  | .two => 2

/-- Field 1, P_f. -/
def fluxStation (t : Tbs) : Int := fieldOf t.geometry 0 1
/-- Field 2. -/
def zoneStart (t : Tbs) (z : ZoneIx) : Int := fieldOf t.geometry (z.val + 1) 2
/-- Field 3. -/
def zoneEnd (t : Tbs) (z : ZoneIx) : Int := fieldOf t.geometry (z.val + 1) 3
/-- Field 4. -/
def zoneLookAhead (t : Tbs) (z : ZoneIx) : Int := fieldOf t.geometry (z.val + 1) 4
/-- Field 5. -/
def pyrometerPosition (t : Tbs) : Int := fieldOf t.geometry 0 5
/-- Field 6. -/
def wavePosition (t : Tbs) (w : Wave) : Int := fieldOf t.geometry (waveItem w) 6
/-- Field 7. -/
def wavePre (t : Tbs) (w : Wave) : Int := fieldOf t.geometry (waveItem w) 7
/-- Field 8. -/
def wavePost (t : Tbs) (w : Wave) : Int := fieldOf t.geometry (waveItem w) 8
/-- Field 9. -/
def contactHalfWidth (t : Tbs) (w : Wave) : Int := fieldOf t.geometry (waveItem w) 9
/-- Field 10, P_x. -/
def exitPosition (t : Tbs) : Int := fieldOf t.geometry 0 10
/-- Field 11, W. -/
def exitWindow (t : Tbs) : Int := fieldOf t.geometry 0 11
/-- Field 12. -/
def minimumGap (t : Tbs) : Int := fieldOf t.geometry 0 12
/-- Field 13, item 1. -/
def entryFilterCount (t : Tbs) : Nat := (fieldOf t.geometry 1 13).toNat
/-- Field 13, item 2. -/
def exitFilterCount (t : Tbs) : Nat := (fieldOf t.geometry 2 13).toNat
/-- Field 14, L_ref. -/
def levelReference (t : Tbs) : Int := fieldOf t.geometry 0 14

/-! ## LINE (R56) -/

/-- Field 1. -/
def conveyorSpeed (t : Tbs) : Nat := (fieldOf t.line 0 1).toNat
/-- Field 2. -/
def controllerAddress (t : Tbs) : Byte := BitVec.ofInt 8 (fieldOf t.line 0 2)
/-- Field 3. -/
def panelAddress (t : Tbs) : Byte := BitVec.ofInt 8 (fieldOf t.line 0 3)
/-- Field 4. -/
def liquidus (t : Tbs) : Int := fieldOf t.line 0 4
/-- Field 5. -/
def meltDwell (t : Tbs) : Nat := (fieldOf t.line 0 5).toNat
/-- Field 6. -/
def potSetpoint (t : Tbs) : Int := fieldOf t.line 0 6
/-- Field 7. -/
def potBand (t : Tbs) : Int := fieldOf t.line 0 7
/-- Field 8. -/
def setbackSetpoint (t : Tbs) : Int := fieldOf t.line 0 8
/-- Field 9. -/
def setbackDelay (t : Tbs) : Nat := (fieldOf t.line 0 9).toNat
/-- Field 10. -/
def idlePumpSpeed (t : Tbs) (w : Wave) : Nat := (fieldOf t.line (waveItem w) 10).toNat
/-- Field 11. -/
def fanBaseSpeed (t : Tbs) (d : Duct) : Nat := (fieldOf t.line (ductItem d) 11).toNat
/-- Field 12. -/
def fanBoostSpeed (t : Tbs) (d : Duct) : Nat := (fieldOf t.line (ductItem d) 12).toNat
/-- Field 13. -/
def fanGrace (t : Tbs) : Nat := (fieldOf t.line 0 13).toNat
/-- Field 14. -/
def pumpGrace (t : Tbs) : Nat := (fieldOf t.line 0 14).toNat
/-- Field 15. -/
def stopTimeout (t : Tbs) : Nat := (fieldOf t.line 0 15).toNat
/-- Field 16. -/
def resumeTimeout (t : Tbs) : Nat := (fieldOf t.line 0 16).toNat
/-- Field 17. -/
def feedQuantum (t : Tbs) : Int := fieldOf t.line 0 17
/-- Field 18. -/
def feedTimeout (t : Tbs) : Nat := (fieldOf t.line 0 18).toNat
/-- Field 19. -/
def settleTime (t : Tbs) : Nat := (fieldOf t.line 0 19).toNat
/-- Field 20. -/
def risePerGram (t : Tbs) : Int := fieldOf t.line 0 20
/-- Field 21. -/
def degradedThreshold (t : Tbs) : Int := fieldOf t.line 0 21

/-! ## LIMITS (R57) -/

/-- Field 1. -/
def maxSetpoint (t : Tbs) (l : LoopIx) : Int := fieldOf t.limits (l.val + 1) 1
/-- Field 2, u_max. -/
def outputMax (t : Tbs) (l : LoopIx) : Int := fieldOf t.limits (l.val + 1) 2
/-- Field 3. -/
def overTempThreshold (t : Tbs) (l : LoopIx) : Int := fieldOf t.limits (l.val + 1) 3
/-- Field 4: items 1 LL, 2 LOW, 3 HIGH, 4 HH. -/
def levelLL (t : Tbs) : Int := fieldOf t.limits 1 4
@[inherit_doc levelLL] def levelLow (t : Tbs) : Int := fieldOf t.limits 2 4
@[inherit_doc levelLL] def levelHigh (t : Tbs) : Int := fieldOf t.limits 3 4
@[inherit_doc levelLL] def levelHH (t : Tbs) : Int := fieldOf t.limits 4 4
/-- Field 5. -/
def minimumAirflow (t : Tbs) (d : Duct) : Int := fieldOf t.limits (ductItem d) 5
/-- Field 6. -/
def maximumFilterPressure (t : Tbs) (d : Duct) : Int := fieldOf t.limits (ductItem d) 6
/-- Field 7. -/
def minimumFanSpeed (t : Tbs) (d : Duct) : Int := fieldOf t.limits (ductItem d) 7
/-- Field 8: items 1 low, 2 empty. -/
def tankLow (t : Tbs) : Int := fieldOf t.limits 1 8
@[inherit_doc tankLow] def tankEmpty (t : Tbs) : Int := fieldOf t.limits 2 8

/-! ## TUNING (R58) -/

/-- Field 1. -/
def gainKp (t : Tbs) (l : LoopIx) : Int := fieldOf t.tuning (l.val + 1) 1
/-- Field 2. -/
def gainKi (t : Tbs) (l : LoopIx) : Int := fieldOf t.tuning (l.val + 1) 2
/-- Field 3. -/
def rampRate (t : Tbs) (l : LoopIx) : Int := fieldOf t.tuning (l.val + 1) 3
/-- Field 4. -/
def slewRate (t : Tbs) (l : LoopIx) : Int := fieldOf t.tuning (l.val + 1) 4
/-- Field 5, H. -/
def invalidHold (t : Tbs) (l : LoopIx) : Int := fieldOf t.tuning (l.val + 1) 5
/-- Field 6. -/
def standbySetpoint (t : Tbs) (l : LoopIx) : Int := fieldOf t.tuning (l.val + 1) 6

/-! ## RECIPE (R59), as fields of a bank -/

/-- Field 1. -/
def recipeLabel (m : FieldMap) : Nat := (fieldOf m 0 1).toNat
/-- Field 2, Z. -/
def zoneTarget (m : FieldMap) (z : ZoneIx) : Int := fieldOf m (z.val + 1) 2
/-- Field 3, F. -/
def zoneFeedforward (m : FieldMap) (z : ZoneIx) : Int := fieldOf m (z.val + 1) 3
/-- Field 4. -/
def segmentCount (m : FieldMap) : Nat := (fieldOf m 0 4).toNat
/-- Field 5: bit 0 names nozzle 1. -/
def segmentMask (m : FieldMap) (k : Nat) : BitVec 8 := BitVec.ofInt 8 (fieldOf m k 5)
/-- Field 6. -/
def segmentStart (m : FieldMap) (k : Nat) : Int := fieldOf m k 6
/-- Field 7. -/
def segmentEnd (m : FieldMap) (k : Nat) : Int := fieldOf m k 7
/-- Field 8. -/
def segmentDuty (m : FieldMap) (k : Nat) : Nat := (fieldOf m k 8).toNat
/-- Fields 9 and 10. -/
def doseMinimum (m : FieldMap) : Int := fieldOf m 0 9
@[inherit_doc doseMinimum] def doseMaximum (m : FieldMap) : Int := fieldOf m 0 10
/-- Fields 11 and 12. -/
def topsideMinimum (m : FieldMap) : Int := fieldOf m 0 11
@[inherit_doc topsideMinimum] def topsideMaximum (m : FieldMap) : Int := fieldOf m 0 12
/-- Field 13. -/
def waveSpeed (m : FieldMap) (w : Wave) : Nat := (fieldOf m (waveItem w) 13).toNat
/-- Field 14. -/
def solderUse (m : FieldMap) : Int := fieldOf m 0 14
/-- Field 15. -/
def maximumLength (m : FieldMap) : Int := fieldOf m 0 15

/-! ## Recipe slots and banks (R60) -/

/-- One of the two banks of a slot. -/
def slotBank (s : Slot) : BankId → Bank
  | .a => s.bankA
  | .b => s.bankB

/-- The slot with one bank changed. -/
def setSlotBank (s : Slot) (bank : BankId) (x : Bank) : Slot :=
  match bank with
  | .a => { s with bankA := x }
  | .b => { s with bankB := x }

/-- The bank the admit pointer does not name (R60). -/
def otherBank : BankId → BankId
  | .a => .b
  | .b => .a

/-- The admit bank of a slot. -/
def admitBank (s : Slot) : Bank := slotBank s s.pointer

/-- Change the reference count of a bank. -/
def mapReferences (t : Tbs) (at' : SlotIx × BankId) (f : Nat → Nat) : Tbs :=
  let sl := t.slots[at'.1]
  let b := slotBank sl at'.2
  { t with slots := vset t.slots at'.1 (setSlotBank sl at'.2 { b with references := f b.references }) }

/-- The fields of the bank a board was admitted with, if it has one (R59). -/
def bankOf (t : Tbs) (b : Board) : Option FieldMap := b.bank.map fun p => (slotBank t.slots[p.1] p.2).fields

/-! ## The board train (R74, R77) -/

/-- The record of a board in the train. -/
def findBoard (train : List Board) (n : BoardNo) : Option Board := train.find? fun b => b.number == n

/-- Change the record of one board; a write that names a board no longer in the train changes nothing (R78). -/
def mapBoard (s : State) (n : BoardNo) (f : Board → Board) : State :=
  { s with btk := { s.btk with train := s.btk.train.map fun b => if b.number = n then f b else b } }

/-- A board's offset at a position (R74). -/
def boardOffset (position : Word32) (b : Board) : Int := signedDiff position b.lead

/-- A board's extent, lower and upper bound (R125). -/
def boardExtent (position : Word32) (b : Board) : Int × Int :=
  let off := boardOffset position b
  match b.length with
  | some len => (off - len, off)
  | none => if off < 0 then (off, 0) else (0, off)

/-- A board overlaps an interval of offsets when they share at least one offset, bounds included (R125). -/
def overlaps (position : Word32) (b : Board) (lo hi : Int) : Bool :=
  decide ((boardExtent position b).1 ≤ hi) && decide (lo ≤ (boardExtent position b).2)

/-- The bit of a defect in the defect set (01 1.8). -/
def defectBit : Defect → Byte
  | .dose => 1
  | .temp => 2
  | .tempUnknown => 4
  | .fluxCut => 8
  | .holdInWave => 16
  | .unplanned => 32
  | .trackUnsure => 64
  | .noRecipe => 128

/-! ## Cutoff groups and alarms -/

/-- Place of a group in the order FLUX, PREHEAT, POTHEAT, WAVE, FEED, EXTRACT (R63). -/
def groupIx : Group → Fin 6
  | .flux => 0
  | .preheat => 1
  | .potheat => 2
  | .wave => 3
  | .feed => 4
  | .extract => 5

/-- The group is ACTIVE. -/
def groupActive (s : State) (g : Group) : Bool := (s.acu.groups[groupIx g]).active

/-- The cutoff group of an output (02 2.2). -/
def outputGroup (o : OutIx) : Option Group :=
  let n := o.val + 1
  if n ≤ 6 then some .preheat else if n ≤ 8 then some .potheat else if n ≤ 16 then some .flux
  else if n ≤ 18 then some .wave else if n ≤ 20 then none else if n = 21 then some .feed else some .extract

/-- The outputs of a group that take a cutoff level (02 2.2); FEED has none (R28). R179 gives no order among them: number order
(DESIGN CHOICE, log entry 40). -/
def groupOutputs : Group → List OutIx
  | .flux => [O 9, O 10, O 11, O 12, O 13, O 14, O 15, O 16]
  | .preheat => [O 1, O 2, O 3, O 4, O 5, O 6]
  | .potheat => [O 7, O 8]
  | .wave => [O 17, O 18]
  | .feed => []
  | .extract => [O 22, O 23]

/-- The bit of the hold link and of the admission link in a link set (R177). -/
def holdLink (links : BitVec 8) : Bool := links.getLsbD 6
@[inherit_doc holdLink] def admissionLink (links : BitVec 8) : Bool := links.getLsbD 7
/-- The link of a link set to a group (R177). -/
def groupLink (links : BitVec 8) (g : Group) : Bool := links.getLsbD (groupIx g).val

/-- Kind of an alarm (R170). -/
def alarmKind (a : AlarmIx) : AlarmKind :=
  if a.val ∈ [19, 23, 24, 28, 29, 37, 38, 39, 42] then .event else .level

/-- Fixed flag of an alarm (R170). -/
def alarmFixed (a : AlarmIx) : Bool :=
  decide (a.val = 0 ∨ (3 ≤ a.val ∧ a.val ≤ 10) ∨ (19 ≤ a.val ∧ a.val ≤ 21) ∨ a.val = 36 ∨ a.val = 37 ∨ a.val = 42)

/-- The pot hard alarms (R140). -/
def isPotAlarm (a : AlarmIx) : Bool := decide (a.val ∈ [9, 10, 17, 18, 20, 21, 25])

/-- The alarm is ACTIVE or LATCHED. -/
def alarmSet (s : State) (a : AlarmIx) : Bool :=
  (s.acu.alarms[a]).state == .active || (s.acu.alarms[a]).state == .latched

/-- Some pot hard alarm is ACTIVE or LATCHED (R140). -/
def anyPotAlarmSet (s : State) : Bool := allAlarms.any fun a => isPotAlarm a && alarmSet s a

/-- Some alarm with a hold link is ACTIVE or LATCHED (R34, R193). -/
def holdAlarmSet (s : State) (a : AlarmIx) : Bool := holdLink (s.tbs.alarms[a]).links && alarmSet s a

/-! ## Signals -/

/-- A signal is usable when its freshness is FRESH and the status of its last sample is GOOD (R17). -/
def usable (s : State) (i : SigIx) : Bool :=
  (s.sig[i]).freshness == .fresh && (s.sig[i]).status == some .good

/-- The last GOOD value of a signal, 0 where it has none. -/
def lastGood (s : State) (i : SigIx) : Int := (s.sig[i]).lastGood.getD 0

/-! ## Outputs -/

/-- The output of a wave pump. -/
def pumpOutput : Wave → OutIx
  | .chip => O 17
  | .laminar => O 18

/-- The output of a duct's fan. -/
def fanOutput : Duct → OutIx
  | .one => O 22
  | .two => O 23

/-- The valve of a nozzle: nozzle n is driven by O(8 + n) (06). -/
def valveOutput (n : NozzleIx) : OutIx := O (n.val + 9)

/-- The heater of a loop: loop Ln drives On (07). -/
def heaterOutput (l : LoopIx) : OutIx := O (l.val + 1)

/-- The zone loop of a zone. -/
def zoneLoop (z : ZoneIx) : LoopIx := Fin.ofNat 8 z.val

/-- An output record. -/
def outputRecord (s : State) (o : OutIx) : OutputRecord := s.out.records[o]

/-- OUT with one record changed. -/
def setOutputRecord (s : State) (o : OutIx) (r : OutputRecord) : State :=
  { s with out := { s.out with records := vset s.out.records o r } }

/-- The pump record of a wave. -/
def pumpOf (p : Pot) : Wave → Pump
  | .chip => p.chip
  | .laminar => p.laminar

/-- POT with one pump record changed. -/
def setPump (s : State) (w : Wave) (x : Pump) : State :=
  match w with
  | .chip => { s with pot := { s.pot with chip := x } }
  | .laminar => { s with pot := { s.pot with laminar := x } }

/-- The duct record of a duct. -/
def ductOf (e : Exm) : Duct → DuctRecord
  | .one => e.duct1
  | .two => e.duct2

/-- EXM with one duct record changed. -/
def setDuct (s : State) (d : Duct) (x : DuctRecord) : State :=
  match d with
  | .one => { s with exm := { s.exm with duct1 := x } }
  | .two => { s with exm := { s.exm with duct2 := x } }

/-- All of GEOMETRY has been committed at least once. -/
def geometryCommitted (s : State) : Bool := s.mru.configured.geometry

end Sys2Proof.Machine
end

