-- ==== Sys2Proof/Machine/Codes.lean ====
section
/-! DEFINITION. The codes by which cells and READ show states (01 1.8, R62, R63). -/

namespace Sys2Proof.Machine

/-- STATUS byte 4, bits 7-5. -/
def lineStateCode : LineState → Nat
  | .unconfigured => 0
  | .standby => 1
  | .run => 2
  | .draining => 3
  | .maintenance => 4

/-- STATUS byte 4, bits 4-3. -/
def holdPhaseCode : HoldPhase → Nat
  | .none => 0
  | .stopping => 1
  | .held => 2
  | .resuming => 3

/-- STATUS byte 4, bits 2-0. -/
def potStateCode : PotState → Nat
  | .cold => 0
  | .melting => 1
  | .molten => 2
  | .ready => 3
  | .setback => 4
  | .fault => 5

/-- STATUS byte 5, bits 6-5. -/
def feederStateCode : FeederState → Nat
  | .idle => 0
  | .feeding => 1
  | .settling => 2
  | .faulted => 3

/-- STATUS byte 5, bits 4-3. -/
def loopStateCode : LoopState → Nat
  | .starting => 0
  | .up => 1
  | .down => 2

/-- REPORT part 1 byte 9. -/
def outcomeCode : BoardOutcome → Nat
  | .good => 0
  | .rework => 1
  | .lost => 2

/-- REPLY byte 4. -/
def replyStatusCode : ReplyStatus → Nat
  | .ok => 0
  | .clamped => 1
  | .stageReplaced => 2
  | .busy => 3
  | .state => 4
  | .badIndex => 5
  | .badValue => 6
  | .notPermitted => 7
  | .locked => 8
  | .stillActive => 9
  | .nothingStaged => 10
  | .emptySlot => 11
  | .unknownRequest => 12

/-- COMMAND byte 8. -/
def actionCode : Action → Nat
  | .set => 0
  | .feed => 1
  | .abort => 2

/-- Codes of the tables (R46). -/
def tableCode : TableKind → Nat
  | .channel => 0
  | .output => 1
  | .geometry => 2
  | .line => 3
  | .limits => 4
  | .tuning => 5
  | .alarm => 6
  | .recipe => 7

/-- The writable table of a code; the codes 8 to 14 name the read-only tables (R46). -/
def tableOfCode (n : Nat) : Option TableKind :=
  match n with
  | 0 => some .channel
  | 1 => some .output
  | 2 => some .geometry
  | 3 => some .line
  | 4 => some .limits
  | 5 => some .tuning
  | 6 => some .alarm
  | 7 => some .recipe
  | _ => none

/-- The group of a code 0 to 5 (R32). -/
def groupOfCode (n : Nat) : Option Group :=
  match n with
  | 0 => some .flux
  | 1 => some .preheat
  | 2 => some .potheat
  | 3 => some .wave
  | 4 => some .feed
  | 5 => some .extract
  | _ => none

/-- Freshness, in the order of the terms of 00_scope.md 3. DEDUCED (log entry 21). -/
def freshnessCode : Freshness → Nat
  | .noData => 0
  | .fresh => 1
  | .stale => 2

/-- Status of a sample, in the coding of the SAMPLE cell (01 1.8). -/
def sampleStatusCode : SampleStatus → Nat
  | .good => 0
  | .openWire => 1
  | .range => 2

/-- SET_DISPOSITION byte 8 (R32). -/
def dispositionCode : Disposition → Nat
  | .goOn => 0
  | .rework => 1

/-- Flux status, in the order of the list of 06 6.1. -/
def fluxStatusCode : FluxStatus → Nat
  | .pending => 0
  | .spraying => 1
  | .done => 2
  | .skipped => 3

/-- Wave status: chapter 9 lists the four in no order, so the order is free (log entry 20). -/
def waveStatusCode (w : WaveStatus) : Nat :=
  let i : Fin 4 := match w with
    | .pending => 0
    | .inContact => 1
    | .done => 2
    | .lowered => 3
  (Config.waveStatusOrder i).val

/-- State of an alarm, in the order of R169 (R176). -/
def alarmStateCode : AlarmState → Nat
  | .clear => 0
  | .pending => 1
  | .active => 2
  | .latched => 3

/-- ALARM field 1 (R177). -/
def alarmClassCode : AlarmClass → Nat
  | .soft => 0
  | .hard => 1

/-- ALARM field 5 (R177). -/
def alarmKindCode : AlarmKind → Nat
  | .level => 0
  | .event => 1

/-- Lock state of the hold record (R191). -/
def lockStateCode : LockState → Nat
  | .locked => 0
  | .acknowledged => 1

/-- Bank (R49, R59). -/
def bankCode : BankId → Nat
  | .a => 0
  | .b => 1

/-- Flux tank state (R198). -/
def tankCode : TankState → Nat
  | .unknown => 0
  | .normal => 1
  | .low => 2
  | .empty => 3

/-- A cause: the alarm number, or 256 plus the source address (R63, R179). -/
def causeCode : Cause → Nat
  | .alarm a => a.val
  | .request src => 256 + src.toNat

end Sys2Proof.Machine
end

