-- ==== Sys2Proof/Machine/Cells.lean ====
section
/-! DEFINITION. Cells as bytes: CHECK (R5), the layouts of 01 1.8, the tests of R4, and the operands of a REQUEST. -/

namespace Sys2Proof.Machine

/-! ## CHECK (R5) -/

/-- One bit of the CRC-16 with generator x^16 + x^12 + x^5 + 1, most significant bit first. -/
def crcShift (c : Nat) : Nat := if c < 32768 then 2 * c else (2 * c - 65536) ^^^ 4129

/-- One byte of the CRC, most significant bit first. -/
def crcByte (c b : Nat) : Nat :=
  crcShift (crcShift (crcShift (crcShift (crcShift (crcShift (crcShift (crcShift (c ^^^ (b * 256)))))))))

/-- The CRC of a list of bytes; the register starts at all ones (R5). -/
def crc16 (bytes : List Nat) : Word16 := BitVec.ofNat 16 (bytes.foldl crcByte 65535)

/-! ## Layouts -/

/-- A list of bytes as one number, the first byte the most significant. -/
def packBytes (bytes : List Nat) : Nat := bytes.foldl (fun acc b => acc * 256 + b % 256) 0

/-- A payload of ten bytes from its first bytes; unused bytes are 0 (01 1.8). -/
def payloadOf (bytes : List Nat) : BitVec 80 := BitVec.ofNat 80 (packBytes (bytes ++ List.replicate (10 - bytes.length) 0))

/-- The two and four bytes of a multi-byte field, most significant first (01 1.8). -/
def bytes2 (n : Nat) : List Nat := [n / 256 % 256, n % 256]
@[inherit_doc bytes2] def bytes4 (n : Nat) : List Nat := [n / 16777216 % 256, n / 65536 % 256, n / 256 % 256, n % 256]

/-- A signed 16-bit field as its two's complement number. -/
def word16OfInt (x : Int) : Nat := (BitVec.ofInt 16 x).toNat

/-- Byte i of a payload, counted as in 01 1.8 from 4 to 13. -/
def payloadByte (p : BitVec 80) (i : Nat) : Nat := p.toNat / 256 ^ (13 - i) % 256

/-- Bytes 0 to 13 of a cell. -/
def cellBytes (c : RawCell) : List Nat :=
  [c.dest.toNat, c.src.toNat, c.kind.toNat, c.tag.toNat] ++ (List.range 10).map fun i => payloadByte c.payload (i + 4)

/-- The CHECK that bytes 0 to 13 of the cell should carry. -/
def checkOf (c : RawCell) : Word16 := crc16 (cellBytes c)

/-- A cell the part sends: SRC 0, CHECK computed (R5). -/
def ownCell (dest kind tag : Byte) (payload : List Nat) : RawCell :=
  let c : RawCell := { dest := dest, src := 0, kind := kind, tag := tag, payload := payloadOf payload, check := 0 }
  { c with check := checkOf c }

/-- KIND codes (01 1.8). -/
def kindCycleStart : Byte := 1
@[inherit_doc kindCycleStart] def kindCycleEnd : Byte := 2
@[inherit_doc kindCycleStart] def kindSample : Byte := 3
@[inherit_doc kindCycleStart] def kindCommand : Byte := 4
@[inherit_doc kindCycleStart] def kindTimed : Byte := 5
@[inherit_doc kindCycleStart] def kindCompletion : Byte := 6
@[inherit_doc kindCycleStart] def kindRequest : Byte := 7
@[inherit_doc kindCycleStart] def kindReply : Byte := 8
@[inherit_doc kindCycleStart] def kindReport : Byte := 9
@[inherit_doc kindCycleStart] def kindStatus : Byte := 10

/-- A COMMAND cell on the loop. -/
def commandBytes (c : CommandCell) : RawCell :=
  ownCell c.dest kindCommand 0 ([c.channel.toNat] ++ bytes2 c.value ++ [c.number.toNat, actionCode c.action])

/-- A TIMED_COMMAND cell on the loop. -/
def timedBytes (c : TimedCell) : RawCell :=
  ownCell c.dest kindTimed 0 ([c.channel.toNat, c.isOpen.toNat] ++ bytes2 c.duty ++ bytes2 c.delay)

/-- A cell of the command queue on the loop. -/
def queuedBytes : QueuedCell → RawCell
  | .command c => commandBytes c
  | .timed c => timedBytes c

/-- A cell of the message queue on the loop. -/
def messageBytes : Message → RawCell
  | .reply dest tag status data => ownCell dest kindReply tag (replyStatusCode status :: data.map (·.toNat))
  | .reportPart1 dest r => ownCell dest kindReport 0 ([1] ++ bytes2 r.number.toNat ++ bytes2 r.label
      ++ [outcomeCode r.outcome, r.defects.toNat] ++ bytes2 r.dose ++ [min 255 r.holds])
  | .reportPart2 dest r => ownCell dest kindReport 0 ([2] ++ bytes2 r.number.toNat
      ++ bytes2 (word16OfInt (r.topside.getD (-32768))) ++ bytes2 r.chipMs ++ bytes2 r.laminarMs)

/-! ## Arriving cells as bytes -/

/-- The SAMPLE cell as bytes. -/
def sampleRaw (c : SampleCell) : RawCell :=
  { dest := c.dest, src := c.src, kind := kindSample, tag := c.tag, check := c.check,
    payload := BitVec.ofNat 80 (((((c.sequence.toNat * 256 + c.statuses.toNat) * 65536 + c.value0.toNat) * 65536
      + c.value1.toNat) * 65536 + c.value2.toNat) * 65536 + c.value3.toNat) }

/-- The COMPLETION cell as bytes. -/
def completionRaw (c : CompletionCell) : RawCell :=
  { dest := c.dest, src := c.src, kind := kindCompletion, tag := c.tag, check := c.check,
    payload := BitVec.ofNat 80 (((c.number.toNat * 256 + c.result.toNat) * 65536 + c.quantity.toNat) * 2 ^ 48
      + c.unused.toNat) }

/-- The CYCLE_END cell as bytes. -/
def cycleEndRaw (c : CycleEndCell) : RawCell :=
  { dest := c.dest, src := c.src, kind := kindCycleEnd, tag := c.tag, check := c.check,
    payload := BitVec.ofNat 80 (c.cycle.toNat * 2 ^ 48 + c.unused.toNat) }

/-- The REQUEST cell of a request code as bytes. -/
def requestRaw (code : Word16) (r : ReqCell) : RawCell :=
  { dest := r.dest, src := r.src, kind := kindRequest, tag := r.tag, check := r.check,
    payload := BitVec.ofNat 80 (code.toNat * 2 ^ 64 + r.operands.toNat) }

/-- The SAMPLE cell of these bytes. -/
def sampleOfRaw (c : RawCell) : SampleCell :=
  { dest := c.dest, src := c.src, tag := c.tag, check := c.check, sequence := BitVec.ofNat 8 (payloadByte c.payload 4),
    statuses := BitVec.ofNat 8 (payloadByte c.payload 5), value0 := c.payload.extractLsb' 48 16,
    value1 := c.payload.extractLsb' 32 16, value2 := c.payload.extractLsb' 16 16, value3 := c.payload.extractLsb' 0 16 }

/-- The COMPLETION cell of these bytes. -/
def completionOfRaw (c : RawCell) : CompletionCell :=
  { dest := c.dest, src := c.src, tag := c.tag, check := c.check, number := BitVec.ofNat 8 (payloadByte c.payload 4),
    result := BitVec.ofNat 8 (payloadByte c.payload 5), quantity := c.payload.extractLsb' 48 16,
    unused := c.payload.extractLsb' 0 48 }

/-- The CYCLE_END cell of these bytes. -/
def cycleEndOfRaw (c : RawCell) : CycleEndCell :=
  { dest := c.dest, src := c.src, tag := c.tag, check := c.check, cycle := c.payload.extractLsb' 48 32,
    unused := c.payload.extractLsb' 0 48 }

/-- The request code and REQUEST cell of these bytes. -/
def requestOfRaw (c : RawCell) : Word16 × ReqCell :=
  (c.payload.extractLsb' 64 16,
   { dest := c.dest, src := c.src, tag := c.tag, check := c.check, operands := c.payload.extractLsb' 0 64 })

/-! ## The tests of R4 -/

/-- Which row of R4 decides an arriving cell. -/
inductive Verdict where
  | checkError | ownCycleEnd | ownCell | lateCell | otherDest | toSig | toMru | toPot | unknownKind
  deriving DecidableEq, Repr

/-- The tests of R4, in order; the first that applies decides the cell. -/
def verdict (openCycle : Bool) (c : RawCell) : Verdict :=
  if c.check ≠ checkOf c then .checkError
  else if c.kind = kindCycleEnd ∧ c.src = 0 then .ownCycleEnd
  else if c.src = 0 then .ownCell
  else if openCycle = false then .lateCell
  else if c.dest ≠ 0 ∧ c.dest ≠ 63 then .otherDest
  else if c.kind = kindSample then .toSig
  else if c.kind = kindRequest then .toMru
  else if c.kind = kindCompletion then .toPot
  else .unknownKind

/-! ## Operands of a request (R32, R46) -/

/-- Byte i (6 to 13) of a REQUEST. -/
def reqByte (r : ReqCell) (i : Nat) : Nat := r.operands.toNat / 256 ^ (13 - i) % 256

/-- The two-byte operand at bytes i and i + 1. -/
def reqWord (r : ReqCell) (i : Nat) : Nat := reqByte r i * 256 + reqByte r (i + 1)

/-- The 32-bit two's complement value in bytes 10 to 13 (R46). -/
def reqValue (r : ReqCell) : Int := (r.operands.extractLsb' 0 32).toInt

/-- Reply data: bytes 5 to 13, given by byte number; the others are 0 (R30). -/
def replyData (given : List (Nat × Nat)) : List Byte :=
  (List.range 9).map fun i => BitVec.ofNat 8 ((given.lookup (i + 5)).getD 0)

/-- Reply data 0 (R30). -/
def noData : List Byte := replyData []

end Sys2Proof.Machine
end

