-- ==== Sys2Proof/Machine/Task.lean ====
section
/-! DEFINITION. The hand-overs between blocks. One event of the part (a command) is a cascade of hand-overs: a block that takes
one changes its own state and may hand over further ones, which are taken depth first, in order, before the hand-overs that
were waiting (log entry 5). -/

namespace Sys2Proof.Machine

/-- Why the pot state is evaluated, where R138 names an event of its own. -/
inductive PotEvent where
  | plain | dwellOver | setbackOver | setbackOn | leaveSetback
  deriving DecidableEq, Repr

/-- One hand-over to a block. -/
inductive Task where
  -- LIF at a cycle start
  | closeLostCycle | beginCycle | blockComplete | giveLoopLost | giveSignalStale | staleDucts | refresh
  -- LIF to BTK and to the owners of cells
  | loopDown
  | samplePosition (src : Byte) (channel : Nat) (code : Nat) (value : Word16)
  -- OUT
  | setAutomatic (o : OutIx) (v : Nat)
  | formDelivered (o : OutIx)
  | handDelivered (o : OutIx)
  | directClose (n : NozzleIx)
  -- ACU
  | condition (a : AlarmIx) (value evaluation : Bool)
  | a41Btk (evaluation : Bool)
  | a41Hld
  | event (a : AlarmIx)
  | activate (g : Group) (cause : Cause)
  | deactivate (g : Group)
  | restartAlarms
  | restartGroup (g : Group)
  -- BTK
  | encoder (status : SampleStatus)
  | encoderSilent
  | boardSensor (exit : Bool) (status : SampleStatus)
  | boardSensorSilent (exit : Bool)
  | entryLead (captured : Word32)
  | entryTail (captured : Word32)
  | exitLead (captured : Word32)
  | exitTail
  | missingTest
  | retire (lost : Bool)
  | entryBlocked (evaluation : Bool)
  | admission
  | conveyor
  | noMotion
  | defect (n : BoardNo) (d : Defect)
  | disposition (n : BoardNo) (d : Disposition)
  | dispositionTold (n : BoardNo)
  -- FLX
  | flxNewRecord (n : BoardNo)
  | flxLength (n : BoardNo)
  | flxRework (n : BoardNo)
  | flxRemoved (n : BoardNo)
  | flxForcing
  | flxSample
  | flxAccount
  | flxRunEnds
  | flxRunEnd (n : BoardNo)
  | flxEndingCloses
  | flxTakeEdges
  | flxConsume
  | fluxTank
  -- TLE
  | loopArrival (l : LoopIx) (i : SigIx) (status : SampleStatus)
  | loopSilent (l : LoopIx) (i : SigIx)
  | tleGroup (g : Group)
  | tleConditions (l : LoopIx)
  | tleRestart
  -- PHM
  | phmNewRecord (n : BoardNo)
  | phmRemoved (n : BoardNo)
  | phmDecide
  | phmArm
  | phmPhase
  | pyrometer (status : SampleStatus)
  | pyrometerSilent
  -- POT
  | potTemperature
  | potEvaluate (why : PotEvent)
  | potChanged (old : PotState)
  | potAlarm (set : Bool)
  | potGroup (g : Group)
  | potLine
  | potLeavesUnconfigured
  | setbackTimer
  | potNewRecord (n : BoardNo)
  | potRemoved (n : BoardNo)
  | potRecord
  | potSample
  | potGoverning
  | potWindows
  | potContact
  | potStatuses (atSample : Bool)
  | pumpCommand (w : Wave)
  | releasePumps
  | potNotReadyTest
  | pumpDelivered (w : Wave)
  | pumpFeedback (w : Wave) (status : SampleStatus)
  | pumpFeedbackSilent (w : Wave)
  | pumpFault (w : Wave) (evaluation : Bool)
  | levelArrival (status : SampleStatus)
  | levelSilent
  | levelConditions (evaluation : Bool)
  | feedEvaluate
  | feedFaulted
  | settleOver
  | settleFinish
  | feederRelease
  | feederRestart
  -- EXM
  | duct1Demand
  | fanCommands
  | fanCommand (d : Duct)
  | pumpReported (w : Wave)
  | fanReported (d : Duct)
  | fanGraceOver (d : Duct)
  | ductConditions (d : Duct)
  | ductSignal (i : SigIx)
  | flame (seen : Bool)
  | exmLeavesUnconfigured
  -- HLD
  | holdCause (c : Cause)
  | phaseTold
  | hldEncoder
  | reachHeld
  | heldBoards
  | holdLine (n : BoardNo)
  -- MRU
  | lineTold (old : LineState)
  | drainingTest
  | configuredTest
  deriving DecidableEq, Repr

/-- What taking a hand-over does: the new state, and the hand-overs it makes, in order. -/
abbrev Effect := State × List Task

end Sys2Proof.Machine
end

