-- ==== Sys2Proof/Machine/Lif.lean ====
section
/-! DEFINITION. LIF, the Loop Interface (01): the counts, the command queue with its carry list and deferred set, the message
queue, the outgoing train, and the loop state. -/

namespace Sys2Proof.Machine

/-! ## Counts (1.1, R4) -/

/-- A check error (R4): the total and the block count, both saturating at 65535. -/
def countCheckError (s : State) : State :=
  { s with lif := { s.lif with checkErrors := satAdd 65535 s.lif.checkErrors 1,
                               blockErrors := satAdd 65535 s.lif.blockErrors 1 } }

/-- A late cell (R3, R4). -/
def countLateCell (s : State) : State :=
  { s with lif := { s.lif with lateCells := satAdd 65535 s.lif.lateCells 1 } }

/-- A request or a report dropped for want of room in the message queue (R11, R12, R33). -/
def countDropped (s : State) : State :=
  { s with mru := { s.mru with dropped := satAdd 255 s.mru.dropped 1 } }

/-- Late edges reported to FLX (R94). -/
def countLateEdges (n : Nat) (s : State) : State :=
  { s with flx := { s.flx with lateEdges := satAdd 65535 s.flx.lateEdges n } }

/-! ## The command queue (R9, R10, R26) -/

/-- The cell is a COMMAND of the output. -/
def isCommandOf (o : OutIx) : QueuedCell → Bool
  | .command c => c.output == o
  | .timed _ => false

/-- The cell is a TIMED_COMMAND of the output. -/
def isTimedOf (o : OutIx) : QueuedCell → Bool
  | .command _ => false
  | .timed c => c.output == o

/-- A deferred set with the cell in place of the one of the same output, or put in output order. -/
def putDeferred (c : CommandCell) : List CommandCell → List CommandCell
  | [] => [c]
  | d :: ds =>
    if d.output = c.output then c :: ds
    else if c.output < d.output then c :: d :: ds
    else d :: putDeferred c ds

/-- A queued COMMAND of the same output takes the new payload, bytes 4 to 13 of 01 1.8, and keeps its DEST (R9, row 1; log
entry 11). -/
def coalesce (c : CommandCell) : QueuedCell → QueuedCell
  | .command d => if d.output = c.output then .command { c with dest := d.dest } else .command d
  | .timed d => .timed d

/-- LIF takes a COMMAND from OUT (R9). -/
def takeCommand (c : CommandCell) (l : Lif) : Lif :=
  if l.commandQueue.any (isCommandOf c.output) then { l with commandQueue := l.commandQueue.map (coalesce c) }
  else if l.deferredSet.any (fun d => d.output == c.output) then { l with deferredSet := putDeferred c l.deferredSet }
  else if l.commandQueue.length < 32 then { l with commandQueue := l.commandQueue ++ [.command c] }
  else { l with deferredSet := putDeferred c l.deferredSet }

/-- A carry list with the cell in place of the one for the same DEST and channel, or at its end (R10). R2 and R10 give the
carried cells no order: the model keeps them in the order first carried, a replacement keeping its place (DESIGN CHOICE, log
entry 39). -/
def putCarried (c : TimedCell) : List TimedCell → List TimedCell
  | [] => [c]
  | d :: ds => if d.dest = c.dest ∧ d.channel = c.channel then c :: ds else d :: putCarried c ds

/-- LIF takes a TIMED_COMMAND from FLX (R10): a carried cell counts once as a late edge (R94), also the close of an ENDING segment,
although the last sentence of R94 calls such closes no late edges (DESIGN CHOICE, log entry 64). -/
def takeTimed (c : TimedCell) (s : State) : State :=
  if s.lif.commandQueue.length < 32 then
    { s with lif := { s.lif with commandQueue := s.lif.commandQueue ++ [.timed c] } }
  else countLateEdges 1 { s with lif := { s.lif with carryList := putCarried c s.lif.carryList } }

/-- LIF withdraws every TIMED_COMMAND of a valve from the queue and the carry list (R26). -/
def withdraw (o : OutIx) (l : Lif) : Lif :=
  { l with commandQueue := l.commandQueue.filter fun q => !isTimedOf o q,
           carryList := l.carryList.filter fun c => !(c.output == o) }

/-- A TIMED_COMMAND of the valve is in the command queue or the carry list (R27). -/
def hasTimed (o : OutIx) (l : Lif) : Bool := l.commandQueue.any (isTimedOf o) || l.carryList.any fun c => c.output == o

/-! ## The message queue (R11, R12) -/

/-- How many places the message queue has (1.1). -/
def messageRoom : Nat := 16

/-- A REPLY joins the tail of the message queue (R11). -/
def pushReply (dest tag : Byte) (status : ReplyStatus) (data : List Byte) (s : State) : State :=
  { s with lif := { s.lif with messageQueue := s.lif.messageQueue ++ [.reply dest tag status data] } }

/-- The DEST of a report: the line controller, or 63 while LINE has never been committed (R12). -/
def reportDest (s : State) : Byte := if s.mru.configured.line then controllerAddress s.tbs else 63

/-- Both cells of an exit report join the queue, or the report is dropped (R12). -/
def pushReport (r : ExitReport) (s : State) : State :=
  if s.lif.messageQueue.length + 2 ≤ messageRoom then
    { s with lif := { s.lif with messageQueue := s.lif.messageQueue ++
        [.reportPart1 (reportDest s) r, .reportPart2 (reportDest s) r] } }
  else countDropped s

/-! ## The STATUS cell (1.8, R44) -/

/-- Hard alarms ACTIVE or LATCHED. -/
def hardAlarms (s : State) : Nat :=
  (allAlarms.filter fun a => (s.tbs.alarms[a]).cls == .hard && alarmSet s a).length

/-- Soft alarms ACTIVE. -/
def softAlarms (s : State) : Nat :=
  (allAlarms.filter fun a => (s.tbs.alarms[a]).cls == .soft && (s.acu.alarms[a]).state == .active).length

/-- The active groups, one bit each. -/
def activeGroups (s : State) : Nat :=
  allGroups.foldl (fun acc g => acc + if groupActive s g then 2 ^ (groupIx g).val else 0) 0

/-- The payload of the STATUS cell. -/
def statusPayload (s : State) : List Nat :=
  [lineStateCode s.mru.line * 32 + holdPhaseCode s.hld.phase * 8 + potStateCode s.pot.state,
   (if s.btk.exits.isEmpty then 128 else 0) + feederStateCode s.pot.feeder.state * 32 + loopStateCode s.lif.loopState * 8,
   s.btk.train.length, hardAlarms s, softAlarms s, activeGroups s, s.mru.dropped, s.hld.episode.toNat % 256]
  ++ bytes2 ((s.btk.exits.head?.map fun r => r.number.toNat).getD 0)

/-! ## The train (R2) -/

/-- The command queue without the TIMED_COMMANDs that a carried cell overtakes (R2, 3). -/
def dropOvertaken (carry : List TimedCell) (q : List QueuedCell) : List QueuedCell :=
  q.filter fun x => match x with
    | .command _ => true
    | .timed c => !carry.any fun d => d.dest == c.dest && d.channel == c.channel

/-- A queued cell that a train build leaves behind: a TIMED_COMMAND has its delay set to 0 (R2). -/
def leftBehind : QueuedCell → QueuedCell
  | .command c => .command c
  | .timed c => .timed { c with delay := 0 }

/-- The cell is a TIMED_COMMAND. -/
def isTimed : QueuedCell → Bool
  | .command _ => false
  | .timed _ => true

/-- Build and send the train of the cycle (R2): the cells leave in order, what is left behind is made late, and deferred
cells move in behind it, lowest output first. The carried cells leave in the order of the carry list (DESIGN CHOICE, log
entry 39). -/
def buildTrain (s : State) : State :=
  let l := s.lif
  let q := dropOvertaken l.carryList l.commandQueue
  let n := 20 - l.carryList.length
  let sent := q.take n
  let kept := (q.drop n).map leftBehind
  let room := 32 - kept.length
  let cells := [ownCell 63 kindCycleStart 0 (bytes4 l.cycle.toNat), ownCell 63 kindStatus 0 (statusPayload s)]
    ++ sent.map queuedBytes ++ l.carryList.map (fun c => timedBytes { c with delay := 0 })
    ++ (l.messageQueue.take 6).map messageBytes ++ [ownCell 63 kindCycleEnd 0 (bytes4 l.cycle.toNat)]
  countLateEdges (kept.filter isTimed).length
    { s with lif := { l with
        commandQueue := kept ++ (l.deferredSet.take room).map QueuedCell.command,
        deferredSet := l.deferredSet.drop room,
        carryList := [],
        messageQueue := l.messageQueue.drop 6,
        sent := cells } }

/-! ## Cycle outcomes (R1, R3, R6) -/

/-- A complete cycle (R6). -/
def outcomeComplete (l : Lif) : Lif :=
  let n := satAdd 4 l.consecutiveComplete 1
  { l with consecutiveLost := 0, consecutiveComplete := n,
           loopState := if l.loopState ≠ .up ∧ n = 4 then .up else l.loopState }

/-- A lost cycle (R6). -/
def outcomeLost (l : Lif) : Lif :=
  let n := satAdd 8 l.consecutiveLost 1
  { l with consecutiveComplete := 0, consecutiveLost := n,
           loopState := if l.loopState = .up ∧ n = 8 then .down else l.loopState }

/-- A cycle still open at a cycle start is lost (R1); BTK is notified when the loop goes DOWN (R7). -/
def closeLostCycle (s : State) : Effect :=
  if s.lif.openCycle then
    let l := outcomeLost { s.lif with openCycle := false }
    ({ s with lif := l }, if s.lif.loopState ≠ .down ∧ l.loopState = .down then [.loopDown] else [])
  else (s, [])

/-- The cycle start itself (R1, R2): the count, the flag, the train, and the degradation block. -/
def beginCycle (s : State) : Effect :=
  let s := buildTrain { s with lif := { s.lif with cycle := s.lif.cycle + 1, openCycle := true } }
  let n := s.lif.blockCycles + 1
  ({ s with lif := { s.lif with blockCycles := if 500 ≤ n then 0 else n } }, if 500 ≤ n then [.blockComplete] else [])

/-- The end of a degradation block (R1), and the condition of A1 (R8). -/
def blockComplete (s : State) : Effect :=
  let errors := s.lif.blockErrors
  ({ s with lif := { s.lif with lastBlockErrors := errors, blockErrors := 0, blockCycles := 0 } },
   [.condition (A 1) (s.mru.configured.line && decide (degradedThreshold s.tbs ≤ errors)) true])

/-- The condition of A0 at a cycle start (R7). -/
def giveLoopLost (s : State) : Effect := (s, [.condition (A 0) (s.lif.loopState == .down) true])

/-! ## Closing a cycle (R3) -/

/-- CYCLE_END with SRC 0 (R3). -/
def closeCycle (cycle : Word32) (s : State) : State :=
  if s.lif.openCycle = true ∧ s.lif.cycle = cycle then
    { s with lif := outcomeComplete { s.lif with openCycle := false } }
  else countLateCell s

/-- A cell that R4 discards, with the count its row names. -/
def countDiscard (v : Verdict) (s : State) : State :=
  match v with
  | .checkError => countCheckError s
  | .lateCell => countLateCell s
  | .ownCycleEnd | .ownCell | .otherDest | .toSig | .toMru | .toPot | .unknownKind => s

end Sys2Proof.Machine
end

