-- ==== Sys2Proof/Machine/Outputs.lean ====
section
/-! DEFINITION. OUT, the Output Table (02 2.2): the delivered command, the nozzle valves, refresh and the feeder. -/

namespace Sys2Proof.Machine

/-! ## The delivered command (R23, R24) -/

/-- The loop of a heater output O1..O8. -/
def heaterLoop (o : OutIx) : Option LoopIx := if o.val < 8 then some (Fin.ofNat 8 o.val) else none

/-- The output is a nozzle valve O9..O16. -/
def isValve (o : OutIx) : Bool := decide (8 ≤ o.val ∧ o.val < 16)

/-- The output's group is ACTIVE; O21 takes no cutoff level (R28). -/
def cutOff (s : State) (o : OutIx) : Bool :=
  match outputGroup o with
  | some g => groupActive s g
  | none => false

/-- The cutoff level of an output (R24). -/
def cutoffLevel (s : State) (o : OutIx) : Nat :=
  match outputAction s.tbs o with
  | .off => 0
  | .safe => outputSafe s.tbs o
  | .hold => (outputRecord s o).held

/-- A command clamped at use (R23): to the output limit, and for a heater to its loop's u_max. -/
def clampUse (t : Tbs) (o : OutIx) (v : Nat) : Nat :=
  let v := min v (outputLimit t o)
  match heaterLoop o with
  | some l => min v (outputMax t l).toNat
  | none => v

/-- The delivered command that R23 forms from the record. -/
def deliveredValue (s : State) (o : OutIx) : Nat :=
  let r := outputRecord s o
  clampUse s.tbs o (if cutOff s o then cutoffLevel s o else r.manual.getD r.automatic)

/-! ## Handing commands to LIF (R25, R26) -/

/-- The COMMAND cell of an output's delivered command (R25). -/
def commandCell (s : State) (o : OutIx) : CommandCell :=
  { output := o, dest := outputNode s.tbs o, channel := outputChannel s.tbs o, value := (outputRecord s o).delivered,
    number := 0, action := .set }

/-- Hand the delivered command of an output to LIF, if its OUTPUT entry has been committed (R22, R25). -/
def handCommand (o : OutIx) (s : State) : State :=
  if s.tbs.outputCommitted[o] then { s with lif := takeCommand (commandCell s o) s.lif } else s

/-- The blocks that are told of a delivered command: POT of the pumps (R145), EXM of the pumps and fans (R161, R163), BTK of
the conveyor (R85); of a pump POT before EXM (DESIGN CHOICE, log entry 53). -/
def deliveredReports (o : OutIx) : List Task :=
  if o = O 17 then [.pumpDelivered .chip, .pumpReported .chip]
  else if o = O 18 then [.pumpDelivered .laminar, .pumpReported .laminar]
  else if o = O 19 then [.noMotion]
  else if o = O 22 then [.fanReported .one]
  else if o = O 23 then [.fanReported .two]
  else []

/-- Form the delivered command of an output again (R25), without the reports. O21 carries operations and is not formed
(R28). A valve that becomes closed has its TIMED_COMMANDs withdrawn first (R26). -/
def formPure (o : OutIx) (s : State) : State :=
  let r := outputRecord s o
  let v := deliveredValue s o
  if o = O 21 ∨ v = r.delivered then s
  else
    let s := if isValve o && v == 0 then { s with lif := withdraw o s.lif } else s
    handCommand o (setOutputRecord s o { r with delivered := v })

/-- Form the delivered command of an output again (R25) and report a change. The rules do not order the two: the COMMAND cell is
handed before the change is reported (DESIGN CHOICE, log entry 62). -/
def formDelivered (o : OutIx) (s : State) : Effect :=
  let s' := formPure o s
  (s', if (outputRecord s' o).delivered = (outputRecord s o).delivered then [] else deliveredReports o)

/-- A new automatic command from the owner (R25). -/
def setAutomatic (o : OutIx) (v : Nat) (s : State) : Effect :=
  formDelivered o (setOutputRecord s o { outputRecord s o with automatic := v })

/-! ## The feeder (R28) -/

/-- POT hands OUT an operation for the feeder (R28): the record keeps it, and the cell carries the quantity clamped to the
output limit. -/
def handOperation (op : FeederOperation) (s : State) : State :=
  let o := O 21
  let s := { s with out := { s.out with operation := some op } }
  if s.tbs.outputCommitted[o] then
    { s with lif := takeCommand { output := o, dest := outputNode s.tbs o, channel := outputChannel s.tbs o,
                                  value := min op.quantity (outputLimit s.tbs o), number := op.number, action := op.action } s.lif }
  else s

/-- The delivered command of O21 is the last operation handed (R28): hand it again, as a commit of R22 does. While no operation
has been handed there is nothing to queue (DEDUCED, log entry 30). -/
def handLastOperation (s : State) : State :=
  match s.out.operation with
  | some op => handOperation op s
  | none => s

/-! ## Handing a delivered command again (R22) -/

/-- Hand the delivered command even when it is unchanged (R22, R25); that of O21 is its last operation (R28). -/
def handDelivered (o : OutIx) (s : State) : Effect :=
  let s' := formPure o s
  if o = O 21 then (handLastOperation s, [])
  else if (outputRecord s' o).delivered = (outputRecord s o).delivered then (handCommand o s', [])
  else (s', deliveredReports o)

/-! ## The nozzle valves (R26) -/

/-- A timed edge (R26): FLX hands LIF the TIMED_COMMAND and OUT the same state and duty. The delivered command follows without
a COMMAND cell where it equals the automatic command after the change; otherwise it is formed as R25 sets out (log entry
14). -/
def timedEdge (n : NozzleIx) (isOpen : Bool) (duty delay : Nat) (s : State) : State :=
  let o := valveOutput n
  let s := if s.tbs.outputCommitted[o] then
      takeTimed { output := o, dest := outputNode s.tbs o, channel := outputChannel s.tbs o, isOpen := isOpen,
                  duty := duty, delay := delay } s
    else s
  let v := if isOpen then duty else 0
  let s := setOutputRecord s o { outputRecord s o with automatic := v }
  if deliveredValue s o = v then setOutputRecord s o { outputRecord s o with delivered := v } else formPure o s

/-- A direct closing (R26, R100): TIMED_COMMANDs of the valve are withdrawn, the automatic command becomes closed, and the
delivered command is formed. -/
def directClose (n : NozzleIx) (s : State) : Effect :=
  let o := valveOutput n
  let s := { s with lif := withdraw o s.lif }
  setAutomatic o 0 s

/-! ## Held levels (R24) -/

/-- The held levels captured at the event in which a group becomes ACTIVE (R24). -/
def captureHeld (g : Group) (s : State) : State :=
  (groupOutputs g).foldl (fun s o =>
    let r := outputRecord s o
    setOutputRecord s o { r with held := r.delivered }) s

/-! ## Refresh (R27) -/

/-- The output whose number is n, for n from 1 to 23. -/
def refreshOutput (n : Nat) : Option OutIx := if 1 ≤ n ∧ n ≤ 23 then some (O n) else none

/-- The refresh of a cycle start (R27). -/
def refresh (s : State) : Effect :=
  match refreshOutput (s.lif.cycle.toNat % 50) with
  | none => (s, [])
  | some o =>
    if o = O 21 then (s, [])
    else if isValve o && hasTimed o s.lif then (s, [])
    else (handCommand o s, [])

/-! ## Manual commands (R23, R41) -/

/-- Release every manual command, without forming the delivered commands (R23). -/
def releaseManual (s : State) : State :=
  { s with out := { s.out with records := s.out.records.map fun r => { r with manual := none } } }

end Sys2Proof.Machine
end

