-- ==== Sys2Proof/Machine/Acu.lean ====
section
/-! DEFINITION. ACU, the Alarm and Cutoff Unit (11): alarm states, raises, acknowledgement, cutoff groups, and RESTART. -/

namespace Sys2Proof.Machine

/-- ACU with one alarm record changed. -/
def setAlarm (s : State) (a : AlarmIx) (r : AlarmRecord) : State :=
  { s with acu := { s.acu with alarms := vset s.acu.alarms a r } }

/-- ACU with one group record changed. -/
def setGroup (s : State) (g : Group) (r : GroupRecord) : State :=
  { s with acu := { s.acu with groups := vset s.acu.groups (groupIx g) r } }

/-- The record of a group. -/
def groupRecord (s : State) (g : Group) : GroupRecord := s.acu.groups[groupIx g]

/-! ## State changes (R171, R173) -/

/-- What a hand-over makes of a LEVEL alarm's state and count (R171, R172). -/
def levelNext (e : AlarmEntry) (state : AlarmState) (count : Nat) (value evaluation : Bool) : AlarmState × Nat :=
  match state, value with
  | .clear, false => (.clear, count)
  | .clear, true => if e.delay = 0 then (.active, 0) else (.pending, 0)
  | .pending, false => (.clear, 0)
  | .pending, true =>
    if evaluation then (if e.delay ≤ count + 1 then (.active, 0) else (.pending, count + 1)) else (.pending, count)
  | .active, true => (.active, count)
  | .active, false => (if e.cls = .soft then .clear else .latched, count)
  | .latched, true => (.active, 0)
  | .latched, false => (.latched, count)

/-- The record after a raise (R174, step 1). -/
def raised (cycle : Word32) (r : AlarmRecord) : AlarmRecord :=
  { r with occurrences := satAdd 255 r.occurrences 1, raiseCycle := some cycle }

/-- POT is told of the new state of its seven alarms: whether it is ACTIVE or LATCHED (R140, R174, R175). -/
def potTold (a : AlarmIx) (set : Bool) : List Task := if isPotAlarm a then [.potAlarm set] else []

/-- Steps 2 to 5 of a raise, in their order (R174); the groups of step 3 from FLUX to EXTRACT (DESIGN CHOICE, log entry 48). -/
def raiseTasks (links : BitVec 8) (a : AlarmIx) (before : AlarmState) : List Task :=
  (if holdLink links then [.holdCause (.alarm a)] else [])
  ++ (allGroups.filter (groupLink links)).map (fun g => Task.activate g (.alarm a))
  ++ (if admissionLink links && (before == .clear || before == .pending) then [.admission] else [])
  ++ potTold a true

/-- What ACU does when an alarm goes from ACTIVE or LATCHED to CLEAR (R175). R175 gives no order: BTK is told before POT (DESIGN
CHOICE, log entry 68). -/
def clearTasks (links : BitVec 8) (a : AlarmIx) : List Task :=
  (if admissionLink links then [.admission] else []) ++ potTold a false

/-- The hand-overs that a change of alarm state calls for (R174, R175). -/
def changeTasks (links : BitVec 8) (a : AlarmIx) (before after : AlarmState) : List Task :=
  if after = before then []
  else if after = .active then raiseTasks links a before
  else if before = .active ∧ after = .latched then potTold a true
  else if before = .active ∨ before = .latched then clearTasks links a
  else []

/-- A condition handed over to a LEVEL alarm (R171); a masked alarm ignores it (R178). -/
def takeCondition (a : AlarmIx) (value evaluation : Bool) (s : State) : Effect :=
  let e := s.tbs.alarms[a]
  let r := s.acu.alarms[a]
  if e.masked || alarmKind a != .level then (s, [])
  else
    let (next, count) := levelNext e r.state r.count value evaluation
    let r' := { r with state := next, count := count }
    let r' := if next = .active ∧ r.state ≠ .active then raised s.lif.cycle r' else r'
    (setAlarm s a r', changeTasks e.links a r.state next)

/-- A41's condition given by BTK (R169): ACU keeps it, and the hand-over is one of the combined condition. -/
def takeA41Btk (evaluation : Bool) (s : State) : Effect :=
  let s := { s with acu := { s.acu with a41Btk := s.btk.faultCondition } }
  (s, [.condition (A 41) (s.acu.a41Btk || s.acu.a41Hld) evaluation])

/-- A41's condition given by HLD (R169, R172): no evaluation. -/
def takeA41Hld (s : State) : Effect :=
  let s := { s with acu := { s.acu with a41Hld := s.hld.faultCondition } }
  (s, [.condition (A 41) (s.acu.a41Btk || s.acu.a41Hld) false])

/-- An event reported to an EVENT alarm (R173); a masked alarm ignores it. -/
def takeEvent (a : AlarmIx) (s : State) : Effect :=
  let e := s.tbs.alarms[a]
  let r := s.acu.alarms[a]
  if e.masked || alarmKind a != .event then (s, [])
  else (setAlarm s a (raised s.lif.cycle { r with state := .latched }), raiseTasks e.links a r.state)

/-! ## Acknowledgement (R176) -/

/-- ACK_ALARM of a LATCHED alarm (R176). -/
def acknowledged (a : AlarmIx) (s : State) : Effect :=
  let r := s.acu.alarms[a]
  if r.state = .latched then
    (setAlarm s a { r with state := .clear, count := 0 }, clearTasks (s.tbs.alarms[a]).links a)
  else (s, [])

/-! ## Cutoff groups (R179, R182) -/

/-- The blocks told of a group's change after OUT, in their order (R179, R182). -/
def groupTold (g : Group) : List Task :=
  match g with
  | .flux => [.flxForcing]
  | .preheat => [.tleGroup .preheat]
  | .potheat => [.tleGroup .potheat, .potGroup .potheat]
  | .wave => [.potGroup .wave]
  | .feed => [.potGroup .feed]
  | .extract => []

/-- Activate a group that is INACTIVE (R179); an ACTIVE group keeps its cause and its held levels. -/
def activateGroup (g : Group) (cause : Cause) (s : State) : Effect :=
  let r := groupRecord s g
  if r.active then (s, [])
  else
    (setGroup (captureHeld g s) g { r with active := true, cause := some cause },
     (groupOutputs g).map Task.formDelivered ++ groupTold g)

/-- Deactivate a group (R182). -/
def deactivateGroup (g : Group) (s : State) : Effect :=
  if (groupRecord s g).active then
    (setGroup s g { active := false, manual := false, cause := none },
     (groupOutputs g).map Task.formDelivered ++ groupTold g)
  else (s, [])

/-- Some alarm linked to the group is PENDING, ACTIVE or LATCHED (R181, R184). -/
def linkedAlarmPresent (s : State) (g : Group) : Bool :=
  allAlarms.any fun a => groupLink (s.tbs.alarms[a]).links g && (s.acu.alarms[a]).state != .clear

/-- FORCE_CUTOFF sets the manual flag (R180). -/
def setManualFlag (g : Group) (s : State) : State := setGroup s g { groupRecord s g with manual := true }

/-! ## RESTART (R184) -/

/-- An alarm of class SOFT that RESTART finds ACTIVE or LATCHED (R184, step 1). -/
def softSet (s : State) (a : AlarmIx) : Bool := (s.tbs.alarms[a]).cls == .soft && alarmSet s a

/-- Steps 1 to 3 of R184: the records at once, then the actions of R175 in alarm order (DESIGN CHOICE, log entry 48). Where an alarm
that a commit made SOFT was the last of the seven pot alarms set, R140 takes the pot from FAULT to COLD here, although R159 has a pot
in FAULT keep its state (DESIGN CHOICE, log entry 70). An A41 made SOFT is cleared with the rest, although R196 has it keep its state
(DESIGN CHOICE, log entry 72). -/
def restartAlarms (s : State) : Effect :=
  ({ s with acu := { s.acu with
      alarms := Vector.ofFn fun a =>
        if (s.tbs.alarms[a]).cls = .soft then { s.acu.alarms[a] with state := .clear, count := 0 } else s.acu.alarms[a],
      groups := s.acu.groups.map fun g => { g with manual := false } } },
   (allAlarms.filter (softSet s)).flatMap fun a => clearTasks (s.tbs.alarms[a]).links a)

/-- Step 4 of R184, for one group. POT is told of POTHEAT by R182, so that R138 can move the pot state, which R159 keeps (DESIGN
CHOICE, log entry 70). -/
def restartGroup (g : Group) (s : State) : Effect :=
  (s, if groupActive s g && !linkedAlarmPresent s g then [.deactivate g] else [])

/-! ## The commit of an ALARM entry (R178) -/

/-- What setting the mask makes of an alarm's state (R178). -/
def maskedState (cls : AlarmClass) : AlarmState → AlarmState
  | .clear => .clear
  | .pending => .clear
  | .active => if cls = .soft then .clear else .latched
  | .latched => .latched

/-- The groups whose links a commit adds (R178), from FLUX to EXTRACT (DESIGN CHOICE, log entry 48). -/
def addedGroups (old new : BitVec 8) : List Group := allGroups.filter fun g => groupLink new g && !groupLink old g

/-- ACU applies a new entry to the alarm's record, in the order mask, class, delay, links (R178). Within the links R178 gives no
order: the added groups are activated before BTK is told of the admission link (DESIGN CHOICE, log entry 60). -/
def applyEntry (a : AlarmIx) (new : AlarmEntry) (s : State) : Effect :=
  let old := s.tbs.alarms[a]
  let r := s.acu.alarms[a]
  let next := if new.masked && !old.masked then maskedState old.cls r.state else r.state
  let r' := { r with state := next, count := if r.state = .pending ∧ next = .clear then 0 else r.count }
  let s := { s with tbs := { s.tbs with alarms := vset s.tbs.alarms a new } }
  let set := next == .active || next == .latched
  (setAlarm s a r',
   changeTasks old.links a r.state next
   ++ (if set then (addedGroups old.links new.links).map (fun g => Task.activate g (.alarm a)) else [])
   ++ (if set && admissionLink new.links != admissionLink old.links then [.admission] else []))

end Sys2Proof.Machine
end

