-- ==== Sys2Proof/Machine/Btk.lean ====
section
/-! DEFINITION. BTK, the Board Tracker (05): position and speed, the board sensors, admission, entry, the train, exit, and the
conveyor with its no-motion timer. -/

namespace Sys2Proof.Machine

/-! ## Position and speed (R65, R66, R67) -/

/-- The step between two encoder counts, modulo 2^16 and read as signed (R65). -/
def encoderStep (count reference : Word16) : Int := (count - reference).toInt

/-- The position after a GOOD encoder sample (R65). -/
def nextPosition (b : Btk) (count : Word16) : Word32 :=
  match b.reference with
  | some r => b.position + BitVec.ofInt 32 (encoderStep count r)
  | none => BitVec.ofNat 32 count.toNat

/-- The speed history with a new position at its tail; it holds at most 9 (R67). -/
def pushHistory (h : List Word32) (p : Word32) : List Word32 :=
  let h := h ++ [p]
  if 9 < h.length then h.drop 1 else h

/-- v8 of a speed history (R67). -/
def speedOf (h : List Word32) : Option Int :=
  if h.length = 9 then
    match h.head?, h.getLast? with
    | some oldest, some newest => some (signedDiff newest oldest)
    | _, _ => none
  else none

/-- BTK after the count of a GOOD encoder sample: position, reference count, history and v8 (R65, R67). -/
def moveTo (b : Btk) (count : Word16) : Btk :=
  let p := nextPosition b count
  let h := pushHistory b.history p
  { b with position := p, reference := some count, history := h, v8 := speedOf h }

/-- The records that carry a loss mark (R66). R66 gives no order for their TRACK_UNSURE: train order, each with all that follows
from it before the next (DESIGN CHOICE, log entry 47). -/
def markedBoards (b : Btk) : List BoardNo := (b.train.filter (·.lossMark)).map (·.number)

/-- The gap is closed: every loss mark and the gap flag are cleared (R66). -/
def closeGap (b : Btk) : Btk :=
  { b with gap := false, train := b.train.map fun r => { r with lossMark := false } }

/-- An encoder arrival (R65, R66): the position and speed, the re-basing of a gap, the tests of the exit and the entry,
admission, the no-motion condition, and the hand-over to FLX, PHM, POT, EXM and HLD, in that order (log entry 7). -/
def encoder (status : SampleStatus) (s : State) : Effect :=
  if status = .good then
    let b := moveTo s.btk (BitVec.ofInt 16 (lastGood s (S 10)))
    let marked := if b.gap then markedBoards b else []
    ({ s with btk := if b.gap then closeGap b else b },
     marked.map (fun n => Task.defect n .trackUnsure)
     ++ [.missingTest, .entryBlocked true, .admission, .noMotion, .a41Btk true,
         .flxSample, .phmDecide, .phmArm, .potSample, .duct1Demand, .hldEncoder])
  else (s, [.a41Btk true])

/-- The gap of R66: a stale encoder, or the loop going DOWN. POT's interval of R148 starts again, and in STOPPING HLD's still
count does (R189). -/
def encoderGap (s : State) : Effect :=
  ({ s with btk := { s.btk with history := [], v8 := none, gap := true,
                                train := s.btk.train.map fun r => { r with lossMark := true } },
            pot := { s.pot with lastEncoder := none },
            hld := { s.hld with stillCount := if s.hld.phase = .stopping then 0 else s.hld.stillCount } },
   [.noMotion])

/-! ## Board sensors (R69, R70) -/

/-- The filter of a board sensor. -/
def sensorFilter (b : Btk) (exit : Bool) : SensorFilter := if exit then b.exitFilter else b.entryFilter

/-- BTK with the filter of a board sensor changed. -/
def setSensorFilter (s : State) (exit : Bool) (f : SensorFilter) : State :=
  { s with btk := if exit then { s.btk with exitFilter := f } else { s.btk with entryFilter := f } }

/-- A filter after a sample of a level at a position, and the captured position of the edge it confirms, if any (R69). -/
def filterSample (f : SensorFilter) (count : Nat) (level : Bool) (position : Word32) : SensorFilter × Option Word32 :=
  if level = f.level then ({ f with runCount := 0 }, none)
  else
    let stamp := if f.runCount = 0 then position else f.runStamp
    if count ≤ f.runCount + 1 then ({ level := level, runCount := 0, runStamp := stamp }, some stamp)
    else ({ f with runCount := f.runCount + 1, runStamp := stamp }, none)

/-- An arrival of a board sensor (R69, R70). -/
def boardSensor (exit : Bool) (status : SampleStatus) (s : State) : Effect :=
  if geometryCommitted s then
    let f := sensorFilter s.btk exit
    if status = .good then
      let level := lastGood s (if exit then S 12 else S 11) == 1
      let (f', edge) := filterSample f (if exit then exitFilterCount s.tbs else entryFilterCount s.tbs) level s.btk.position
      (setSensorFilter s exit f',
       match edge with
       | none => []
       | some p => if exit then (if level then [.exitLead p] else [.exitTail])
                   else (if level then [.entryLead p] else [.entryTail p]))
    else (setSensorFilter s exit { f with runCount := 0 }, [])
  else (s, [])

/-- A stale notification of a board sensor (R70). -/
def boardSensorSilent (exit : Bool) (s : State) : Effect :=
  (setSensorFilter s exit { sensorFilter s.btk exit with runCount := 0 }, [])

/-! ## Admission and the gate (R71, R72) -/

/-- Some alarm with an admission link is ACTIVE or LATCHED (R71, condition 4). -/
def admissionAlarm (s : State) : Bool :=
  allAlarms.any fun a => admissionLink (s.tbs.alarms[a]).links && alarmSet s a

/-- The entry is clear: the filter is at 0 and the last tail is a minimum gap behind (R71, condition 5). With a minimum gap of 0 a
distance of exactly 0 is taken as clear, although 00_scope.md 4.2 calls a position beyond another only where the difference is
positive (DESIGN CHOICE, log entry 43). -/
def entryClear (s : State) : Bool :=
  !s.btk.entryFilter.level &&
  match s.btk.lastEntryTail with
  | none => true
  | some p => decide (minimumGap s.tbs ≤ signedDiff s.btk.position p)

/-- The admit bank of the next slot. -/
def nextBank (s : State) : Bank := admitBank s.tbs.slots[s.mru.nextSlot]

/-- Admission is open (R71). -/
def admissionOpen (s : State) : Bool :=
  s.mru.line == .run && s.hld.phase == .none
  && (nextBank s).filled
  && decide (s.btk.train.length < 12)
  && !admissionAlarm s
  && entryClear s
  && (!(decide (0 < waveSpeed (nextBank s).fields .chip) || decide (0 < waveSpeed (nextBank s).fields .laminar))
      || s.pot.state == .ready)

/-- The command of O20: 1 OPEN, 0 CLOSED (02 2.2). -/
def gateValue (isOpen : Bool) : Nat := if isOpen then 1 else 0

/-- Evaluate admission (R72). -/
def admission (s : State) : Effect :=
  let v := admissionOpen s
  ({ s with btk := { s.btk with gateOpen := v } },
   if v = s.btk.gateOpen then [] else [.setAutomatic (O 20) (gateValue v)])

/-! ## Entry (R73, R74, R75, R76) -/

/-- The record made at a lead edge (R73, R74). -/
def newRecord (s : State) (captured : Word32) : Board :=
  let planned := s.btk.gateOpen
  let slot := s.tbs.slots[s.mru.nextSlot]
  let bank := if planned || (admitBank slot).filled then some (s.mru.nextSlot, slot.pointer) else none
  { number := s.btk.nextNumber, bank := bank, lead := captured, length := none, unplanned := !planned,
    disposition := if planned then .goOn else .rework, flux := .pending, dose := 0, topside := none, wave := .pending,
    chipMs := 0, laminarMs := 0,
    defects := if planned then 0
               else if bank.isSome then defectBit .unplanned else defectBit .unplanned ||| defectBit .noRecipe,
    holds := 0, lossMark := s.btk.gap, exitMatched := false }

/-- Change the reference count that a record names (R60). -/
def countReference (t : Tbs) (b : Board) (f : Nat → Nat) : Tbs :=
  match b.bank with
  | some p => mapReferences t p f
  | none => t

/-- A confirmed entry lead edge (R73, R74). -/
def entryLead (captured : Word32) (s : State) : Effect :=
  if 12 ≤ s.btk.train.length then
    ({ s with btk := { s.btk with entryBoard := none } }, [.event (A 42), .admission])
  else
    let b := newRecord s captured
    ({ s with btk := { s.btk with train := s.btk.train ++ [b], nextNumber := s.btk.nextNumber + 1,
                                  entryBoard := some b.number },
              tbs := countReference s.tbs b (· + 1) },
     [.flxNewRecord b.number, .phmNewRecord b.number, .potNewRecord b.number, .duct1Demand]
     ++ (if b.unplanned then [.event (A 39)] else [])
     ++ [.admission, .entryBlocked false])

/-- A confirmed entry tail edge (R75): the blocks, then admission, then A40 (R76; log entry 8). -/
def entryTail (captured : Word32) (s : State) : Effect :=
  let s := { s with btk := { s.btk with lastEntryTail := some captured } }
  match s.btk.entryBoard.bind (findBoard s.btk.train) with
  | some b =>
    let told : List Task := if b.length.isNone then [.flxLength b.number, .phmDecide, .potRecord] else []
    let s := if b.length.isNone then
        mapBoard s b.number fun r => { r with length := some (max 1 (signedDiff captured r.lead)) }
      else s
    ({ s with btk := { s.btk with entryBoard := none } }, told ++ [.admission, .entryBlocked false])
  | none => ({ s with btk := { s.btk with entryBoard := none } }, [.admission])

/-- The limit of A40 for the newest record (R76), and of the fourth row of R80 for the head. -/
def boardLengthLimit (t : Tbs) (b : Board) : Option Int := (bankOf t b).map maximumLength

/-- The condition of A40 (R76). -/
def entryBlockedValue (s : State) : Bool :=
  match s.btk.train.getLast? with
  | none => false
  | some b =>
    let limit := match boardLengthLimit s.tbs b with
      | some m => m + minimumGap s.tbs
      | none => 65535
    b.length.isNone && decide (limit < boardOffset s.btk.position b)

/-- The condition of A40, given to ACU (R76). -/
def entryBlocked (evaluation : Bool) (s : State) : Effect := (s, [.condition (A 40) (entryBlockedValue s) evaluation])

/-! ## Writes into a record (R78) -/

/-- BTK tells FLX, PHM, POT and HLD of a change of disposition (R78, R187), in that order (DESIGN CHOICE, log entry 53); PHM takes
it without effect (R124). -/
def dispositionTold (n : BoardNo) (s : State) : Effect :=
  (s, (match findBoard s.btk.train n with
       | some b => if b.disposition = .rework then [Task.flxRework n] else []
       | none => []) ++ [.potGoverning, .holdLine n])

/-- A defect joins the defect set, and the disposition becomes REWORK (R78). -/
def writeDefect (n : BoardNo) (d : Defect) (s : State) : Effect :=
  match findBoard s.btk.train n with
  | none => (s, [])
  | some b =>
    (mapBoard s n fun r => { r with defects := r.defects ||| defectBit d, disposition := .rework },
     if b.disposition = .rework then [] else [.dispositionTold n])

/-- HLD writes a disposition (R78, R192). -/
def writeDisposition (n : BoardNo) (d : Disposition) (s : State) : Effect :=
  match findBoard s.btk.train n with
  | none => (s, [])
  | some b => (mapBoard s n fun r => { r with disposition := d }, if b.disposition = d then [] else [.dispositionTold n])

/-! ## Exit (R79, R80, R81, R83, R84) -/

/-- The exit report of a record (R83). -/
def exitReport (t : Tbs) (lost : Bool) (b : Board) : ExitReport :=
  { number := b.number,
    label := ((bankOf t b).map recipeLabel).getD 0,
    outcome := if lost then .lost else if b.disposition = .goOn ∧ b.defects = 0 then .good else .rework,
    defects := b.defects,
    dose := min 65535 (b.dose / 1000),
    topside := b.topside,
    chipMs := min 65535 b.chipMs,
    laminarMs := min 65535 b.laminarMs,
    holds := b.holds }

/-- Retirement of the head (R81): steps 1 to 4 at once, then the removal told to FLX, PHM, POT and EXM, then A37 for a missing
board (R80), admission, and MRU's test of an empty train (log entry 9). -/
def retire (lost : Bool) (s : State) : Effect :=
  match s.btk.train with
  | [] => (s, [])
  | b :: rest =>
    let report := exitReport s.tbs lost b
    let s' := { s with
      btk := { s.btk with
        train := rest, exits := (report :: s.btk.exits).take 8,
        entryBoard := if s.btk.entryBoard = some b.number then none else s.btk.entryBoard,
        exitMatch := if lost && b.exitMatched then .none else s.btk.exitMatch },
      tbs := countReference s.tbs b (· - 1) }
    (pushReport report s',
     [.flxRemoved b.number, .phmRemoved b.number, .potRemoved b.number, .duct1Demand]
     ++ (if lost then [.event (A 37)] else [])
     ++ (if rest.isEmpty then [.entryBlocked false] else [])
     ++ [.admission]
     ++ (if rest.isEmpty then [.drainingTest] else []))

/-- A confirmed exit lead edge (R79). Its last row retires the head as missing at the edge, although R197 says that such a
retirement takes place only at a GOOD encoder sample; a head with a loss mark then leaves without TRACK_UNSURE (DESIGN CHOICE,
log entry 61). -/
def exitLead (captured : Word32) (s : State) : Effect :=
  let phantom : Effect := ({ s with btk := { s.btk with exitMatch := .phantom } }, [.event (A 38)])
  match s.btk.train with
  | [] => phantom
  | b :: _ =>
    let off := signedDiff captured b.lead
    if off < exitPosition s.tbs - exitWindow s.tbs then phantom
    else if off ≤ exitPosition s.tbs + exitWindow s.tbs then
      let s := mapBoard s b.number fun r => { r with exitMatched := true }
      ({ s with btk := { s.btk with exitMatch := .matched } }, [])
    else (s, [.retire true, .exitLead captured])

/-- A confirmed exit tail edge (R81); a head that still carries a loss mark receives TRACK_UNSURE first (R197). -/
def exitTail (s : State) : Effect :=
  let s' := { s with btk := { s.btk with exitMatch := .none } }
  match s.btk.train with
  | [] => (s', [])
  | b :: _ =>
    if s.btk.exitMatch = .matched ∧ b.exitMatched = true then
      (s', (if b.lossMark then [.defect b.number .trackUnsure] else []) ++ [.retire false])
    else (s', [])

/-- The head is missing by the table of R80. -/
def headMissing (s : State) (b : Board) : Bool :=
  let off := boardOffset s.btk.position b
  let window := exitPosition s.tbs + exitWindow s.tbs
  if b.exitMatched then
    match b.length with
    | some len => decide (window + len < off)
    | none => decide (window + (boardLengthLimit s.tbs b).getD 65535 < off)
  else
    decide (window < off)
      && (s.btk.exitFilter.level || s.btk.exitFilter.runCount == 0)

/-- The test of the head at a GOOD encoder sample (R80); after a retirement the new head is tested at the same event. -/
def missingTest (s : State) : Effect :=
  match s.btk.train with
  | [] => (s, [])
  | b :: _ => (s, if headMissing s b then [.retire true, .missingTest] else [])

/-! ## The conveyor (R38, R85) -/

/-- The automatic command of O19 (R38). -/
def conveyorValue (s : State) : Nat :=
  if (s.mru.line = .run ∨ s.mru.line = .draining) ∧ (s.hld.phase = .none ∨ s.hld.phase = .resuming) then
    s.mru.lineSpeed.getD 0
  else 0

/-- BTK sets the conveyor command (R38). -/
def conveyor (s : State) : Effect := (s, [.setAutomatic (O 19) (conveyorValue s)])

/-- The conveyor is commanded to move, the line is not stopping, and no motion is measured (R85). -/
def noMotionHolds (s : State) : Bool :=
  decide (0 < (outputRecord s (O 19)).delivered) && s.hld.phase != .stopping
    && (s.btk.v8 == none || s.btk.v8 == some 0)

/-- Start or stop the no-motion timer (R85). Stopping it ends a condition that its expiry made true. -/
def noMotion (s : State) : Effect :=
  if noMotionHolds s then
    if s.btk.noMotionTimer.isSome || s.btk.faultCondition then (s, [])
    else ({ s with btk := { s.btk with noMotionTimer := some (stopTimeout s.tbs) } }, [])
  else
    ({ s with btk := { s.btk with noMotionTimer := none, faultCondition := false } },
     if s.btk.faultCondition then [.a41Btk false] else [])

/-- The no-motion timer expires (R85). On a stopped timer nothing happens (log entry 1). -/
def noMotionExpiry (s : State) : Effect :=
  if s.btk.noMotionTimer.isSome then
    ({ s with btk := { s.btk with noMotionTimer := none, faultCondition := true } }, [.a41Btk false])
  else (s, [])

/-! ## RESTART (R87) -/

/-- BTK at RESTART: the train is emptied without reports, and every reference count is 0. -/
def btkRestart (s : State) : State :=
  { s with
    btk := { s.btk with train := [], entryBoard := none, exitMatch := .none },
    tbs := { s.tbs with slots := s.tbs.slots.map fun sl =>
      { sl with bankA := { sl.bankA with references := 0 }, bankB := { sl.bankB with references := 0 } } } }

end Sys2Proof.Machine
end

