-- ==== Sys2Proof/Machine/Exm.lean ====
section
/-! DEFINITION. EXM, the Extraction Monitor (10). -/

namespace Sys2Proof.Machine

/-- The record keeps duct 1 at boost (R160). -/
def boosts (s : State) (b : Board) : Bool :=
  b.flux == .spraying
    || (b.flux == .done && decide (boardOffset s.btk.position b < zoneEnd s.tbs (Fin.ofNat 6 2)))

/-- The demand of duct 1 (R160). -/
def duct1DemandOf (s : State) : Demand := if s.btk.train.any (boosts s) then .boost else .base

/-- The demand of duct 2 (R161). -/
def duct2DemandOf (s : State) : Demand :=
  if 0 < s.exm.duct1.pumpDelivered ∨ 0 < s.exm.duct2.pumpDelivered then .boost else .base

/-- The fan speed that a demand calls for (R162). -/
def fanSpeed (t : Tbs) (d : Duct) : Demand → Nat
  | .base => fanBaseSpeed t d
  | .boost => fanBoostSpeed t d

/-- Form one fan command and hand it if it differs from the one last handed (R162); none while the line state is
UNCONFIGURED. -/
def fanCommand (d : Duct) (s : State) : Effect :=
  let r := ductOf s.exm d
  let v := fanSpeed s.tbs d r.demand
  if s.mru.line = .unconfigured ∨ v = r.fanAutomatic then (s, [])
  else (setDuct s d { r with fanAutomatic := v }, [.setAutomatic (fanOutput d) v])

/-- Form both fan commands (R162), fan 1 first (DESIGN CHOICE, log entry 40). -/
def fanCommands (s : State) : Effect := (s, [.fanCommand .one, .fanCommand .two])

/-- Decide the demand of duct 1 (R160). -/
def duct1Demand (s : State) : Effect :=
  (setDuct s .one { s.exm.duct1 with demand := duct1DemandOf s }, [.fanCommands])

/-- OUT reports a pump's delivered command (R161): the demand of duct 2 is decided. The command of O17 is kept beside duct 1,
that of O18 beside duct 2. -/
def pumpReported (w : Wave) (s : State) : Effect :=
  let v := (outputRecord s (pumpOutput w)).delivered
  let s := match w with
    | .chip => setDuct s .one { s.exm.duct1 with pumpDelivered := v }
    | .laminar => setDuct s .two { s.exm.duct2 with pumpDelivered := v }
  (setDuct s .two { s.exm.duct2 with demand := duct2DemandOf s }, [.fanCommands])

/-- OUT reports a fan's delivered command (R163): the grace timer starts, and expires at once when the fan grace is 0. -/
def fanReported (d : Duct) (s : State) : Effect :=
  (setDuct s d { ductOf s.exm d with fanDelivered := (outputRecord s (fanOutput d)).delivered,
                                     grace := some (fanGrace s.tbs) },
   .ductConditions d :: if fanGrace s.tbs = 0 then [.fanGraceOver d] else [])

/-- The grace timer of a duct expires (R163). On a stopped timer nothing happens (log entry 1). -/
def fanGraceOver (d : Duct) (s : State) : Effect :=
  if (ductOf s.exm d).grace.isSome then
    (setDuct s d { ductOf s.exm d with grace := none }, [.ductConditions d])
  else (s, [])

/-! ## Duct conditions (R164, R165) -/

/-- The three conditions of a duct. -/
inductive DuctCondition where
  | airflow | filter | fanFault
  deriving DecidableEq, Repr

/-- The alarm of a duct condition (R164). -/
def ductAlarm : Duct → DuctCondition → AlarmIx
  | .one, .airflow => A 30
  | .two, .airflow => A 31
  | .one, .filter => A 32
  | .two, .filter => A 33
  | .one, .fanFault => A 34
  | .two, .fanFault => A 35

/-- The signal of a duct condition (R164). -/
def ductSignalOf : Duct → DuctCondition → SigIx
  | .one, .airflow => S 17
  | .two, .airflow => S 18
  | .one, .filter => S 19
  | .two, .filter => S 20
  | .one, .fanFault => S 21
  | .two, .fanFault => S 22

/-- A signal that has been heard from reads too low: it is STALE, its last sample is OPEN or RANGE, or its last GOOD value is
below the minimum. A signal that is NO_DATA does not (R164), also at the stale notification of a CHANNEL commit that remaps it,
although the note to R19 has that act as a sensor gone silent (DESIGN CHOICE, log entry 74). -/
def readsTooLow (s : State) (i : SigIx) (minimum : Int) : Bool :=
  match (s.sig[i]).freshness with
  | .noData => false
  | .stale => true
  | .fresh => (s.sig[i]).status != some .good || decide (lastGood s i < minimum)

/-- A duct condition formed from the signal records and the limits (R164); false while the grace timer runs (R163). -/
def ductConditionValue (s : State) (d : Duct) (c : DuctCondition) : Bool :=
  (ductOf s.exm d).grace.isNone &&
  match c with
  | .airflow => readsTooLow s (ductSignalOf d c) (minimumAirflow s.tbs d)
  | .filter => usable s (ductSignalOf d c) && decide (maximumFilterPressure s.tbs d < lastGood s (ductSignalOf d c))
  | .fanFault => decide (0 < (ductOf s.exm d).fanDelivered)
      && readsTooLow s (ductSignalOf d c) (minimumFanSpeed s.tbs d)

/-- The duct record with one condition changed. -/
def setDuctCondition (r : DuctRecord) (c : DuctCondition) (v : Bool) : DuctRecord :=
  match c with
  | .airflow => { r with airflow := v }
  | .filter => { r with filter := v }
  | .fanFault => { r with fanFault := v }

/-- Form one duct condition and give it to ACU (R165); none while the line state is UNCONFIGURED. -/
def giveDuctCondition (d : Duct) (c : DuctCondition) (s : State) : Effect :=
  if s.mru.line = .unconfigured then (s, [])
  else
    let v := ductConditionValue s d c
    (setDuct s d (setDuctCondition (ductOf s.exm d) c v), [.condition (ductAlarm d c) v true])

/-- The duct and the condition of a signal S17..S22 (R164). -/
def ductOfSignal (i : SigIx) : Option (Duct × DuctCondition) :=
  let n := i.val + 1
  if n = 17 then some (.one, .airflow) else if n = 18 then some (.two, .airflow)
  else if n = 19 then some (.one, .filter) else if n = 20 then some (.two, .filter)
  else if n = 21 then some (.one, .fanFault) else if n = 22 then some (.two, .fanFault)
  else none

/-- An arrival or a stale notification of S17..S22, or a cycle start at which it is STALE (R165). -/
def ductSignal (i : SigIx) (s : State) : Effect :=
  match ductOfSignal i with
  | some (d, c) => giveDuctCondition d c s
  | none => (s, [])

/-- All three conditions of a duct (R163, R165). The rules give no order: airflow, filter, fan fault (DESIGN CHOICE, log entry
48). -/
def ductConditions (d : Duct) (s : State) : Effect :=
  (s, [DuctCondition.airflow, .filter, .fanFault].map fun c => Task.ductSignal (ductSignalOf d c))

/-- A cycle start, for each duct signal that is STALE (R165), in signal order (DESIGN CHOICE, log entry 48). -/
def staleDucts (s : State) : Effect :=
  (s, ([S 17, S 18, S 19, S 20, S 21, S 22].filter fun i => (s.sig[i]).freshness == .stale).map Task.ductSignal)

/-- The flame condition (R166), in every line state, and at every stale notification, whether or not S23 has ever sent (DESIGN CHOICE,
log entry 73). -/
def flame (seen : Bool) (s : State) : Effect :=
  ({ s with exm := { s.exm with flame := seen } }, [.condition (A 36) seen true])

/-- The line state leaves UNCONFIGURED (R162, R165). The rules do not order the two: both fan commands first, which starts the
grace of each fan whose delivered command changes, then the six conditions, duct 1 before duct 2 (DESIGN CHOICE, log entries 51
and 48). -/
def exmLeavesUnconfigured (s : State) : Effect :=
  let s := setDuct s .one { s.exm.duct1 with demand := duct1DemandOf s }
  let s := setDuct s .two { s.exm.duct2 with demand := duct2DemandOf s }
  (s, [.fanCommands, .ductConditions .one, .ductConditions .two])

end Sys2Proof.Machine
end

