-- ==== Sys2Proof/Machine/Flx.lean ====
section
/-! DEFINITION. FLX, the Flux Controller (06): spray runs, edges, nozzle records, dose accounting, forcing, and the tank. -/

namespace Sys2Proof.Machine

/-! ## Writes -/

/-- FLX writes a flux status through BTK (R78). -/
def writeFlux (n : BoardNo) (f : FluxStatus) (s : State) : State := mapBoard s n fun b => { b with flux := f }

/-- Change the spray record of one board. -/
def mapSpray (s : State) (n : BoardNo) (f : SprayRecord → SprayRecord) : State :=
  { s with flx := { s.flx with sprays := s.flx.sprays.map fun r => if r.board = n then f r else r } }

/-- The spray record of a board. -/
def findSpray (x : Flx) (n : BoardNo) : Option SprayRecord := x.sprays.find? fun r => r.board == n

/-- The flux status of a board in the train. -/
def fluxOf (s : State) (n : BoardNo) : Option FluxStatus := (findBoard s.btk.train n).map (·.flux)

/-- The segment is OPEN or ENDING. -/
def isSpraying (g : Segment) : Bool := g.state == .opened || g.state == .ending

/-- One of the board's segments is OPEN or ENDING in FLX's account (R186, step 3). -/
def nozzleOpenFor (s : State) (n : BoardNo) : Bool :=
  match findSpray s.flx n with
  | some r => r.segments.any isSpraying
  | none => false

/-! ## The edge list (R88, R89) -/

/-- A board's place in the train. -/
def trainPlace (s : State) (n : BoardNo) : Nat := s.btk.train.findIdx fun b => b.number == n

/-- The order of the edge list (R89). -/
def edgeBefore (s : State) (a b : Edge) : Bool :=
  let d := signedDiff a.position b.position
  let i := trainPlace s a.board
  let j := trainPlace s b.board
  decide (d < 0) || (d == 0 && (decide (i < j) || (i == j && (decide (a.segment < b.segment)
    || (a.segment == b.segment && a.kind == .opening && b.kind == .closing)))))

/-- An edge put in its place (R89). -/
def insertEdge (s : State) (e : Edge) : List Edge → List Edge
  | [] => [e]
  | x :: xs => if edgeBefore s e x then e :: x :: xs else x :: insertEdge s e xs

/-- The edge list with an edge put in its place. -/
def addEdge (e : Edge) (s : State) : State := { s with flx := { s.flx with edges := insertEdge s e s.flx.edges } }

/-- The edge list without some edges. -/
def dropEdges (p : Edge → Bool) (s : State) : State :=
  { s with flx := { s.flx with edges := s.flx.edges.filter fun e => !p e } }

/-- The board has an edge in the list. -/
def hasEdges (s : State) (n : BoardNo) : Bool := s.flx.edges.any fun e => e.board == n

/-- A position measured back from a board's lead at the flux station (R88). -/
def edgePosition (t : Tbs) (b : Board) (behind : Int) : Word32 := b.lead + BitVec.ofInt 32 (fluxStation t + behind)

/-- A new record (R88): its spray record, and its edges unless the board is not sprayed. -/
def flxNewRecord (n : BoardNo) (s : State) : Effect :=
  match findBoard s.btk.train n with
  | none => (s, [])
  | some b =>
    let skip : Effect :=
      (writeFlux n .skipped
        { s with flx := { s.flx with sprays := s.flx.sprays ++ [⟨n, [], false, 0⟩] } }, [.duct1Demand])
    match bankOf s.tbs b with
    | none => skip
    | some m =>
      if b.disposition = .rework ∨ segmentCount m = 0 then skip
      else
        let numbers := (List.range (segmentCount m)).map (· + 1)
        let s := { s with flx := { s.flx with
          sprays := s.flx.sprays ++ [⟨n, numbers.map fun k => ⟨k, .pending⟩, false, 0⟩] } }
        (numbers.foldl (fun s k =>
            addEdge ⟨edgePosition s.tbs b (segmentEnd m k), n, k, .closing⟩
              (addEdge ⟨edgePosition s.tbs b (segmentStart m k), n, k, .opening⟩ s)) s, [])

/-! ## Clipping (R90) -/

/-- One segment of a run when the length becomes known (R90). A PENDING segment that starts and ends at the length fits the first and
the fourth row: the first is taken (DESIGN CHOICE, log entry 63). -/
def clipSegment (b : Board) (m : FieldMap) (length : Int) (g : Segment) (s : State) : State :=
  let k := g.number
  let move (s : State) : State :=
    addEdge ⟨edgePosition s.tbs b length, b.number, k, .closing⟩
      (dropEdges (fun e => e.board == b.number && e.segment == k && e.kind == .closing) s)
  match g.state with
  | .pending =>
    if length ≤ segmentStart m k then
      mapSpray (dropEdges (fun e => e.board == b.number && e.segment == k) s) b.number fun r =>
        { r with segments := r.segments.map fun h => if h.number = k then { h with state := .dropped } else h }
    else if length < segmentEnd m k then move s
    else s
  | .opened => if length < segmentEnd m k then move s else s
  | .ending | .closed | .cut | .dropped => s

/-- A board's length reaches FLX (R90). -/
def flxLength (n : BoardNo) (s : State) : Effect :=
  match findBoard s.btk.train n, findSpray s.flx n with
  | some b, some r =>
    match bankOf s.tbs b, b.length with
    | some m, some length =>
      let had := hasEdges s n
      let s := r.segments.foldl (fun s g => clipSegment b m length g s) s
      if b.flux = .pending then
        if ((findSpray s.flx n).map fun r => r.segments.all fun g => g.state == .dropped) = some true then
          (writeFlux n .skipped s, [.duct1Demand])
        else (s, [])
      else if b.flux = .spraying ∧ had = true ∧ hasEdges s n = false then
        (mapSpray s n fun r => { r with runClosing := true }, [])
      else (s, [])
    | _, _ => (s, [])
  | _, _ => (s, [])

/-! ## Nozzle records (R91) -/

/-- The boards and duties of the segments that cover a nozzle and are OPEN or ENDING, in train order. -/
def covering (s : State) (n : NozzleIx) : List (BoardNo × Nat) :=
  s.flx.sprays.flatMap fun r =>
    match (findBoard s.btk.train r.board).bind (bankOf s.tbs) with
    | none => []
    | some m => (r.segments.filter fun g => isSpraying g && (segmentMask m g.number).getLsbD n.val).map fun g =>
        (r.board, segmentDuty m g.number)

/-- What the segments make of a nozzle, from its view before (R91). -/
def deriveView (s : State) (n : NozzleIx) (before : NozzleView) : NozzleView :=
  match covering s n with
  | [] => .closed
  | (b, duty) :: rest =>
    let kept := before.isOpen && ((b, duty) :: rest).any fun c => before.owner == some c.1
    { isOpen := true, duty := (rest.map (·.2)).foldl max duty, owner := if kept then before.owner else some b }

/-- Derive every nozzle record again (R91). -/
def deriveNozzles (s : State) : State :=
  { s with flx := { s.flx with nozzles := Vector.ofFn fun n =>
      { s.flx.nozzles[n] with view := deriveView s n s.flx.nozzles[n].view } } }

/-- The view of a nozzle. -/
def viewOf (s : State) (n : NozzleIx) : NozzleView := s.flx.nozzles[n].view

/-- Change one nozzle record. -/
def mapNozzle (s : State) (n : NozzleIx) (f : Nozzle → Nozzle) : State :=
  { s with flx := { s.flx with nozzles := vset s.flx.nozzles n (f s.flx.nozzles[n]) } }

/-- Enter a nozzle's change into its interval plan, if its view differs from the one before (R95). -/
def planChange (before : State) (delay : Nat) (n : NozzleIx) (s : State) : State :=
  if viewOf s n = viewOf before n then s
  else mapNozzle s n fun z => { z with planChanges := z.planChanges ++ [(delay, z.view)] }

/-- Hand a valve whose state or duty differs from the one before (R93). -/
def handValve (before : State) (delay : Nat) (n : NozzleIx) (s : State) : State :=
  let v := viewOf s n
  let w := viewOf before n
  if v.isOpen = w.isOpen ∧ v.duty = w.duty then s else timedEdge n v.isOpen v.duty delay s

/-! ## Taking edges (R92, R93, R94) -/

/-- The state of one segment of a board. -/
def segmentState (s : State) (n : BoardNo) (k : Nat) : Option SegState :=
  (findSpray s.flx n).bind fun r => (r.segments.find? fun g => g.number == k).map (·.state)

/-- Set the state of one segment of a board. -/
def setSegment (s : State) (n : BoardNo) (k : Nat) (x : SegState) : State :=
  mapSpray s n fun r => { r with segments := r.segments.map fun g => if g.number = k then { g with state := x } else g }

/-- An edge applied to its segment, its board's flux status and the nozzle records (R93). -/
def applyEdge (s : State) (e : Edge) : State :=
  match e.kind, segmentState s e.board e.segment with
  | .opening, some .pending =>
    let s := if fluxOf s e.board = some .pending then writeFlux e.board .spraying s else s
    deriveNozzles (setSegment s e.board e.segment .opened)
  | .closing, some .opened => deriveNozzles (setSegment s e.board e.segment .closed)
  | _, _ => s

/-- The edges of one delay (R93): all applied, then each valve that changed is handed and its plan takes the change. R93 gives no
order for the valves of one group: nozzle-number order (DESIGN CHOICE, log entry 40). -/
def applyGroup (s : State) (g : Nat × List Edge) : State :=
  let s' := g.2.foldl applyEdge s
  allNozzles.foldl (fun t n => planChange s g.1 n (handValve s g.1 n t)) s'

/-- Groups of equal delay, in increasing order of delay, each in list order (R93). -/
def putGroup (delay : Nat) (e : Edge) : List (Nat × List Edge) → List (Nat × List Edge)
  | [] => [(delay, [e])]
  | (d, es) :: gs =>
    if delay = d then (d, es ++ [e]) :: gs
    else if delay < d then (delay, [e]) :: (d, es) :: gs
    else (d, es) :: putGroup delay e gs

/-- The delay of an edge q - p ahead at a speed (R92). -/
def edgeDelay (ahead v8 : Int) : Nat := if ahead ≤ 0 then 0 else (ahead * 16000 / v8).toNat

/-- The run-closing flag of every SPRAYING board among some edges whose last edge has left the list (R93). -/
def closeRuns (gone : List Edge) (s : State) : State :=
  gone.foldl (fun s e =>
    if fluxOf s e.board = some .spraying ∧ hasEdges s e.board = false then
      mapSpray s e.board fun r => { r with runClosing := true }
    else s) s

/-- The distance of an edge ahead of the position. -/
def edgeAhead (s : State) (e : Edge) : Int := signedDiff e.position s.btk.position

/-- Take the edges that the conveyor passes before the next sample (R92, R93). -/
def takeEdges (v8 : Int) (s : State) : State :=
  let taken := s.flx.edges.filter fun e => decide (edgeAhead s e < v8 / 8)
  let late := (taken.filter fun e => decide (edgeAhead s e ≤ 0)).length
  let groups := taken.foldl (fun gs e => putGroup (edgeDelay (edgeAhead s e) v8) e gs) []
  let s := countLateEdges late (dropEdges (fun e => decide (edgeAhead s e < v8 / 8)) s)
  closeRuns taken (groups.foldl applyGroup s)

/-- The edges of a scheduling (R92): consumed while the forcing flag is set, left while v8 gives no forward speed. EXM is told of
the SPRAYING writes once, after all the TIMED_COMMANDs are handed (R160 leaves it open; DESIGN CHOICE, log entry 52). -/
def flxTakeEdges (s : State) : Effect :=
  if s.flx.forcing then (s, [.flxConsume])
  else
    match s.btk.v8 with
    | none => (s, [])
    | some v8 => if 0 < v8 then (takeEdges v8 s, [.duct1Demand]) else (s, [])

/-- Consume the first edge passed under forcing, and go on (R101). R101 does not order several passed edges against the REWORK that
follows from a FLUX_CUT (R98): one edge in list order with all that follows from it, then the next (DESIGN CHOICE, log entry 55). -/
def flxConsume (s : State) : Effect :=
  if s.flx.forcing then
    match s.flx.edges.find? fun e => decide (edgeAhead s e ≤ 0) with
    | none => (s, [])
    | some e =>
      let s' := closeRuns [e] { s with flx := { s.flx with edges := s.flx.edges.erase e } }
      if e.kind = .opening ∧ segmentState s e.board e.segment = some .pending then
        (setSegment s' e.board e.segment .cut, [.defect e.board .fluxCut, .flxConsume])
      else (s', [.flxConsume])
  else (s, [])

/-! ## Dose accounting (R95, R96, R97) -/

/-- The pieces of a plan: each view and how long it lasts, over an interval of D µs. -/
def planPieces (d : Nat) : Nat → NozzleView → List (Nat × NozzleView) → List (NozzleView × Nat)
  | t, v, [] => [(v, d - t)]
  | t, v, (u, w) :: cs => (v, min u d - t) :: planPieces d (max t (min u d)) w cs

/-- What one piece adds (R96), in nL. -/
def pieceDose (flow duty openMicros : Nat) : Nat := flow * duty * openMicros / 1000000

/-- Add the pieces of one nozzle to their owners' accumulators (R96). -/
def accountNozzle (d : Nat) (s : State) (n : NozzleIx) : State :=
  let z := s.flx.nozzles[n]
  (planPieces d 0 z.planStart z.planChanges).foldl (fun s p =>
    match p.1.isOpen, p.1.owner with
    | true, some b => mapSpray s b fun r =>
        { r with dose := satAdd 4294967295 r.dose (pieceDose (outputFlow s.tbs (valveOutput n)) p.1.duty p.2) }
    | _, _ => s) s

/-- Write every accumulator into its board record (R96). -/
def writeDoses (s : State) : State :=
  s.flx.sprays.foldl (fun s r => mapBoard s r.board fun b => { b with dose := r.dose }) s

/-- The length of the interval that ends at a sample, in µs (R95). -/
def intervalMicros (stamp last : Word32) : Nat := min 16000 (2000 * (stamp - last).toNat)

/-- The dose accounting of a scheduling sample (R95). -/
def flxAccount (s : State) : Effect :=
  let stamp := (s.sig[S 10]).arrivalCycle
  let s := match s.flx.lastAccounted with
    | none => s
    | some last => writeDoses (allNozzles.foldl (accountNozzle (intervalMicros stamp last)) s)
  ({ s with flx := { s.flx with
      lastAccounted := some stamp,
      nozzles := s.flx.nozzles.map fun z => { z with planStart := z.view, planChanges := [] } } }, [])

/-- The runs that end at this accounting (R97). R97 gives no order for several boards: train order, each with all that follows from
it before the next (DESIGN CHOICE, log entry 47). -/
def flxRunEnds (s : State) : Effect :=
  (s, (s.flx.sprays.filter (·.runClosing)).map fun r => Task.flxRunEnd r.board)

/-- The end of one run, and its dose check (R97). EXM is told of the flux status before the check (DESIGN CHOICE, log entry
52). -/
def flxRunEnd (n : BoardNo) (s : State) : Effect :=
  match findBoard s.btk.train n, findSpray s.flx n with
  | some b, some r =>
    if r.runClosing then
      let s := writeFlux n .done (mapSpray s n fun r => { r with runClosing := false })
      let dose : Int := b.dose / 1000
      match bankOf s.tbs b with
      | some m =>
        (s, .duct1Demand ::
          if doseMinimum m ≤ dose ∧ dose ≤ doseMaximum m then [] else [.defect n .dose, .event (A 28)])
      | none => (s, [.duct1Demand])
    else (s, [])
  | _, _ => (s, [])

/-- Close every ENDING segment, and each valve that R99 leaves to be closed (R98, R99). The rules give no order for several
valves: nozzle-number order (DESIGN CHOICE, log entry 40). -/
def flxEndingCloses (s : State) : Effect :=
  let s' := deriveNozzles { s with flx := { s.flx with sprays := s.flx.sprays.map fun r =>
    { r with segments := r.segments.map fun g => if g.state = .ending then { g with state := .closed } else g } } }
  (allNozzles.foldl (fun t n =>
      let t := planChange s 0 n t
      if ((viewOf s n).isOpen && !(viewOf s' n).isOpen) || s.flx.nozzles[n].closeOwed then
        timedEdge n false 0 0 (mapNozzle t n fun z => { z with closeOwed := false })
      else t) s', [])

/-- A GOOD encoder sample (R92): the first of its cycle schedules. -/
def flxSample (s : State) : Effect :=
  if s.flx.lastAccounted = some (s.sig[S 10]).arrivalCycle then (s, [])
  else (s, [.flxAccount, .flxRunEnds, .flxEndingCloses, .flxTakeEdges])

/-! ## REWORK and removal (R98, R99) -/

/-- The segments of a board whose disposition becomes REWORK (R98). -/
def reworkSegment (g : Segment) : Segment :=
  match g.state with
  | .pending => { g with state := .dropped }
  | .opened => { g with state := .ending }
  | .ending | .closed | .cut | .dropped => g

/-- A board's disposition has become REWORK (R98). -/
def flxRework (n : BoardNo) (s : State) : Effect :=
  let stop (f : FluxStatus) : Effect :=
    (writeFlux n f (mapSpray (dropEdges (fun e => e.board == n) s) n fun r =>
      { r with segments := r.segments.map reworkSegment, runClosing := false }), [.duct1Demand])
  match fluxOf s n with
  | some .pending => stop .skipped
  | some .spraying => stop .done
  | some .done | some .skipped | none => (s, [])

/-- The removal of a record (R99): a valve that closes thereby is owed a close at the next scheduling sample. -/
def flxRemoved (n : BoardNo) (s : State) : Effect :=
  let s' := dropEdges (fun e => e.board == n) s
  let s' := deriveNozzles { s' with flx := { s'.flx with sprays := s'.flx.sprays.filter fun r => !(r.board == n) } }
  (allNozzles.foldl (fun t k =>
      if (viewOf s k).isOpen && !(viewOf s' k).isOpen then mapNozzle t k fun z => { z with closeOwed := true } else t) s',
   [])

/-! ## Forcing (R100) -/

/-- The forcing flag's conditions (R100). -/
def forcingHolds (s : State) : Bool :=
  groupActive s .flux || s.hld.phase == .stopping || s.hld.phase == .held
    || !(s.mru.line == .run || s.mru.line == .draining)

/-- A nozzle that forcing closes: one that is open, or one that is still owed a close (log entry 12). -/
def forcedNozzle (s : State) (n : NozzleIx) : Bool := (viewOf s n).isOpen || s.flx.nozzles[n].closeOwed

/-- Forcing begins (R100). R100 gives no order for the boards that receive FLUX_CUT, nor for several direct closings: train order
and nozzle-number order (DESIGN CHOICE, log entries 47 and 40). A valve that is closed in its nozzle record keeps the TIMED_COMMANDs
still queued for it (DESIGN CHOICE, log entry 65). -/
def beginForcing (s : State) : Effect :=
  let boards := (s.flx.sprays.filter fun r => r.segments.any isSpraying).map (·.board)
  ({ s with flx := { s.flx with
      forcing := true,
      sprays := s.flx.sprays.map fun r =>
        { r with segments := r.segments.map fun g => if isSpraying g then { g with state := .cut } else g },
      nozzles := s.flx.nozzles.map fun z =>
        if z.view.isOpen then Nozzle.closed else { z with closeOwed := false } } },
   boards.map (fun b => Task.defect b .fluxCut) ++ (allNozzles.filter (forcedNozzle s)).map Task.directClose)

/-- Evaluate the forcing flag (R100, R102). -/
def flxForcing (s : State) : Effect :=
  let v := forcingHolds s
  if v && !s.flx.forcing then beginForcing s
  else ({ s with flx := { s.flx with forcing := v } }, [])

/-! ## The tank (R103) -/

/-- The tank state from S14 (R103). -/
def tankState (s : State) : TankState :=
  let x := lastGood s (S 14)
  if usable s (S 14) then
    if x < tankEmpty s.tbs then .empty else if x < tankLow s.tbs then .low else .normal
  else .unknown

/-- An arrival or a stale notification of S14 (R103), A26 before A27 (DESIGN CHOICE, log entry 48). -/
def fluxTank (s : State) : Effect :=
  let v := tankState s
  ({ s with flx := { s.flx with tank := v } },
   [.condition (A 26) (v != .normal) true, .condition (A 27) (v == .empty) true])

/-! ## RESTART (R99, R104) -/

/-- FLX's own state at RESTART; the direct closings follow as hand-overs. -/
def flxRestart (s : State) : State :=
  { s with flx := { s.flx with edges := [], sprays := [], nozzles := s.flx.nozzles.map fun _ => Nozzle.closed } }

end Sys2Proof.Machine
end

