-- ==== Sys2Proof/Machine/Phm.lean ====
section
/-! DEFINITION. PHM, the Preheat Manager (08): governing and span boards, targets and feedforward, and the topside check. -/

namespace Sys2Proof.Machine

/-! ## Governing and span boards (R124, R125, R126, R129) -/

/-- The oldest record of the train that overlaps an interval of offsets. -/
def oldestOver (b : Btk) (lo hi : Int) : Option BoardNo :=
  (b.train.find? fun r => overlaps b.position r lo hi).map (·.number)

/-- The governing board of a zone: the oldest record that overlaps its window (R126). -/
def zoneGoverning (s : State) (z : ZoneIx) : Option BoardNo :=
  oldestOver s.btk (zoneStart s.tbs z - zoneLookAhead s.tbs z) (zoneEnd s.tbs z)

/-- The span board of a zone: the oldest record that overlaps its span (R129). -/
def zoneSpan (s : State) (z : ZoneIx) : Option BoardNo := oldestOver s.btk (zoneStart s.tbs z) (zoneEnd s.tbs z)

/-- Decide both boards of every zone (R124). -/
def phmDecide (s : State) : Effect :=
  ({ s with phm := { s.phm with governing := Vector.ofFn (zoneGoverning s), span := Vector.ofFn (zoneSpan s) } }, [])

/-! ## Targets and feedforward (R127, R128) -/

/-- The targets are the recipes': the stored hold phase is NONE or RESUMING (R127). -/
def servesRecipes (p : Phm) : Bool := p.phase == .none || p.phase == .resuming

/-- The bank of a board in the train. -/
def bankOfBoard (s : State) (n : Option BoardNo) : Option FieldMap :=
  (n.bind (findBoard s.btk.train)).bind (bankOf s.tbs)

/-- The target of a zone (R127). -/
def zoneTargetNow (s : State) (z : ZoneIx) : Int :=
  match bankOfBoard s s.phm.governing[z] with
  | some m => if servesRecipes s.phm then zoneTarget m z else standbySetpoint s.tbs (zoneLoop z)
  | none => standbySetpoint s.tbs (zoneLoop z)

/-- The feedforward of a zone (R128). -/
def zoneFeedforwardNow (s : State) (z : ZoneIx) : Int :=
  match bankOfBoard s s.phm.span[z] with
  | some m => if servesRecipes s.phm then zoneFeedforward m z else 0
  | none => 0

/-- HLD tells PHM of a change of hold phase (R130). -/
def phmPhase (s : State) : Effect := ({ s with phm := { s.phm with phase := s.hld.phase } }, [])

/-! ## The topside check (R131, R132, R133, R134) -/

/-- A new record (R131). -/
def phmNewRecord (n : BoardNo) (s : State) : Effect :=
  ({ s with phm := { s.phm with captures := s.phm.captures ++ [(n, .waiting)] } }, [.phmDecide])

/-- The removal of a record (R131). -/
def phmRemoved (n : BoardNo) (s : State) : Effect :=
  ({ s with phm := { s.phm with captures := s.phm.captures.filter fun c => !(c.1 == n) } }, [.phmDecide])

/-- The midpoint offset of a board (R132). -/
def midpoint (position : Word32) (b : Board) : Int :=
  boardOffset position b - Int.tdiv (b.length.getD 0) 2

/-- The record is WAITING and its midpoint has passed the pyrometer (R132). -/
def midpointPassed (s : State) (c : BoardNo × CaptureState) : Bool :=
  c.2 == .waiting &&
  match findBoard s.btk.train c.1 with
  | some b => decide (0 < midpoint s.btk.position b - pyrometerPosition s.tbs)
  | none => false

/-- The test of every WAITING record at a GOOD encoder sample (R132). Every capture state is set before the first defect is written
(DESIGN CHOICE, log entry 47). -/
def phmArm (s : State) : Effect :=
  let next : CaptureState := if usable s (S 9) then .armed else .unknown
  let passed := s.phm.captures.filter (midpointPassed s)
  ({ s with phm := { s.phm with captures := s.phm.captures.map fun c => if midpointPassed s c then (c.1, next) else c } },
   if usable s (S 9) then [] else passed.map fun c => Task.defect c.1 .tempUnknown)

/-- The ARMED records, in train order. -/
def armedBoards (s : State) : List BoardNo := (s.phm.captures.filter fun c => c.2 == .armed).map (·.1)

/-- Every ARMED record goes to a final state. -/
def decideArmed (next : CaptureState) (s : State) : State :=
  { s with phm := { s.phm with captures := s.phm.captures.map fun c => if c.2 = .armed then (c.1, next) else c } }

/-- The band check of a captured temperature (R134). -/
def bandTasks (s : State) (x : Int) (n : BoardNo) : List Task :=
  match bankOfBoard s (some n) with
  | some m => if topsideMinimum m ≤ x ∧ x ≤ topsideMaximum m then [] else [.defect n .temp, .event (A 29)]
  | none => []

/-- No temperature can be taken of the ARMED records (R133). Every capture state is set before the first defect is written, and at
a stale notification, too, the records are taken in train order (DESIGN CHOICE, log entry 47). -/
def armedUnknown (s : State) : Effect :=
  (decideArmed .unknown s, (armedBoards s).map fun n => Task.defect n .tempUnknown)

/-- An arrival of S9 (R133). Every temperature is written before the first band check (DESIGN CHOICE, log entry 47). -/
def pyrometer (status : SampleStatus) (s : State) : Effect :=
  if status = .good then
    let x := lastGood s (S 9)
    let s' := (armedBoards s).foldl (fun s n => mapBoard s n fun b => { b with topside := some x }) s
    (decideArmed .taken s', (armedBoards s).flatMap (bandTasks s x))
  else armedUnknown s

/-- PHM's own state at RESTART (R131, R135). -/
def phmRestart (s : State) : State := { s with phm := { s.phm with captures := [], phase := .none } }

end Sys2Proof.Machine
end

