-- ==== Sys2Proof/Machine/Pot.lean ====
section
/-! DEFINITION. POT, the Pot Controller (09): pot temperature and states, the wave pumps, contact and wave status, level, and
the feeder. -/

namespace Sys2Proof.Machine

/-- While the line state is UNCONFIGURED, POT takes no action (R136). -/
def potIdle (s : State) : Bool := s.mru.line == .unconfigured

/-- An effect of POT, taken only outside UNCONFIGURED (R136). -/
def potActs (s : State) (e : Effect) : Effect := if potIdle s then (s, []) else e

/-! ## Pot temperature (R137) -/

/-- T_pot from the records of S7 and S8 (R137). -/
def potTemperatureOf (s : State) : Option Int :=
  match usable s (S 7), usable s (S 8) with
  | true, true => some (Int.tdiv (lastGood s (S 7) + lastGood s (S 8)) 2)
  | true, false => some (lastGood s (S 7))
  | false, true => some (lastGood s (S 8))
  | false, false => none

/-- An arrival or a stale notification of S7 or S8 (R137, R138). -/
def potTemperature (s : State) : Effect :=
  potActs s ({ s with pot := { s.pot with temperature := potTemperatureOf s } }, [.potEvaluate .plain])

/-! ## Pot states (R138, R139, R140) -/

/-- The pot setpoint brought below the maximum setpoints of both pot loops (R139, condition 2). -/
def potBandCentre (t : Tbs) : Int := clamp 0 (min (maxSetpoint t (L 7)) (maxSetpoint t (L 8))) (potSetpoint t)

/-- T_pot is within the band (R139, condition 2). -/
def inBand (s : State) : Bool :=
  match s.pot.temperature with
  | some x => decide (potBandCentre s.tbs - potBand s.tbs ≤ x ∧ x ≤ potBandCentre s.tbs + potBand s.tbs)
  | none => false

/-- The level is known and at or above LL (R139, condition 3). -/
def levelFit (s : State) : Bool :=
  match s.pot.level with
  | some m => decide (levelLL s.tbs ≤ m)
  | none => false

/-- The ready conditions 2 to 4 (R139). -/
def readyConditions (s : State) : Bool := inBand s && levelFit s && !groupActive s .potheat

/-- T_pot is present and below the liquidus. -/
def belowLiquidus (s : State) : Bool :=
  match s.pot.temperature with
  | some x => decide (x < liquidus s.tbs)
  | none => false

/-- T_pot is present and at or above the liquidus. -/
def atLiquidus (s : State) : Bool :=
  match s.pot.temperature with
  | some x => decide (liquidus s.tbs ≤ x)
  | none => false

/-- The event sends the pot to SETBACK (R138, last row). -/
def entersSetback (why : PotEvent) : Bool := why == .setbackOver || why == .setbackOn

/-- The first row of R138 that fits the state and the event. -/
def nextPotState (s : State) (why : PotEvent) : Option PotState :=
  match s.pot.state with
  | .cold => if atLiquidus s then some .melting else none
  | .melting => if belowLiquidus s then some .cold else if why = .dwellOver then some .molten else none
  | .molten =>
    if belowLiquidus s then some .cold else if readyConditions s then some .ready
    else if entersSetback why then some .setback else none
  | .ready =>
    if belowLiquidus s then some .cold else if !readyConditions s then some .molten
    else if entersSetback why then some .setback else none
  | .setback => if why = .leaveSetback then some .molten else none
  | .fault => none

/-- The event as the next test of the table finds it: a row that an event calls for takes the event with it, and a melt dwell
of 0 ms ends as MELTING is entered (R138). -/
def nextPotEvent (s : State) (why : PotEvent) (next : PotState) : PotEvent :=
  if next = .melting ∧ meltDwell s.tbs = 0 then .dwellOver
  else if next = .setback then .plain
  else if s.pot.state = .setback then .plain
  else if s.pot.state = .melting ∧ next = .molten then .plain
  else why

/-- The melt dwell timer after a change of state (R138): it runs in MELTING. -/
def nextMeltTimer (s : State) (next : PotState) : Option Nat :=
  if next = .melting then (if meltDwell s.tbs = 0 then none else some (meltDwell s.tbs)) else none

/-- Evaluate the pot state (R138): one row, what the change calls for (R142), and the table again. That the steps of R142 are taken
for each state passed through, before the table is tested again, is the model's order (DESIGN CHOICE, log entry 49). -/
def potEvaluate (why : PotEvent) (s : State) : Effect :=
  potActs s <|
    match nextPotState s why with
    | none => (s, [])
    | some next =>
      ({ s with pot := { s.pot with state := next, meltTimer := nextMeltTimer s next,
                                    setbackTimer := if next = .setback then none else s.pot.setbackTimer } },
       [.potChanged s.pot.state, .potEvaluate (nextPotEvent s why next)])

/-- What a change of the pot state calls for, in its order (R142). -/
def potChanged (old : PotState) (s : State) : Effect :=
  let left := old == .ready && s.pot.state != .ready
  (s, [.pumpCommand .chip, .pumpCommand .laminar]
      ++ (if left then [.releasePumps, .potNotReadyTest] else [])
      ++ [.feedEvaluate, .setbackTimer, .admission])

/-- ACU tells POT that a pot hard alarm has entered ACTIVE or LATCHED, or has left both (R140). An alarm that has entered them takes
the pot to FAULT also where what followed from its raise has cleared it before POT is told; the pot then leaves FAULT at the same
event, as R140 has it do when none of the seven is ACTIVE or LATCHED. -/
def potAlarm (set : Bool) (s : State) : Effect :=
  potActs s <|
    if s.pot.state = .fault then
      if anyPotAlarmSet s then (s, [])
      else ({ s with pot := { s.pot with state := .cold } }, [.potChanged .fault, .potEvaluate .plain])
    else if set || anyPotAlarmSet s then
      ({ s with pot := { s.pot with state := .fault, meltTimer := none, setbackTimer := none } },
       [.potChanged s.pot.state, .potAlarm false])
    else (s, [])

/-- ACU tells POT of a change of a cutoff group (R138, R144, R155). -/
def potGroup (g : Group) (s : State) : Effect :=
  potActs s <|
    match g with
    | .potheat => (s, [.potEvaluate .plain])
    | .wave => (s, [.pumpCommand .chip, .pumpCommand .laminar])
    | .feed =>
      if groupActive s .feed then
        if s.pot.feeder.state = .feeding then
          ({ handOperation ⟨.abort, 0, s.pot.feeder.number⟩ s with
              pot := { s.pot with feeder := { s.pot.feeder with aborted := true } } }, [])
        else (s, [])
      else (s, [.feedEvaluate])
    | .flux | .preheat | .extract => (s, [])

/-- A change of the line state reaches POT (R138, R141). -/
def potLine (s : State) : Effect :=
  potActs s (s, [.potEvaluate (if s.mru.line = .run then .leaveSetback else .plain), .setbackTimer])

/-- The line state leaves UNCONFIGURED (R136). -/
def potLeavesUnconfigured (s : State) : Effect :=
  ({ s with pot := { s.pot with temperature := potTemperatureOf s } }, [.potEvaluate .plain, .levelConditions false])

/-! ## Timers of the pot state (R138, R141) -/

/-- The setback timer runs: the pot is MOLTEN or READY, the line is in STANDBY, and the train is empty (R141). -/
def setbackHolds (s : State) : Bool :=
  (s.pot.state == .molten || s.pot.state == .ready) && s.mru.line == .standby && s.btk.train.isEmpty

/-- Evaluate the setback timer (R141). -/
def setbackTimer (s : State) : Effect :=
  potActs s <|
    if setbackHolds s then
      if s.pot.setbackTimer.isSome then (s, [])
      else if setbackDelay s.tbs = 0 then (s, [.potEvaluate .setbackOver])
      else ({ s with pot := { s.pot with setbackTimer := some (setbackDelay s.tbs) } }, [])
    else ({ s with pot := { s.pot with setbackTimer := none } }, [])

/-- The setback timer expires (R141). On a stopped timer nothing happens (log entry 1). -/
def setbackExpiry (s : State) : Effect :=
  if s.pot.setbackTimer.isSome then
    ({ s with pot := { s.pot with setbackTimer := none } }, [.potEvaluate .setbackOver])
  else (s, [])

/-- The melt dwell timer expires (R138). On a stopped timer nothing happens (log entry 1). -/
def meltDwellExpiry (s : State) : Effect :=
  if s.pot.meltTimer.isSome then
    ({ s with pot := { s.pot with meltTimer := none } }, [.potEvaluate .dwellOver])
  else (s, [])

/-! ## Waves (R143, R147, R148, R149) -/

/-- A board overlaps a wave's window (R143). -/
def inWindow (s : State) (w : Wave) (b : Board) : Bool :=
  overlaps s.btk.position b (wavePosition s.tbs w - wavePre s.tbs w) (wavePosition s.tbs w + wavePost s.tbs w)

/-- A board overlaps a wave's contact zone (R143). -/
def inContactZone (s : State) (w : Wave) (b : Board) : Bool :=
  overlaps s.btk.position b (wavePosition s.tbs w - contactHalfWidth s.tbs w)
    (wavePosition s.tbs w + contactHalfWidth s.tbs w)

/-- The wave speed that a board's bank gives; 0 for a board without recipe. -/
def boardWaveSpeed (t : Tbs) (b : Board) (w : Wave) : Nat := ((bankOf t b).map fun m => waveSpeed m w).getD 0

/-- A board that may govern a wave: CONTINUE, with a speed above 0 (R143). -/
def claimsWave (s : State) (w : Wave) (b : Board) : Bool :=
  b.disposition == .goOn && decide (0 < boardWaveSpeed s.tbs b w)

/-- The governing board of a wave (R143). -/
def waveGoverning (s : State) (w : Wave) : Option BoardNo :=
  (s.btk.train.find? fun b => claimsWave s w b && inWindow s w b).map (·.number)

/-- A wave record with every flag clear (R150). -/
def WaveRecord.clear (n : BoardNo) : WaveRecord := ⟨n, ⟨false, false, false⟩, ⟨false, false, false⟩⟩

/-- The flags of a wave record at a wave. -/
def waveFlags (r : WaveRecord) : Wave → WaveFlags
  | .chip => r.chip
  | .laminar => r.laminar

/-- A wave record with its flags at a wave changed. -/
def setWaveFlags (r : WaveRecord) (w : Wave) (f : WaveFlags) : WaveRecord :=
  match w with
  | .chip => { r with chip := f }
  | .laminar => { r with laminar := f }

/-- The wave record of a board, clear where there is none (R150). -/
def waveRecordOf (s : State) (n : BoardNo) : WaveRecord := (s.pot.waves.find? fun r => r.board == n).getD (.clear n)

/-- Change the flags of a board at a wave; a record that is not there yet is made (R150), as for a board that joined the train in
UNCONFIGURED, where POT takes no action (R136; DESIGN CHOICE, log entry 57). -/
def mapWaveFlags (s : State) (n : BoardNo) (w : Wave) (f : WaveFlags → WaveFlags) : State :=
  let waves := if s.pot.waves.any fun r => r.board == n then s.pot.waves else s.pot.waves ++ [.clear n]
  { s with pot := { s.pot with waves := waves.map fun r =>
      if r.board = n then setWaveFlags r w (f (waveFlags r w)) else r } }

/-- Decide the governing board of one wave, and set its governed flag (R143). -/
def governWave (w : Wave) (s : State) : State :=
  let g := waveGoverning s w
  let s := setPump s w { pumpOf s.pot w with governing := g }
  match g with
  | some n => mapWaveFlags s n w fun f => { f with governed := true }
  | none => s

/-- Decide the governing boards of both waves, chip first, and form the pump commands (R143, R144). -/
def potGoverning (s : State) : Effect :=
  potActs s (governWave .laminar (governWave .chip s), [.pumpCommand .chip, .pumpCommand .laminar])

/-- The boards whose window-entered flag for a wave goes from clear to set (R147). -/
def entering (s : State) (w : Wave) : List Board :=
  s.btk.train.filter fun b => inWindow s w b && !(waveFlags (waveRecordOf s b.number) w).entered

/-- The window-entered flags of one wave, and A19 for each board that enters without a READY pot (R147). -/
def enterWindow (w : Wave) (s : State) : Effect :=
  let boards := entering s w
  (boards.foldl (fun s b => mapWaveFlags s b.number w fun f => { f with entered := true }) s,
   if s.pot.state = .ready then [] else (boards.filter (claimsWave s w)).map fun _ => Task.event (A 19))

/-- The window-entered flags of both waves, chip first (R147; DESIGN CHOICE, log entry 47). -/
def potWindows (s : State) : Effect :=
  potActs s <|
    let (s, t1) := enterWindow .chip s
    let (s, t2) := enterWindow .laminar s
    (s, t1 ++ t2)

/-- The test of R147 when the pot leaves READY. -/
def potNotReadyTest (s : State) : Effect :=
  (s, if s.btk.train.any fun b => (claimsWave s .chip b && inWindow s .chip b)
        || (claimsWave s .laminar b && inWindow s .laminar b) then [.event (A 19)] else [])

/-- A record with contact time gained at one wave (R148). -/
def addContact (w : Wave) (ms : Nat) (b : Board) : Board :=
  match w with
  | .chip => { b with chipMs := b.chipMs + ms }
  | .laminar => { b with laminarMs := b.laminarMs + ms }

/-- Contact time gained at one wave (R148). -/
def accrueWave (w : Wave) (ms : Nat) (s : State) : State :=
  let p := pumpOf s.pot w
  if p.atSpeed && decide (0 < (outputRecord s (pumpOutput w)).delivered) then
    let train := s.btk.train.map fun b => if inContactZone s w b then addContact w ms b else b
    { s with btk := { s.btk with train := train } }
  else s

/-- The contact flags of every record, from the position in force. The state table of 09_solder_pot.md names a contact flag in the wave
record (R150), and no rule sets or clears it: that it is set exactly while the record's extent overlaps the wave's contact zone,
whenever the wave statuses are set, is the model's (DESIGN CHOICE, log entry 69). -/
def contactFlags (s : State) : State :=
  s.btk.train.foldl (fun t b =>
    mapWaveFlags (mapWaveFlags t b.number .chip fun f => { f with contact := inContactZone s .chip b })
      b.number .laminar fun f => { f with contact := inContactZone s .laminar b }) s

/-- Contact accrues at a GOOD encoder sample (R148). The first one that POT takes after UNCONFIGURED accrues nothing, since POT took
none before it (R136; DESIGN CHOICE, log entry 66). -/
def potContact (s : State) : Effect :=
  potActs s <|
    let stamp := (s.sig[S 10]).arrivalCycle
    let s' := match s.pot.lastEncoder with
      | none => s
      | some last =>
        let ms := 2 * min 8 (stamp - last).toNat
        accrueWave .laminar ms (accrueWave .chip ms s)
    ({ s' with pot := { s'.pot with lastEncoder := some stamp } }, [])

/-- A record has left the waves (R149). -/
def leftWaves (s : State) (b : Board) : Bool :=
  match b.length with
  | some len => decide (wavePosition s.tbs .laminar + wavePost s.tbs .laminar < boardOffset s.btk.position b - len)
  | none => false

/-- The record has a governed flag at either wave (R149). -/
def wasGoverned (s : State) (n : BoardNo) : Bool :=
  let r := waveRecordOf s n
  r.chip.governed || r.laminar.governed

/-- The wave status of a record (R148, R149); it becomes final only at a GOOD encoder sample. A record whose length is absent
keeps PENDING, as R149 says of it, also where its extent overlaps a contact zone (R148 alone would give IN_CONTACT; DESIGN
CHOICE, log entry 41). -/
def nextWaveStatus (s : State) (atSample : Bool) (b : Board) : WaveStatus :=
  if b.wave = .done ∨ b.wave = .lowered then b.wave
  else if b.length.isNone then .pending
  else if leftWaves s b then
    if atSample then (if wasGoverned s b.number then .done else .lowered) else b.wave
  else if inContactZone s .chip b || inContactZone s .laminar b then .inContact
  else .pending

/-- Ten feed quanta, the greatest debt (R149). -/
def debtLimit (t : Tbs) : Int := 10 * feedQuantum t

/-- The debt after the boards that become DONE at this sample (R149). -/
def debtAfter (s : State) (done : List Board) : Int :=
  done.foldl (fun d b => min (debtLimit s.tbs) (d + ((bankOf s.tbs b).map solderUse).getD 0)) s.pot.debt

/-- Set every record's wave status (R148, R149), and with it its contact flags (DESIGN CHOICE, log entry 69). -/
def potStatuses (atSample : Bool) (s : State) : Effect :=
  potActs s <|
    let done := s.btk.train.filter fun b => b.wave != .done && nextWaveStatus s atSample b == .done
    let s' := contactFlags { s with btk := { s.btk with train := s.btk.train.map fun b =>
      { b with wave := nextWaveStatus s atSample b } } }
    ({ s' with pot := { s'.pot with debt := debtAfter s done } }, if done.isEmpty then [] else [.feedEvaluate])

/-- A GOOD encoder sample at POT (R143, R147, R148, R149): the governing boards and both pump commands, then the windows, the
contact, the statuses. R148 puts contact after the governing boards only; that the pump commands, which clear the at-speed flag
where they change, also come before it is the model's order (DESIGN CHOICE, log entry 24). -/
def potSample (s : State) : Effect :=
  potActs s (s, [.potGoverning, .potWindows, .potContact, .potStatuses true])

/-- A new record (R150). -/
def potNewRecord (n : BoardNo) (s : State) : Effect :=
  potActs s ({ s with pot := { s.pot with waves := s.pot.waves ++ [.clear n] } },
    [.potGoverning, .potWindows, .potStatuses false, .setbackTimer])

/-- The length of a record (R143, R148). -/
def potRecord (s : State) : Effect := potActs s (s, [.potGoverning, .potWindows, .potStatuses false])

/-- The removal of a record (R150). -/
def potRemoved (n : BoardNo) (s : State) : Effect :=
  potActs s ({ s with pot := { s.pot with waves := s.pot.waves.filter fun r => !(r.board == n) } },
    [.potGoverning, .potStatuses false, .setbackTimer])

/-! ## Pumps (R144, R145, R146) -/

/-- The pumps may run (R144). -/
def pumpsRun (s : State) : Bool :=
  s.pot.state == .ready && !groupActive s .wave && (s.hld.phase == .none || s.hld.phase == .resuming)

/-- The automatic command of a pump (R144). -/
def pumpValue (s : State) (w : Wave) : Nat :=
  if pumpsRun s then
    match (pumpOf s.pot w).governing.bind (findBoard s.btk.train) with
    | some b => boardWaveSpeed s.tbs b w
    | none => idlePumpSpeed s.tbs w
  else 0

/-- Form a pump's automatic command (R144). -/
def pumpCommand (w : Wave) (s : State) : Effect := potActs s (s, [.setAutomatic (pumpOutput w) (pumpValue s w)])

/-- The manual commands of both pumps are released when the pot leaves READY (R39, R142). -/
def releasePumps (s : State) : Effect :=
  let release (o : OutIx) (s : State) : State := setOutputRecord s o { outputRecord s o with manual := none }
  (release (O 18) (release (O 17) s), [.formDelivered (O 17), .formDelivered (O 18)])

/-- OUT reports a pump's delivered command (R145, R146), at RESTART too, although R159 keeps the pump records there (DESIGN CHOICE, log
entry 71). -/
def pumpDelivered (w : Wave) (s : State) : Effect :=
  potActs s (setPump s w { pumpOf s.pot w with atSpeedCount := 0, atSpeed := false, grace := some (pumpGrace s.tbs) },
    [.pumpFault w false])

/-- The feedback signal of a pump (R145). -/
def pumpSignal : Wave → SigIx
  | .chip => S 15
  | .laminar => S 16

/-- The feedback is within a twentieth of the delivered command (R145). -/
def withinSpeed (delivered : Nat) (feedback : Int) : Bool := decide ((feedback - delivered).natAbs ≤ delivered / 20)

/-- The pump record after a feedback sample (R145). -/
def feedbackSample (p : Pump) (within : Bool) : Pump :=
  if within then
    { p with atSpeedCount := satAdd 3 p.atSpeedCount 1, atSpeed := p.atSpeed || decide (3 ≤ p.atSpeedCount + 1) }
  else { p with atSpeedCount := 0, atSpeed := false }

/-- An arrival of a pump's feedback (R145, R146). -/
def pumpFeedback (w : Wave) (status : SampleStatus) (s : State) : Effect :=
  let within := status == .good
    && withinSpeed (outputRecord s (pumpOutput w)).delivered (lastGood s (pumpSignal w))
  potActs s (setPump s w (feedbackSample (pumpOf s.pot w) within), [.pumpFault w true])

/-- A stale notification of a pump's feedback (R145, R146). -/
def pumpFeedbackSilent (w : Wave) (s : State) : Effect :=
  potActs s (setPump s w (feedbackSample (pumpOf s.pot w) false), [.pumpFault w true])

/-- The fault condition of a pump (R146). -/
def pumpFaultValue (s : State) (w : Wave) : Bool :=
  let p := pumpOf s.pot w
  decide (0 < (outputRecord s (pumpOutput w)).delivered) && p.grace.isNone && !p.atSpeed

/-- Evaluate a pump's fault condition and give ACU the condition of A25 (R146). -/
def pumpFault (w : Wave) (evaluation : Bool) (s : State) : Effect :=
  let s := setPump s w { pumpOf s.pot w with fault := pumpFaultValue s w }
  (s, [.condition (A 25) (s.pot.chip.fault || s.pot.laminar.fault) evaluation])

/-- The grace timer of a pump expires (R146). On a stopped timer nothing happens (log entry 1). -/
def pumpGraceExpiry (w : Wave) (s : State) : Effect :=
  if (pumpOf s.pot w).grace.isSome then
    (setPump s w { pumpOf s.pot w with grace := none }, [.pumpFault w false])
  else (s, [])

/-! ## Level (R151, R152) -/

/-- A number put in its place in a rising list. -/
def insertRising (x : Int) : List Int → List Int
  | [] => [x]
  | y :: ys => if x ≤ y then x :: y :: ys else y :: insertRising x ys

/-- The third smallest of five distances, where the window holds five (R151). -/
def thirdSmallest (window : List Int) : Option Int :=
  if window.length = 5 then (window.foldr insertRising [])[2]? else none

/-- The level of a window (R151). -/
def levelOf (t : Tbs) (window : List Int) : Option Int := (thirdSmallest window).map fun d => levelReference t - d

/-- The window after a GOOD distance: a sixth entry removes the oldest (R151). -/
def pushDistance (window : List Int) (d : Int) : List Int :=
  let w := window ++ [d]
  if 5 < w.length then w.drop 1 else w

/-- A new level window and its level; POT evaluates the pot state and the start of a feed where the level changes (R151), and then
gives ACU the level conditions (R152). The rules do not order the two (DESIGN CHOICE, log entry 50). -/
def setLevel (window : List Int) (level : Option Int) (s : State) : Effect :=
  ({ s with pot := { s.pot with levelWindow := window, level := level } },
   (if level = s.pot.level then [] else [.potEvaluate .plain, .feedEvaluate]) ++ [.levelConditions true])

/-- An arrival of S13 (R151). -/
def levelArrival (status : SampleStatus) (s : State) : Effect :=
  potActs s <|
    if status = .good then
      let w := pushDistance s.pot.levelWindow (lastGood s (S 13))
      setLevel w (levelOf s.tbs w) s
    else if (s.sig[S 13]).nonGood < 50 then setLevel s.pot.levelWindow s.pot.level s
    else setLevel [] none s

/-- A stale notification of S13 (R151). -/
def levelSilent (s : State) : Effect := potActs s (setLevel [] none s)

/-- The condition of A20, A21 and A22 (R152). -/
def levelLowLow (s : State) : Bool := s.pot.level.any fun m => decide (m < levelLL s.tbs)
@[inherit_doc levelLowLow] def levelHighHigh (s : State) : Bool := s.pot.level.any fun m => decide (levelHH s.tbs < m)
@[inherit_doc levelLowLow] def levelUnknown (s : State) : Bool := s.pot.level.isNone

/-- The three level conditions (R152), A20, A21 and A22 in this order (DESIGN CHOICE, log entry 48). -/
def levelConditions (evaluation : Bool) (s : State) : Effect :=
  (s, [.condition (A 20) (levelLowLow s) evaluation, .condition (A 21) (levelHighHigh s) evaluation,
       .condition (A 22) (levelUnknown s) evaluation])

/-! ## The feeder (R153 to R157) -/

/-- POT with its feeder record changed. -/
def setFeeder (s : State) (f : Feeder) : State := { s with pot := { s.pot with feeder := f } }

/-- Conditions 1 to 4 of R153. -/
def mayFeed (s : State) : Bool :=
  s.pot.feeder.state == .idle && (s.pot.state == .molten || s.pot.state == .ready) && !groupActive s .feed
    && s.pot.level.any fun m => decide (m < levelHigh s.tbs)

/-- Condition 5 of R153. -/
def wantsFeed (s : State) : Bool :=
  s.pot.level.any (fun m => decide (m < levelLow s.tbs)) || decide (feedQuantum s.tbs ≤ s.pot.debt)

/-- The start of a feed (R153). -/
def startFeed (s : State) : State :=
  let f := s.pot.feeder
  let f := { f with state := .feeding, number := f.number + 1, levelBefore := s.pot.level, delivered := 0,
                    aborted := false, feedTimer := some (feedTimeout s.tbs) }
  handOperation ⟨.feed, (feedQuantum s.tbs).toNat, f.number⟩ (setFeeder s f)

/-- Evaluate the start of a feed (R153). -/
def feedEvaluate (s : State) : Effect := (if mayFeed s && wantsFeed s then startFeed s else s, [])

/-- A completion that matches no operation in flight (R154). -/
def ignoreCompletion (s : State) : State := { s with pot := { s.pot with ignored := satAdd 65535 s.pot.ignored 1 } }

/-- The completion belongs to the operation in flight (R154). -/
def completionMatches (s : State) (src number : Byte) : Bool :=
  src == outputNode s.tbs (O 21) && number == s.pot.feeder.number && s.pot.feeder.state == .feeding

/-- A COMPLETION cell (R154): result 0 DONE, 1 ABORTED, any other FAULT. -/
def takeCompletion (src number result : Byte) (quantity : Nat) (s : State) : Effect :=
  potActs s <|
    if completionMatches s src number then
      let f := { s.pot.feeder with delivered := quantity, feedTimer := none }
      if result = 0 ∨ result = 1 then
        (setFeeder s { f with aborted := f.aborted || result == 1, state := .settling,
                              settleTimer := some (settleTime s.tbs) },
         if settleTime s.tbs = 0 then [.settleOver] else [])
      else (setFeeder s f, [.event (A 24), .feedFaulted])
    else (ignoreCompletion s, [])

/-- The feeder goes to FAULTED (R154, R155, R156). -/
def feedFaulted (s : State) : Effect := (setFeeder s { s.pot.feeder with state := .faulted }, [])

/-- The feed timer expires (R155): A24, with the feeder still FEEDING (log entry 16), then FAULTED. On a stopped timer nothing
happens (log entry 1). -/
def feedExpiry (s : State) : Effect :=
  if s.pot.feeder.feedTimer.isSome then
    (setFeeder s { s.pot.feeder with feedTimer := none }, [.event (A 24), .feedFaulted])
  else (s, [])

/-- The feed is judged: it was not aborted and the level is known (R156). -/
def feedJudged (s : State) : Bool := !s.pot.feeder.aborted && s.pot.level.isSome

/-- The feed is ineffective (R156). -/
def feedIneffective (s : State) : Bool :=
  let f := s.pot.feeder
  decide ((s.pot.level.getD 0 - f.levelBefore.getD 0) * 2 < Int.tdiv (risePerGram s.tbs * f.delivered) 10)

/-- The consecutive-ineffective count after the judgment (R156). -/
def nextIneffective (s : State) : Nat :=
  if feedJudged s then (if feedIneffective s then satAdd 3 s.pot.feeder.ineffective 1 else 0) else s.pot.feeder.ineffective

/-- The settle timer expires: the judgment (R156). On a stopped timer nothing happens (log entry 1). -/
def settleOver (s : State) : Effect :=
  if s.pot.feeder.settleTimer.isSome then
    (setFeeder s { s.pot.feeder with settleTimer := none, ineffective := nextIneffective s },
     (if feedJudged s && feedIneffective s then [.event (A 23)] else []) ++ [.settleFinish])
  else (s, [])

/-- After the judgment: the debt, and the feeder to FAULTED or to IDLE (R156). -/
def settleFinish (s : State) : Effect :=
  let s := { s with pot := { s.pot with debt := max 0 (s.pot.debt - s.pot.feeder.delivered) } }
  if s.pot.feeder.ineffective = 3 then (s, [.event (A 24), .feedFaulted])
  else (setFeeder s { s.pot.feeder with state := .idle }, [.feedEvaluate])

/-- ACK_ALARM of A24 is replied OK (R157). -/
def feederRelease (s : State) : Effect :=
  potActs s <|
    if s.pot.feeder.state = .faulted then
      (setFeeder s { s.pot.feeder with state := .idle, ineffective := 0 }, [.feedEvaluate])
    else (s, [])

/-- The feeder at RESTART (R159). Its ABORT leaves the aborted flag as it was, which R159 does not name (DESIGN CHOICE, log entry
58). -/
def feederRestart (s : State) : Effect :=
  let f := s.pot.feeder
  match f.state with
  | .feeding =>
    (setFeeder (handOperation ⟨.abort, 0, f.number⟩ s) { f with state := .idle, feedTimer := none, settleTimer := none },
     [.feedEvaluate])
  | .settling => (setFeeder s { f with state := .idle, settleTimer := none }, [.feedEvaluate])
  | .idle | .faulted => (s, [])

/-- POT's own state at RESTART (R150, R159). What the other blocks hand POT at the same event can still move the pot state and the
pump records that it keeps (DESIGN CHOICE, log entries 70 and 71). -/
def potRestart (s : State) : State := { s with pot := { s.pot with waves := [] } }

/-- A commit of LINE that lowers the feed quantum brings the debt down (R149). -/
def clampDebt (s : State) : State := { s with pot := { s.pot with debt := min (debtLimit s.tbs) s.pot.debt } }

end Sys2Proof.Machine
end

