-- ==== Sys2Proof/Machine/Hld.lean ====
section
/-! DEFINITION. HLD, the Hold Controller (12): causes and episodes, stopping, the held line, and resume. -/

namespace Sys2Proof.Machine

/-- The line state takes holds (R185). -/
def lineTakesHolds (s : State) : Bool := s.mru.line == .run || s.mru.line == .draining

/-! ## Episodes (R185, R186, R187, R188) -/

/-- A board that a stopped wave spoils: its wave status is IN_CONTACT (R186, step 4; R189). -/
def caughtInWave (b : Board) : Bool := b.wave == .inContact

/-- A board after steps 4 and 5 of R186. -/
def capturedBoard (b : Board) : Board :=
  let b := if caughtInWave b then { b with defects := b.defects ||| defectBit .holdInWave, disposition := .rework } else b
  { b with holds := satAdd 255 b.holds 1 }

/-- The board line of a board at the capture (R186, steps 3, 4 and 6). -/
def boardLine (s : State) (b : Board) : BoardLine :=
  { board := b.number, leadOffset := boardOffset s.btk.position b, flux := b.flux, wave := b.wave,
    nozzleOpen := nozzleOpenFor s b.number, disposition := (capturedBoard b).disposition,
    forcedRework := caughtInWave b }

/-- The boards whose disposition the capture changes (R186, step 4). -/
def caughtBoards (s : State) : List BoardNo :=
  (s.btk.train.filter fun b => caughtInWave b && b.disposition == .goOn).map (·.number)

/-- A new episode (R186): steps 1 to 7 at once (log entry 15), then the blocks are told, first of the boards whose disposition
changed, in train order (DESIGN CHOICE, log entry 47). -/
def newEpisode (c : Cause) (s : State) : Effect :=
  let n := s.hld.episode + 1
  let record : HoldRecord :=
    { episode := n, primary := c, later := [], notListed := 0, entryPosition := s.btk.position, stopPosition := none,
      lock := .locked, lines := s.btk.train.map (boardLine s) }
  ({ s with
      hld := { s.hld with episode := n, record := some record, phase := .stopping, stillCount := 0, resumeTimer := none,
                          stopTimer := some (stopTimeout s.tbs) },
      btk := { s.btk with train := s.btk.train.map capturedBoard } },
   (caughtBoards s).map Task.dispositionTold ++ [.phaseTold])

/-- A cause joins the episode in progress (R188). -/
def joinRecord (c : Cause) (r : HoldRecord) : HoldRecord :=
  if r.later.length < 7 then { r with later := r.later ++ [c], lock := .locked }
  else { r with notListed := satAdd 255 r.notListed 1, lock := .locked }

/-- A hold cause reaches HLD (R185). -/
def holdCause (c : Cause) (s : State) : Effect :=
  if lineTakesHolds s then
    match s.hld.phase with
    | .none | .resuming => newEpisode c s
    | .stopping | .held => ({ s with hld := { s.hld with record := s.hld.record.map (joinRecord c) } }, [])
  else (s, [])

/-- BTK tells HLD of a change of a board's disposition (R187). -/
def holdLine (n : BoardNo) (s : State) : Effect :=
  match findBoard s.btk.train n with
  | none => (s, [])
  | some b =>
    ({ s with hld := { s.hld with record := s.hld.record.map fun r =>
        { r with lines := r.lines.map fun l => if l.board = n then { l with disposition := b.disposition } else l } } }, [])

/-! ## Phases (R195) -/

/-- HLD tells the blocks of a change of hold phase (R195); BTK also starts or stops its no-motion timer (R85), after admission
(DESIGN CHOICE, log entry 53). -/
def phaseTold (s : State) : Effect :=
  (s, [.conveyor, .admission, .noMotion, .flxForcing, .phmPhase, .pumpCommand .chip, .pumpCommand .laminar]
      ++ (if s.hld.phase = .none then [.drainingTest] else []))

/-! ## Stopping (R189, R190) -/

/-- The phase becomes HELD (R189): both timers stop, and a condition that a timer made true ends (R190). -/
def reachHeld (s : State) : Effect :=
  ({ s with hld := { s.hld with
      phase := .held, stopTimer := none, resumeTimer := none, faultCondition := false,
      record := s.hld.record.map fun r => { r with stopPosition := some s.btk.position } } },
   (if s.hld.faultCondition then [.a41Hld] else []) ++ [.heldBoards, .phaseTold])

/-- The check at HELD (R189): each board in contact is reworked. R189 gives no order: train order, after every flag is set (DESIGN
CHOICE, log entry 47). -/
def heldBoards (s : State) : Effect :=
  let boards := (s.btk.train.filter caughtInWave).map (·.number)
  ({ s with hld := { s.hld with record := s.hld.record.map fun r =>
      { r with lines := r.lines.map fun l => if boards.contains l.board then { l with forcedRework := true } else l } } },
   boards.map fun n => Task.defect n .holdInWave)

/-- The still count after a GOOD encoder sample (R189). -/
def nextStill (s : State) : Nat := if s.btk.v8 = some 0 then satAdd 4 s.hld.stillCount 1 else 0

/-- The v8 expected at the line speed (R67, R194). -/
def expectedSpeed (s : State) : Int := (s.mru.lineSpeed.getD 0 * 8 / 300 : Nat)

/-- The speed is within a tenth of the speed expected (R194). -/
def speedReached (s : State) : Bool :=
  match s.btk.v8 with
  | some v => decide (((v - expectedSpeed s).natAbs : Int) * 10 ≤ expectedSpeed s)
  | none => false

/-- The episode ends (R190, R194). -/
def endEpisode (s : State) : Effect :=
  ({ s with hld := { s.hld with phase := .none, stopTimer := none, resumeTimer := none, faultCondition := false } },
   (if s.hld.faultCondition then [.a41Hld] else []) ++ [.phaseTold])

/-- A GOOD encoder sample at HLD (R189, R194). -/
def hldEncoder (s : State) : Effect :=
  match s.hld.phase with
  | .stopping =>
    let n := nextStill s
    ({ s with hld := { s.hld with stillCount := n } }, if n = 4 then [.reachHeld] else [])
  | .resuming => if speedReached s then endEpisode s else (s, [])
  | .none | .held => (s, [])

/-- The stop timer expires (R190): HELD follows at once while v8 is absent. On a stopped timer nothing happens (log entry
1). -/
def stopExpiry (s : State) : Effect :=
  if s.hld.stopTimer.isSome && s.hld.phase == .stopping then
    ({ s with hld := { s.hld with stopTimer := none, faultCondition := true } },
     .a41Hld :: if s.btk.v8.isNone then [.reachHeld] else [])
  else (s, [])

/-- The resume timer expires (R190). On a stopped timer nothing happens (log entry 1). -/
def resumeExpiry (s : State) : Effect :=
  if s.hld.resumeTimer.isSome && s.hld.phase == .resuming then
    ({ s with hld := { s.hld with resumeTimer := none, faultCondition := true } }, [.a41Hld])
  else (s, [])

/-! ## Resume (R193) -/

/-- The board needs a wave (R193). -/
def needsWave (s : State) (b : Board) : Bool :=
  b.wave == .pending && (decide (0 < boardWaveSpeed s.tbs b .chip) || decide (0 < boardWaveSpeed s.tbs b .laminar))

/-- Some CONTINUE board of the train. -/
def anyContinue (s : State) (p : Board → Bool) : Bool := s.btk.train.any fun b => b.disposition == .goOn && p b

/-- The lowest-numbered alarm with the hold link that is ACTIVE or LATCHED (R34, R193). -/
def firstHoldAlarm (s : State) : Option AlarmIx := allAlarms.find? fun a => holdAlarmSet s a

/-- FLUX guards a board that is still to be sprayed (R193). -/
def fluxRefuses (s : State) : Bool :=
  groupActive s .flux && anyContinue s fun b => b.flux == .pending || b.flux == .spraying

/-- PREHEAT guards a board that has not passed zone 3 (R193). -/
def preheatRefuses (s : State) : Bool :=
  groupActive s .preheat && anyContinue s fun b =>
    decide (boardOffset s.btk.position b < zoneEnd s.tbs (Fin.ofNat 6 2))

/-- The refusal of a RESUME by R193, with bytes 9 and 10 of its reply; OK where no row refuses. A30 without a hold link does not
refuse it, although R167 names it (DESIGN CHOICE, log entry 67). -/
def resumeVerdict (s : State) : ReplyStatus × Nat × Nat :=
  if s.hld.phase ≠ .held then (.state, 0, 0)
  else if (s.hld.record.map (·.lock)) = some .locked then (.locked, 1, 0)
  else match firstHoldAlarm s with
    | some a => (.stillActive, 2, a.val)
    | none =>
      if fluxRefuses s then (.stillActive, 3, 0)
      else if preheatRefuses s then (.stillActive, 3, 1)
      else if groupActive s .wave && anyContinue s (needsWave s) then (.stillActive, 3, 3)
      else if s.pot.state != .ready && anyContinue s (needsWave s) then (.state, 4, 0)
      else (.ok, 0, 0)

/-- RESUME is taken (R193). -/
def resumed (s : State) : State :=
  { s with hld := { s.hld with phase := .resuming, resumeTimer := some (resumeTimeout s.tbs) } }

/-! ## RESTART (R196) -/

/-- HLD's own state at RESTART. -/
def hldRestart (s : State) : State :=
  { s with hld := { s.hld with phase := .none, record := none, stillCount := 0, stopTimer := none, resumeTimer := none } }

end Sys2Proof.Machine
end

