-- ==== Sys2Proof/Machine/Mru.lean ====
section
/-! DEFINITION. MRU, the Management Request Unit (03): the line state and the sources of requests. -/

namespace Sys2Proof.Machine

/-! ## The line state (03 3.2) -/

/-- MRU with the line state changed. -/
def setLine (s : State) (l : LineState) : State := { s with mru := { s.mru with line := l } }

/-- A change of the line state is told to BTK, FLX, PHM, POT, EXM and HLD (03 3.2): the conveyor and admission (R38, R72), the
forcing flag (R100), the pot (R136, R138, R141) and the fans (R162, R165). PHM and HLD take it without effect. The order is that
in which 3.2 lists the blocks (DESIGN CHOICE, log entry 53). -/
def lineTold (old : LineState) (s : State) : Effect :=
  (s, [.conveyor, .admission, .flxForcing]
      ++ (if old = .unconfigured then [.potLeavesUnconfigured] else [])
      ++ [.potLine]
      ++ (if old = .unconfigured then [.exmLeavesUnconfigured] else []))

/-- DRAINING becomes STANDBY when the train is empty and the hold phase is NONE (R35). -/
def drainingTest (s : State) : Effect :=
  if s.mru.line = .draining ∧ s.btk.train = [] ∧ s.hld.phase = .none then (setLine s .standby, [.lineTold .draining])
  else (s, [])

/-- The configured set holds all six tables (R34). -/
def allConfigured (c : ConfiguredSet) : Bool := c.channel && c.output && c.geometry && c.line && c.limits && c.tuning

/-- The commit that completes the configured set ends UNCONFIGURED (R34). -/
def configuredTest (s : State) : Effect :=
  if s.mru.line = .unconfigured ∧ allConfigured s.mru.configured = true then
    (setLine s .standby, [.lineTold .unconfigured])
  else (s, [])

/-! ## Sources (R31) -/

/-- Who sent a request (R31). -/
def sourceOf (s : State) (src : Byte) : Source :=
  if !s.mru.configured.line then .lineController
  else if src = controllerAddress s.tbs then .lineController
  else if src = panelAddress s.tbs ∧ panelAddress s.tbs ≠ 0 then .panel
  else .otherNode

/-- The source may send the request (R31): the panel may send READ, HOLD, ACK_ALARM and FORCE_CUTOFF. -/
def maySend (source : Source) (code : Word16) : Bool :=
  match source with
  | .lineController => true
  | .panel => code == 4 || code == 9 || code == 19 || code == 20
  | .otherNode => false

end Sys2Proof.Machine
end

