-- ==== Sys2Proof/Machine/Sig.lean ====
section
/-! DEFINITION. SIG, the Signal Table (02 2.1): the channel map, sample arrivals, staleness, and A2. -/

namespace Sys2Proof.Machine

/-! ## Readings (02 2.1) -/

/-- The signal's channel value is read as signed: the temperatures S1..S9. -/
def signedReading (i : SigIx) : Bool := decide (i.val < 9)

/-- The reading of a channel value. -/
def reading (i : SigIx) (v : Word16) : Int := if signedReading i then v.toInt else (v.toNat : Int)

/-- The valid values of a signal. -/
def validValue (i : SigIx) (x : Int) : Bool :=
  if i.val < 9 then decide (-500 ≤ x ∧ x ≤ 6000)
  else if i = S 11 ∨ i = S 12 ∨ i = S 23 then decide (0 ≤ x ∧ x ≤ 1)
  else if i = S 14 then decide (0 ≤ x ∧ x ≤ 1000)
  else decide (0 ≤ x ∧ x ≤ 65535)

/-- The status of a sample arrival (R16): code 0 GOOD, 1 OPEN, 2 and 3 RANGE. -/
def arrivalStatus (i : SigIx) (code : Nat) (v : Word16) : SampleStatus :=
  if code = 0 then (if validValue i (reading i v) then .good else .range)
  else if code = 1 then .openWire
  else .range

/-- The signal record after an arrival (R17). -/
def arrive (limit : Nat) (stamp : Word32) (status : SampleStatus) (x : Int) (r : SignalRecord) : SignalRecord :=
  { lastGood := if status = .good then some x else r.lastGood,
    status := some status,
    nonGood := if status = .good then 0 else satAdd 255 r.nonGood 1,
    freshness := .fresh,
    arrivalCycle := stamp,
    staleTimer := some limit }

/-! ## User blocks (02 2.1) -/

/-- The hand-over of an arrival to the signal's user blocks (R17). S7 and S8 go to TLE, for both pot loops (R106; L7
first, log entry 18), and to POT, in the order of the table of 2.1. -/
def arrivalTasks (i : SigIx) (status : SampleStatus) (x : Int) : List Task :=
  let n := i.val + 1
  if n ≤ 6 then [.loopArrival (L n) i status]
  else if n ≤ 8 then [.loopArrival (L 7) i status, .loopArrival (L 8) i status, .potTemperature]
  else if n = 9 then [.pyrometer status]
  else if n = 10 then [.encoder status]
  else if n = 11 then [.boardSensor false status]
  else if n = 12 then [.boardSensor true status]
  else if n = 13 then [.levelArrival status]
  else if n = 14 then [.fluxTank]
  else if n = 15 then [.pumpFeedback .chip status]
  else if n = 16 then [.pumpFeedback .laminar status]
  else if n ≤ 22 then [.ductSignal i]
  else [.flame (!(status == .good && x == 0))]

/-- The stale notification of a signal to its user blocks (R18, R19). Where one notification cuts both pot loops, L7 takes it first
(DESIGN CHOICE, log entry 18). That of S23 gives the flame condition true, also after a CHANNEL commit that leaves it NO_DATA
(DESIGN CHOICE, log entry 73). -/
def silentTasks (i : SigIx) : List Task :=
  let n := i.val + 1
  if n ≤ 6 then [.loopSilent (L n) i]
  else if n ≤ 8 then [.loopSilent (L 7) i, .loopSilent (L 8) i, .potTemperature]
  else if n = 9 then [.pyrometerSilent]
  else if n = 10 then [.encoderSilent]
  else if n = 11 then [.boardSensorSilent false]
  else if n = 12 then [.boardSensorSilent true]
  else if n = 13 then [.levelSilent]
  else if n = 14 then [.fluxTank]
  else if n = 15 then [.pumpFeedbackSilent .chip]
  else if n = 16 then [.pumpFeedbackSilent .laminar]
  else if n ≤ 22 then [.ductSignal i]
  else [.flame true]

/-! ## Sample arrival (R14, R15) -/

/-- The mapped entry that names a pair of node and channel (R14). No two mapped entries name the same pair (R50). -/
def mappedSignal (t : Tbs) (src : Byte) (channel : Nat) : Option SigIx :=
  allSignals.find? fun i =>
    channelMapped t i && channelNode t i == (src.toNat : Int) && channelChannel t i == (channel : Int)

/-- One channel position of a SAMPLE cell (R15): the record changes (R16, R17) and the user blocks are told. -/
def samplePosition (src : Byte) (channel code : Nat) (v : Word16) (s : State) : Effect :=
  match mappedSignal s.tbs src channel with
  | none => (s, [])
  | some i =>
    let status := arrivalStatus i code v
    let x := reading i v
    ({ s with sig := vset s.sig i (arrive (channelStaleLimit s.tbs i) s.lif.cycle status x s.sig[i]) },
     arrivalTasks i status x)

/-- The four positions of a SAMPLE cell (R15): position p carries channel 4 × sequence + p, with its status in two bits of
byte 5, the first in bits 7-6. A cell whose sequence is above 63 is ignored whole. -/
def sampleTasks (c : SampleCell) : List Task :=
  if 63 < c.sequence.toNat then []
  else
    let position (p : Nat) (v : Word16) : Task :=
      .samplePosition c.src (4 * c.sequence.toNat + p) (c.statuses.toNat / 4 ^ (3 - p) % 4) v
    [position 0 c.value0, position 1 c.value1, position 2 c.value2, position 3 c.value3]

/-! ## Staleness (R18, R20) -/

/-- The stale timer of a signal expires (R18). On a stopped timer nothing happens (log entry 1). -/
def staleExpiry (i : SigIx) (s : State) : Effect :=
  let r := s.sig[i]
  if r.staleTimer.isSome then
    ({ s with sig := vset s.sig i { r with freshness := .stale, staleTimer := none } }, silentTasks i)
  else (s, [])

/-- The condition of A2 (R20). -/
def signalStale (s : State) : Bool :=
  allSignals.any fun i => channelStaleAlarm s.tbs i && (s.sig[i]).freshness == .stale

/-- The condition of A2 at a cycle start (R20). -/
def giveSignalStale (s : State) : Effect := (s, [.condition (A 2) (signalStale s) true])

/-! ## The commit of CHANNEL (R19) -/

/-- The mapped pair of an entry, if it is mapped. -/
def mappedPair (t : Tbs) (i : SigIx) : Option (Int × Int) :=
  if channelMapped t i then some (channelNode t i, channelChannel t i) else none

/-- The commit resets the record and notifies the users: the mapped pair changed, or the entry is newly unmapped (R19). -/
def remapped (old new : Tbs) (i : SigIx) : Bool := (mappedPair old i).isSome && mappedPair new i != mappedPair old i

/-- The signal records and notices after a commit of CHANNEL (R19), notices in signal order (log entry 27). -/
def channelCommitted (old : Tbs) (s : State) : Effect :=
  ({ s with sig := Vector.ofFn fun i => if remapped old s.tbs i then SignalRecord.reset else s.sig[i] },
   (allSignals.filter (remapped old s.tbs)).flatMap silentTasks)

end Sys2Proof.Machine
end

