-- ==== Sys2Proof/Machine/Tle.lean ====
section
/-! DEFINITION. TLE, the Thermal Loop Engine (07): computations, cutoff, invalid and missing measurements, and conditions. -/

namespace Sys2Proof.Machine

/-! ## The loops (07) -/

/-- TLE with one loop record changed. -/
def setLoop (s : State) (l : LoopIx) (r : LoopRecord) : State :=
  { s with tle := { s.tle with loops := vset s.tle.loops l r } }

/-- The cutoff group of a loop. -/
def loopGroup (l : LoopIx) : Group := if l.val < 6 then .preheat else .potheat

/-- A loop's own thermocouple, and for a pot loop the substitute (R106). -/
def ownSensor (l : LoopIx) : SigIx := S (l.val + 1)
@[inherit_doc ownSensor] def otherSensor (l : LoopIx) : Option SigIx :=
  if l.val = 6 then some (S 8) else if l.val = 7 then some (S 7) else none

/-- The loop's ZONE_SENSOR_LOST and ZONE_OVERTEMP alarms. -/
def sensorLostAlarm (l : LoopIx) : AlarmIx := A (11 + l.val)
@[inherit_doc sensorLostAlarm] def overTempAlarm (l : LoopIx) : AlarmIx := A (3 + l.val)

/-- The target of the pot loops (R142). -/
def potTarget (s : State) : Int := if s.pot.state = .setback then setbackSetpoint s.tbs else potSetpoint s.tbs

/-- The target and the feedforward of a loop (R127, R128, R142). -/
def loopTarget (s : State) (l : LoopIx) : Int :=
  if h : l.val < 6 then zoneTargetNow s ⟨l.val, h⟩ else potTarget s
@[inherit_doc loopTarget] def loopFeedforward (s : State) (l : LoopIx) : Int :=
  if h : l.val < 6 then zoneFeedforwardNow s ⟨l.val, h⟩ else 0

/-! ## The stages (R107 to R111) -/

/-- Stage 1, the elapsed samples n (R107). -/
def elapsedSamples (stamp : Word32) (last : Option Word32) : Int :=
  match last with
  | none => 1
  | some c => clamp 0 8 (signedDiff stamp c)

/-- Stage 3, the effective setpoint: the ramp from S toward the target by at most `step` (R108). -/
def rampTo (setpoint target step : Int) : Int :=
  if (target - setpoint).natAbs ≤ step.toNat then target
  else if setpoint < target then setpoint + step
  else setpoint - step

/-- Stages 2 and 3 (R108). -/
def nextSetpoint (t : Tbs) (l : LoopIx) (old : Option Int) (target tm n : Int) : Int :=
  rampTo (old.getD (clamp 0 (maxSetpoint t l) tm)) (clamp 0 (maxSetpoint t l) target) (rampRate t l * n)

/-- Stage 4, the error (R109). -/
def loopError (setpoint tm : Int) : Int := clamp (-2000) 2000 (setpoint - tm)

/-- Stage 5, the proportional term (R109). -/
def proportional (kp e : Int) : Int := Int.tdiv (kp * e) 256

/-- Stages 6 and 7, the integrator (R110). -/
def nextIntegrator (ki uMax old p f e n : Int) : Int :=
  let candidate := clamp (-4096000) 4096000 (old + ki * e * n)
  let raw := p + Int.tdiv candidate 4096 + f
  if (uMax < raw ∧ 0 < e) ∨ (raw < 0 ∧ e < 0) then old else candidate

/-- Stages 8, 9 and 10, the output (R110, R111). -/
def nextOutput (slew uMax integrator p f uPrev : Int) : Int :=
  let u := clamp 0 uMax (p + Int.tdiv integrator 4096 + f)
  let u := clamp (uPrev - slew) (uPrev + slew) u
  if uMax < u then uMax else u

/-- The loop record after a computation, its output in `uPrev` (R107 to R112, R116, R118). -/
def computed (s : State) (l : LoopIx) (tm : Int) (stamp : Word32) : LoopRecord :=
  let t := s.tbs
  let r := s.tle.loops[l]
  let n := elapsedSamples stamp r.lastComputation
  let sp := nextSetpoint t l r.setpoint (loopTarget s l) tm n
  let e := loopError sp tm
  let p := proportional (gainKp t l) e
  let f := loopFeedforward s l
  let r := { r with lastComputation := some stamp, lastMeasurement := some tm, invalidCount := 0, setpoint := some sp,
                    sensorLost := false, overTemp := decide (overTempThreshold t l < tm) }
  if groupActive s (loopGroup l) then
    { r with uPrev := clamp 0 (outputMax t l) (cutoffLevel s (heaterOutput l)) }
  else
    let a := nextIntegrator (gainKi t l) (outputMax t l) r.integrator p f e n
    { r with integrator := a, uPrev := nextOutput (slewRate t l) (outputMax t l) a p f r.uPrev }

/-- A computation at the arrival of a signal (R105 to R112): stage 11 issues the output. -/
def computeLoop (l : LoopIx) (i : SigIx) (s : State) : Effect :=
  let r := computed s l (lastGood s i) (s.sig[i]).arrivalCycle
  (setLoop s l r, [.setAutomatic (heaterOutput l) r.uPrev.toNat, .tleConditions l])

/-- A computation on the other thermocouple, at the arrival of a loop's own (R106): the stamp is that of the sample that
starts the computation (R107). -/
def computeSubstitute (l : LoopIx) (arrived value : SigIx) (s : State) : Effect :=
  let r := computed s l (lastGood s value) (s.sig[arrived]).arrivalCycle
  (setLoop s l r, [.setAutomatic (heaterOutput l) r.uPrev.toNat, .tleConditions l])

/-! ## Invalid and missing measurements (R114, R115) -/

/-- The heater is cut and the measurement is lost (R114, R115). -/
def cutLoop (r : LoopRecord) : LoopRecord := { r with uPrev := 0, sensorLost := true }

/-- An invalid arrival (R114). -/
def invalidArrival (l : LoopIx) (s : State) : Effect :=
  let r := s.tle.loops[l]
  let r := { r with invalidCount := satAdd 255 r.invalidCount 1 }
  if invalidHold s.tbs l < r.invalidCount then
    (setLoop s l (cutLoop r), [.setAutomatic (heaterOutput l) 0, .tleConditions l])
  else (setLoop s l r, [.tleConditions l])

/-- A stale cut (R115). The rules do not order the two: the heater is cut before the condition goes to ACU (DESIGN CHOICE, log entry
56). -/
def staleCut (l : LoopIx) (s : State) : Effect :=
  (setLoop s l (cutLoop s.tle.loops[l]), [.setAutomatic (heaterOutput l) 0, .tleConditions l])

/-! ## Events (R105, R106) -/

/-- A signal is FRESH. -/
def isFresh (s : State) (i : SigIx) : Bool := (s.sig[i]).freshness == .fresh

/-- An arrival of a loop's own thermocouple (R105, R106). -/
def ownArrival (l : LoopIx) (i : SigIx) (status : SampleStatus) (s : State) : Effect :=
  if status = .good then computeLoop l i s
  else
    match otherSensor l with
    | some o => if usable s o then computeSubstitute l i o s else invalidArrival l s
    | none => invalidArrival l s

/-- An arrival of the other thermocouple of a pot loop (R106). -/
def otherArrival (l : LoopIx) (i : SigIx) (status : SampleStatus) (s : State) : Effect :=
  if isFresh s (ownSensor l) then (s, [])
  else if status = .good then computeLoop l i s
  else invalidArrival l s

/-- An arrival of a thermocouple at a loop (R105, R106); nothing while the line state is UNCONFIGURED. -/
def loopArrival (l : LoopIx) (i : SigIx) (status : SampleStatus) (s : State) : Effect :=
  if s.mru.line = .unconfigured then (s, [])
  else if i = ownSensor l then ownArrival l i status s
  else if otherSensor l = some i then otherArrival l i status s
  else (s, [])

/-- A stale notification of a thermocouple at a loop (R105, R106, R115). -/
def loopSilent (l : LoopIx) (i : SigIx) (s : State) : Effect :=
  if s.mru.line = .unconfigured then (s, [])
  else if i = ownSensor l then
    match otherSensor l with
    | some o => if usable s o then (s, []) else staleCut l s
    | none => staleCut l s
  else if otherSensor l = some i then
    if isFresh s (ownSensor l) then (s, []) else staleCut l s
  else (s, [])

/-! ## Conditions (R117, R118) -/

/-- Both conditions of a loop, given to ACU at an evaluation (R117, R118; their order is log entry 19). -/
def tleConditions (l : LoopIx) (s : State) : Effect :=
  let r := s.tle.loops[l]
  (s, [.condition (sensorLostAlarm l) r.sensorLost true, .condition (overTempAlarm l) r.overTemp true])

/-! ## Cutoff groups (R113) -/

/-- The loops of a group. -/
def groupLoops (g : Group) : List LoopIx := allLoops.filter fun l => loopGroup l == g

/-- ACU tells TLE of a change of PREHEAT or POTHEAT (R113): at an activation each loop takes its cutoff level. R113 names no line
state, and the model acts in all of them: a group activated in UNCONFIGURED gives a SAFE heater its level, although the table of
03 3.2 and the note to R105 have the automatic heater commands at 0 there (DESIGN CHOICE, log entry 44). -/
def tleGroup (g : Group) (s : State) : Effect :=
  if groupActive s g then
    ((groupLoops g).foldl (fun s l =>
        setLoop s l { s.tle.loops[l] with uPrev := (cutoffLevel s (heaterOutput l) : Int) }) s,
     (groupLoops g).map fun l => Task.setAutomatic (heaterOutput l) (cutoffLevel s (heaterOutput l)))
  else (s, [])

/-! ## LIMITS and RESTART (R120, R123) -/

/-- A commit of LIMITS brings down a setpoint above its new maximum (R120). -/
def limitSetpoints (s : State) : State :=
  { s with tle := { s.tle with loops := Vector.ofFn fun l =>
      let r := s.tle.loops[l]
      { r with setpoint := r.setpoint.map fun x => min x (maxSetpoint s.tbs l) } } }

/-- The sensor-lost condition that RESTART sets (R123). -/
def restartSensorLost (s : State) (l : LoopIx) : Bool :=
  match otherSensor l with
  | none => (s.sig[ownSensor l]).freshness == .stale
  | some o => !usable s (ownSensor l) && !usable s o

/-- TLE's own state at RESTART (R123). -/
def tleReset (s : State) : State :=
  { s with tle := { s.tle with loops := Vector.ofFn fun l =>
      { LoopRecord.reset with sensorLost := restartSensorLost s l, overTemp := (s.tle.loops[l]).overTemp } } }

/-- The sensor-lost conditions given to ACU at RESTART, after R184, at no evaluation (R123). R123 gives no order: L1 to L8 (DESIGN
CHOICE, log entry 48). -/
def tleRestart (s : State) : Effect :=
  (s, allLoops.map fun l => Task.condition (sensorLostAlarm l) (s.tle.loops[l]).sensorLost false)

end Sys2Proof.Machine
end

