-- ==== Sys2Proof/Machine/Cascade.lean ====
section
/-! DEFINITION. One event of the part as a cascade of hand-overs (log entry 5): each hand-over goes to its block, and those it
makes are taken before the ones that were waiting. -/

namespace Sys2Proof.Machine

/-- Hand one hand-over to its block. -/
def handle (t : Task) (s : State) : Effect :=
  match t with
  | .closeLostCycle => closeLostCycle s
  | .beginCycle => beginCycle s
  | .blockComplete => blockComplete s
  | .giveLoopLost => giveLoopLost s
  | .giveSignalStale => giveSignalStale s
  | .staleDucts => staleDucts s
  | .refresh => refresh s
  | .loopDown => encoderGap s
  | .samplePosition src channel code value => samplePosition src channel code value s
  | .setAutomatic o v => setAutomatic o v s
  | .formDelivered o => formDelivered o s
  | .handDelivered o => handDelivered o s
  | .directClose n => directClose n s
  | .condition a value evaluation => takeCondition a value evaluation s
  | .a41Btk evaluation => takeA41Btk evaluation s
  | .a41Hld => takeA41Hld s
  | .event a => takeEvent a s
  | .activate g cause => activateGroup g cause s
  | .deactivate g => deactivateGroup g s
  | .restartAlarms => restartAlarms s
  | .restartGroup g => restartGroup g s
  | .encoder status => encoder status s
  | .encoderSilent => encoderGap s
  | .boardSensor exit status => boardSensor exit status s
  | .boardSensorSilent exit => boardSensorSilent exit s
  | .entryLead captured => entryLead captured s
  | .entryTail captured => entryTail captured s
  | .exitLead captured => exitLead captured s
  | .exitTail => exitTail s
  | .missingTest => missingTest s
  | .retire lost => retire lost s
  | .entryBlocked evaluation => entryBlocked evaluation s
  | .admission => admission s
  | .conveyor => conveyor s
  | .noMotion => noMotion s
  | .defect n d => writeDefect n d s
  | .disposition n d => writeDisposition n d s
  | .dispositionTold n => dispositionTold n s
  | .flxNewRecord n => flxNewRecord n s
  | .flxLength n => flxLength n s
  | .flxRework n => flxRework n s
  | .flxRemoved n => flxRemoved n s
  | .flxForcing => flxForcing s
  | .flxSample => flxSample s
  | .flxAccount => flxAccount s
  | .flxRunEnds => flxRunEnds s
  | .flxRunEnd n => flxRunEnd n s
  | .flxEndingCloses => flxEndingCloses s
  | .flxTakeEdges => flxTakeEdges s
  | .flxConsume => flxConsume s
  | .fluxTank => fluxTank s
  | .loopArrival l i status => loopArrival l i status s
  | .loopSilent l i => loopSilent l i s
  | .tleGroup g => tleGroup g s
  | .tleConditions l => tleConditions l s
  | .tleRestart => tleRestart s
  | .phmNewRecord n => phmNewRecord n s
  | .phmRemoved n => phmRemoved n s
  | .phmDecide => phmDecide s
  | .phmArm => phmArm s
  | .phmPhase => phmPhase s
  | .pyrometer status => pyrometer status s
  | .pyrometerSilent => armedUnknown s
  | .potTemperature => potTemperature s
  | .potEvaluate why => potEvaluate why s
  | .potChanged old => potChanged old s
  | .potAlarm set => potAlarm set s
  | .potGroup g => potGroup g s
  | .potLine => potLine s
  | .potLeavesUnconfigured => potLeavesUnconfigured s
  | .setbackTimer => setbackTimer s
  | .potNewRecord n => potNewRecord n s
  | .potRemoved n => potRemoved n s
  | .potRecord => potRecord s
  | .potSample => potSample s
  | .potGoverning => potGoverning s
  | .potWindows => potWindows s
  | .potContact => potContact s
  | .potStatuses atSample => potStatuses atSample s
  | .pumpCommand w => pumpCommand w s
  | .releasePumps => releasePumps s
  | .potNotReadyTest => potNotReadyTest s
  | .pumpDelivered w => pumpDelivered w s
  | .pumpFeedback w status => pumpFeedback w status s
  | .pumpFeedbackSilent w => pumpFeedbackSilent w s
  | .pumpFault w evaluation => pumpFault w evaluation s
  | .levelArrival status => levelArrival status s
  | .levelSilent => levelSilent s
  | .levelConditions evaluation => levelConditions evaluation s
  | .feedEvaluate => feedEvaluate s
  | .feedFaulted => feedFaulted s
  | .settleOver => settleOver s
  | .settleFinish => settleFinish s
  | .feederRelease => feederRelease s
  | .feederRestart => feederRestart s
  | .duct1Demand => duct1Demand s
  | .fanCommands => fanCommands s
  | .fanCommand d => fanCommand d s
  | .pumpReported w => pumpReported w s
  | .fanReported d => fanReported d s
  | .fanGraceOver d => fanGraceOver d s
  | .ductConditions d => ductConditions d s
  | .ductSignal i => ductSignal i s
  | .flame seen => flame seen s
  | .exmLeavesUnconfigured => exmLeavesUnconfigured s
  | .holdCause c => holdCause c s
  | .phaseTold => phaseTold s
  | .hldEncoder => hldEncoder s
  | .reachHeld => reachHeld s
  | .heldBoards => heldBoards s
  | .holdLine n => holdLine n s
  | .lineTold old => lineTold old s
  | .drainingTest => drainingTest s
  | .configuredTest => configuredTest s

/-- Take waiting hand-overs, depth first, for at most `fuel` of them; an event that does not end within it is given up and
marked (log entry 5). -/
def settle : Nat → List Task → State → State
  | _, [], s => s
  | 0, _ :: _, s => { s with overrun := true }
  | fuel + 1, t :: ts, s =>
    let e := handle t s
    settle fuel (e.2 ++ ts) e.1

/-- Carry out an event that begins with these hand-overs. -/
def run (s : State) (tasks : List Task) : State := settle Config.cascadeBudget tasks s

/-- Carry out an event that begins with an effect. -/
def runEffect (e : Effect) : State := run e.1 e.2

end Sys2Proof.Machine
end

