-- ==== Sys2Proof/Machine/Serve.lean ====
section
/-! DEFINITION. A REQUEST from its arrival to its reply (01 R4, R11; 03 R30, R31), and what every request shares. -/

namespace Sys2Proof.Machine

/-- What a request comes to: the reply status, the state its own effect leaves, the hand-overs it makes, and the reply data as
they stand once those are taken (R30). -/
structure Decision where
  status : ReplyStatus
  state : State
  tasks : List Task
  data : State → List Byte

/-- A refusal: no state changes, and the data are 0 (R30). -/
def refuse (status : ReplyStatus) (s : State) : Decision := { status := status, state := s, tasks := [], data := fun _ => noData }

/-- A request taken with no effect. -/
def taken (data : State → List Byte) (s : State) : Decision := { status := .ok, state := s, tasks := [], data := data }

/-- Byte 5 of the line requests: the line state after execution (R30). -/
def lineByte (s : State) : Nat × Nat := (5, lineStateCode s.mru.line)

/-- Reply data of a line request without other data (R30). -/
def lineData (s : State) : List Byte := replyData [lineByte s]

/-- A two-byte number in two bytes of the reply data. -/
def wordAt (i n : Nat) : List (Nat × Nat) := [(i, n / 256 % 256), (i + 1, n % 256)]

/-- The tests of R30 on the code and the source; then the request's own rule decides. -/
def decideRequest (code : Word16) (r : ReqCell) (decide' : ReqCell → State → Decision) (s : State) : Decision :=
  if code = 0 ∨ 23 < code.toNat then refuse .unknownRequest s
  else if maySend (sourceOf s r.src) code then decide' r s
  else refuse .notPermitted s

/-- MRU executes a request, and its reply joins the message queue (R11, R30). -/
def answer (r : ReqCell) (d : Decision) : State :=
  let s := run d.state d.tasks
  pushReply r.src r.tag d.status (d.data s) s

/-- A REQUEST cell at the loop input: the tests of R4, the room of R11, and MRU's decision. -/
def serve (code : Word16) (r : ReqCell) (decide' : ReqCell → State → Decision) (s : State) : State :=
  let v := verdict s.lif.openCycle (requestRaw code r)
  if v = .toMru then
    if messageRoom ≤ s.lif.messageQueue.length then countDropped s
    else answer r (decideRequest code r decide' s)
  else countDiscard v s

end Sys2Proof.Machine
end

