-- ==== Sys2Proof/Machine/AlarmRequests.lean ====
section
/-! DEFINITION. The requests that ACU and POT own: ACK_ALARM, FORCE_CUTOFF, CLEAR_CUTOFF (11), FEED_NOW and SETBACK (09). -/

namespace Sys2Proof.Machine

/-- The reply data of ACK_ALARM (R176). -/
def ackData (a : AlarmIx) (s : State) : List Byte := replyData [(6, a.val), (7, alarmStateCode (s.acu.alarms[a]).state)]

/-- ACU tells POT of every OK reply for A24 (R157, R176). -/
def ackTasks (a : AlarmIx) : List Task := if a = A 24 then [.feederRelease] else []

/-- ACK_ALARM (R176). R176 does not order the actions of R175 and the hand-over of A24 to POT: the actions first (DESIGN CHOICE, log
entry 59). -/
def decideAckAlarm (r : ReqCell) (s : State) : Decision :=
  let n := reqByte r 6
  let a := A n
  if 43 ≤ n then refuse .badIndex s
  else
    match (s.acu.alarms[a]).state with
    | .latched =>
      let e := acknowledged a s
      { status := .ok, state := e.1, tasks := e.2 ++ ackTasks a, data := ackData a }
    | .clear => { status := .ok, state := s, tasks := ackTasks a, data := ackData a }
    | .pending | .active => refuse .stillActive s

/-- The reply data of the cutoff requests: the group and its state after execution (R180, R181). -/
def groupData (g : Group) (s : State) : List Byte := replyData [(6, (groupIx g).val), (7, (groupActive s g).toNat)]

/-- FORCE_CUTOFF (R180). -/
def decideForceCutoff (r : ReqCell) (s : State) : Decision :=
  match groupOfCode (reqByte r 6) with
  | none => refuse .badIndex s
  | some g =>
    { status := .ok, state := setManualFlag g s, tasks := [.activate g (.request r.src)], data := groupData g }

/-- CLEAR_CUTOFF of FLUX or WAVE over boards in motion (R181, third row). -/
def clearBusy (s : State) (g : Group) : Bool :=
  (g == .flux || g == .wave) && !s.btk.train.isEmpty && s.hld.phase != .held

/-- CLEAR_CUTOFF (R181). -/
def decideClearCutoff (r : ReqCell) (s : State) : Decision :=
  match groupOfCode (reqByte r 6) with
  | none => refuse .badIndex s
  | some g =>
    if !groupActive s g then taken (groupData g) s
    else if linkedAlarmPresent s g then refuse .stillActive s
    else if clearBusy s g then refuse .busy s
    else { status := .ok, state := s, tasks := [.deactivate g], data := groupData g }

/-- FEED_NOW (R153, R43). -/
def decideFeedNow (_ : ReqCell) (s : State) : Decision :=
  if s.mru.line = .unconfigured then refuse .state s
  else if mayFeed s then
    { status := .ok, state := startFeed s, tasks := [], data := fun t => replyData [(6, t.pot.feeder.number.toNat)] }
  else refuse .state s

/-- The reply data of SETBACK: the pot state after execution (R141). -/
def potData (s : State) : List Byte := replyData [(6, potStateCode s.pot.state)]

/-- SETBACK on (R141). -/
def setbackOn (s : State) : Decision :=
  match s.pot.state with
  | .molten | .ready => { status := .ok, state := s, tasks := [.potEvaluate .setbackOn], data := potData }
  | .setback => taken potData s
  | .cold | .melting | .fault => refuse .state s

/-- SETBACK off (R141). -/
def setbackOff (s : State) : Decision :=
  if s.pot.state = .setback then { status := .ok, state := s, tasks := [.potEvaluate .leaveSetback], data := potData }
  else taken potData s

/-- SETBACK (R141, R43). -/
def decideSetback (r : ReqCell) (s : State) : Decision :=
  if s.mru.line = .unconfigured then refuse .state s
  else if reqByte r 6 = 0 then setbackOff s
  else if reqByte r 6 = 1 then setbackOn s
  else refuse .badValue s

end Sys2Proof.Machine
end

