-- ==== Sys2Proof/Machine/HoldRequests.lean ====
section
/-! DEFINITION. The hold requests (12): HOLD, ACK_HOLD, SET_DISPOSITION and RESUME, taken in RUN and DRAINING (R42). -/

namespace Sys2Proof.Machine

/-- Bytes 5 to 8 of the hold requests: line state, hold phase and episode number. -/
def holdBytes (s : State) : List (Nat × Nat) :=
  [lineByte s, (6, holdPhaseCode s.hld.phase)] ++ wordAt 7 s.hld.episode.toNat

/-- MRU refuses a hold request outside RUN and DRAINING (R42). -/
def inHoldLines (s : State) (d : Decision) : Decision := if lineTakesHolds s then d else refuse .state s

/-- A hold cause begins a new episode in this phase (R185). -/
def beginsEpisode : HoldPhase → Bool
  | .none | .resuming => true
  | .stopping | .held => false

/-- HOLD (R42, R185): byte 9 is 0 when it began a new episode and 1 when it joined one. -/
def decideHold (r : ReqCell) (s : State) : Decision :=
  inHoldLines s
    { status := .ok, state := s, tasks := [.holdCause (.request r.src)],
      data := fun t => replyData (holdBytes t ++ [(9, if beginsEpisode s.hld.phase then 0 else 1)]) }

/-- ACK_HOLD (R191). -/
def decideAckHold (_ : ReqCell) (s : State) : Decision :=
  inHoldLines s <|
    match s.hld.record with
    | none => refuse .state s
    | some x =>
      { status := .ok, state := { s with hld := { s.hld with record := some { x with lock := .acknowledged } } }, tasks := [],
        data := fun t => replyData (holdBytes t ++ [(9, lockStateCode .acknowledged)]) }

/-- The line of a board in the hold record. -/
def lineOf (s : State) (n : BoardNo) : Option BoardLine :=
  s.hld.record.bind fun r => r.lines.find? fun l => l.board == n

/-- The reply data of SET_DISPOSITION (R192): the board's disposition after execution. -/
def dispositionData (n : BoardNo) (s : State) : List Byte :=
  replyData ([lineByte s, (6, holdPhaseCode s.hld.phase)] ++ wordAt 7 n.toNat
    ++ [(9, ((findBoard s.btk.train n).map fun b => dispositionCode b.disposition).getD 0)])

/-- SET_DISPOSITION of a board that has a line and a record (R192, last four rows). -/
def setDispositionOf (n : BoardNo) (code : Nat) (l : BoardLine) (b : Board) (s : State) : Decision :=
  if code = 1 then
    { status := .ok, state := s, tasks := [.disposition n .rework], data := dispositionData n }
  else if code ≠ 0 then refuse .badValue s
  else if l.forcedRework ∨ b.defects ≠ 0 then refuse .badValue s
  else { status := .ok, state := s, tasks := [.disposition n .goOn], data := dispositionData n }

/-- SET_DISPOSITION (R192, R42). -/
def decideSetDisposition (r : ReqCell) (s : State) : Decision :=
  let n : BoardNo := BitVec.ofNat 16 (reqWord r 6)
  inHoldLines s <|
    if s.hld.phase ≠ .held then refuse .state s
    else
      match lineOf s n, findBoard s.btk.train n with
      | some l, some b => setDispositionOf n (reqByte r 8) l b s
      | _, _ => refuse .badIndex s

/-- RESUME (R193): a refusal by HLD carries data too. -/
def decideResume (_ : ReqCell) (s : State) : Decision :=
  inHoldLines s <|
    let (status, b9, b10) := resumeVerdict s
    let data (t : State) : List Byte := replyData (holdBytes t ++ [(9, b9), (10, b10)])
    if status = .ok then { status := .ok, state := resumed s, tasks := [.phaseTold], data := data }
    else { status := status, state := s, tasks := [], data := data }

end Sys2Proof.Machine
end

