-- ==== Sys2Proof/Machine/LineRequests.lean ====
section
/-! DEFINITION. The line requests (03): START, STOP, SELECT_NEXT, SET_SPEED, ENTER_MAINTENANCE, LEAVE_MAINTENANCE, SET_OUTPUT
and RESTART. -/

namespace Sys2Proof.Machine

/-- A change of the line state, with what it is told to. -/
def moveLine (l : LineState) (after : List Task) (s : State) : Decision :=
  { status := .ok, state := setLine s l, tasks := .lineTold s.mru.line :: after, data := lineData }

/-- START (R34): the alarms with a hold link are tested, and no others, although R167 says that A30 and A31 LATCHED must be
acknowledged first (DESIGN CHOICE, log entry 67). -/
def decideStart (_ : ReqCell) (s : State) : Decision :=
  match s.mru.line with
  | .standby => if (firstHoldAlarm s).isSome then refuse .stillActive s else moveLine .run [] s
  | .run => taken lineData s
  | .unconfigured | .draining | .maintenance => refuse .state s

/-- STOP (R35). -/
def decideStop (_ : ReqCell) (s : State) : Decision :=
  match s.mru.line with
  | .run => moveLine .draining [.drainingTest] s
  | .draining => taken lineData s
  | .unconfigured | .standby | .maintenance => refuse .state s

/-- SELECT_NEXT (R40). -/
def decideSelectNext (r : ReqCell) (s : State) : Decision :=
  let n := reqByte r 6
  let i : SlotIx := Fin.ofNat 16 n
  if 16 ≤ n then refuse .badIndex s
  else if !(admitBank s.tbs.slots[i]).filled then refuse .emptySlot s
  else
    { status := .ok, state := { s with mru := { s.mru with nextSlot := i } }, tasks := [.admission],
      data := fun s => replyData [lineByte s, (6, n), (7, bankCode (s.tbs.slots[i]).pointer)] }

/-- A speed brought to the nearer bound (R37). -/
def clampSpeed (v : Nat) : Nat := max 300 (min 2500 v)

/-- SET_SPEED (R37). -/
def decideSetSpeed (r : ReqCell) (s : State) : Decision :=
  let v := clampSpeed (reqWord r 6)
  if s.mru.line = .unconfigured then refuse .state s
  else
    { status := if v = reqWord r 6 then .ok else .clamped,
      state := { s with mru := { s.mru with lineSpeed := some v } },
      tasks := [.conveyor],
      data := fun s => replyData (lineByte s :: wordAt 6 (s.mru.lineSpeed.getD 0)) }

/-- ENTER_MAINTENANCE (R36). -/
def decideEnterMaintenance (_ : ReqCell) (s : State) : Decision :=
  match s.mru.line with
  | .standby => if s.btk.train = [] then moveLine .maintenance [] s else refuse .busy s
  | .maintenance => taken lineData s
  | .unconfigured | .run | .draining => refuse .state s

/-- LEAVE_MAINTENANCE (R36): every manual command is released, and OUT forms each delivered command afresh. R36 gives no order:
O1 to O23, and before the blocks are told of the line state (DESIGN CHOICE, log entries 40 and 46). -/
def decideLeaveMaintenance (_ : ReqCell) (s : State) : Decision :=
  match s.mru.line with
  | .maintenance =>
    { status := .ok, state := setLine (releaseManual s) .standby,
      tasks := allOutputs.map Task.formDelivered ++ [.lineTold .maintenance], data := lineData }
  | .standby => taken lineData s
  | .unconfigured | .run | .draining => refuse .state s

/-- The manual command of an output set or released (R39). -/
def setManual (o : OutIx) (v : Option Nat) (s : State) : State :=
  setOutputRecord s o { outputRecord s o with manual := v }

/-- SET_OUTPUT of an output that takes a manual command (R39). -/
def setOutputValue (o : OutIx) (r : ReqCell) (s : State) : Decision :=
  let v := min (reqWord r 8) (outputLimit s.tbs o)
  if reqByte r 7 = 0 then
    { status := .ok, state := setManual o none s, tasks := [.formDelivered o], data := lineData }
  else if reqByte r 7 ≠ 1 then refuse .badValue s
  else if (o = O 17 ∨ o = O 18) ∧ 0 < reqWord r 8 ∧ s.pot.state ≠ .ready then refuse .state s
  else
    { status := if v = reqWord r 8 then .ok else .clamped, state := setManual o (some v) s, tasks := [.formDelivered o],
      data := lineData }

/-- SET_OUTPUT (R39). -/
def decideSetOutput (r : ReqCell) (s : State) : Decision :=
  let n := reqByte r 6
  if s.mru.line ≠ .maintenance then refuse .state s
  else if n < 1 ∨ 23 < n ∨ n = 20 ∨ n = 21 then refuse .badIndex s
  else setOutputValue (O n) r s

/-! ## RESTART (R41) -/

/-- RESTART is taken in STANDBY and MAINTENANCE, and in RUN and DRAINING while the phase is HELD (R41). -/
def restartTaken (s : State) : Bool :=
  match s.mru.line with
  | .standby | .maintenance => true
  | .run | .draining => s.hld.phase == .held
  | .unconfigured => false

/-- Every block's own state at RESTART (R41): HLD R196, BTK R87, FLX R104, PHM R135, POT R159, TLE R123, OUT R29, MRU R45. -/
def restarted (s : State) : State :=
  setLine (releaseManual (tleReset (potRestart (phmRestart (flxRestart (btkRestart (hldRestart s))))))) .standby

/-- What follows from RESTART in the other blocks, at the same event, in the order of log entry 17. The change of the line state
is told to POT (R138, R141) where there is one: a RESTART in STANDBY keeps the pot state (R159), and only the setback timer is
evaluated. The direct closings of R99 withdraw every TIMED_COMMAND of the valves, although R13 has RESTART keep LIF's four cell
stores (DESIGN CHOICE, log entry 45). The emptied train changes the newest record, so A40's condition is given as R76 says (DESIGN
CHOICE, log entry 54). -/
def restartTasks (line : LineState) : List Task :=
  [.conveyor, .admission, .noMotion, .entryBlocked false]
  ++ allNozzles.map Task.directClose
  ++ [.flxForcing]
  ++ allLoops.map (fun l => Task.setAutomatic (heaterOutput l) 0)
  ++ [.phmDecide, .feederRestart, if line = .standby then .setbackTimer else .potLine, .potGoverning, .duct1Demand]
  ++ allOutputs.map Task.formDelivered
  ++ [.restartAlarms]
  ++ allGroups.map Task.restartGroup
  ++ [.tleRestart]

/-- RESTART (R41). -/
def decideRestart (_ : ReqCell) (s : State) : Decision :=
  if restartTaken s then { status := .ok, state := restarted s, tasks := restartTasks s.mru.line, data := lineData }
  else refuse .state s

end Sys2Proof.Machine
end

