-- ==== Sys2Proof/Machine/Tables.lean ====
section
/-! DEFINITION. The tables as table requests name them (04): fields with their items, codes and ranges, staging buffers, and the
structural checks and clamps of a commit. -/

namespace Sys2Proof.Machine

/-! ## Fields (R54 to R59, R177) -/

/-- How a field takes its value (R46): a code refused outside its codes at STAGE, a number brought into range at COMMIT, or a
field that is read only. -/
inductive FieldKind where
  | code | number | readOnly
  deriving DecidableEq, Repr

/-- A field of a table: its number, its items, and its codes or range. -/
structure FieldSpec where
  field : Nat
  firstItem : Nat
  lastItem : Nat
  kind : FieldKind
  lo : Int
  hi : Int
  deriving DecidableEq, Repr

/-- CHANNEL (R54). -/
def channelFields : List FieldSpec :=
  [⟨1, 1, 23, .code, 0, 1⟩, ⟨2, 1, 23, .code, 0, 62⟩, ⟨3, 1, 23, .code, 0, 255⟩, ⟨4, 1, 23, .number, 10, 5000⟩,
   ⟨5, 1, 23, .code, 0, 1⟩]

/-- OUTPUT (R54); the output limit has the maximum of R22 for its outputs, and the safe value's bound is the output limit. -/
def outputFields : List FieldSpec :=
  [⟨1, 1, 23, .code, 0, 62⟩, ⟨2, 1, 23, .code, 0, 255⟩,
   ⟨3, 1, 16, .number, 0, 1000⟩, ⟨3, 17, 18, .number, 0, 6000⟩, ⟨3, 19, 19, .number, 0, 2500⟩, ⟨3, 20, 20, .number, 0, 1⟩,
   ⟨3, 21, 21, .number, 0, 10000⟩, ⟨3, 22, 23, .number, 0, 1000⟩,
   ⟨4, 1, 23, .code, 0, 2⟩, ⟨5, 1, 23, .number, 0, 10000⟩, ⟨6, 1, 23, .number, 1, 65535⟩]

/-- GEOMETRY (R55). -/
def geometryFields : List FieldSpec :=
  [⟨1, 0, 0, .number, 0, 2000000⟩, ⟨2, 1, 6, .number, 0, 2000000⟩, ⟨3, 1, 6, .number, 0, 2000000⟩,
   ⟨4, 1, 6, .number, 0, 2000000⟩, ⟨5, 0, 0, .number, 0, 2000000⟩, ⟨6, 1, 2, .number, 0, 2000000⟩,
   ⟨7, 1, 2, .number, 0, 200000⟩, ⟨8, 1, 2, .number, 0, 200000⟩, ⟨9, 1, 2, .number, 0, 200000⟩,
   ⟨10, 0, 0, .number, 0, 2000000⟩, ⟨11, 0, 0, .number, 1, 100000⟩, ⟨12, 0, 0, .number, 0, 100000⟩,
   ⟨13, 1, 2, .number, 1, 8⟩, ⟨14, 0, 0, .number, 0, 65535⟩]

/-- LINE (R56); the addresses are numbers for clamping. -/
def lineFields : List FieldSpec :=
  [⟨1, 0, 0, .number, 300, 2500⟩, ⟨2, 0, 0, .number, 0, 63⟩, ⟨3, 0, 0, .number, 0, 63⟩, ⟨4, 0, 0, .number, 0, 6000⟩,
   ⟨5, 0, 0, .number, 0, 3600000⟩, ⟨6, 0, 0, .number, 0, 6000⟩, ⟨7, 0, 0, .number, 1, 500⟩, ⟨8, 0, 0, .number, 0, 6000⟩,
   ⟨9, 0, 0, .number, 0, 86400000⟩, ⟨10, 1, 2, .number, 0, 6000⟩, ⟨11, 1, 2, .number, 0, 1000⟩,
   ⟨12, 1, 2, .number, 0, 1000⟩, ⟨13, 0, 0, .number, 0, 60000⟩, ⟨14, 0, 0, .number, 0, 60000⟩,
   ⟨15, 0, 0, .number, 100, 60000⟩, ⟨16, 0, 0, .number, 100, 60000⟩, ⟨17, 0, 0, .number, 1, 10000⟩,
   ⟨18, 0, 0, .number, 100, 600000⟩, ⟨19, 0, 0, .number, 0, 600000⟩, ⟨20, 0, 0, .number, 0, 10000⟩,
   ⟨21, 0, 0, .number, 0, 65535⟩]

/-- LIMITS (R57). -/
def limitsFields : List FieldSpec :=
  [⟨1, 1, 8, .number, 0, 6000⟩, ⟨2, 1, 8, .number, 0, 1000⟩, ⟨3, 1, 8, .number, -500, 6000⟩,
   ⟨4, 1, 4, .number, -65535, 65535⟩, ⟨5, 1, 2, .number, 0, 65535⟩, ⟨6, 1, 2, .number, 0, 65535⟩,
   ⟨7, 1, 2, .number, 0, 65535⟩, ⟨8, 1, 2, .number, 0, 1000⟩]

/-- TUNING (R58). -/
def tuningFields : List FieldSpec :=
  [⟨1, 1, 8, .number, 0, 65535⟩, ⟨2, 1, 8, .number, 0, 1023⟩, ⟨3, 1, 8, .number, 1, 100⟩, ⟨4, 1, 8, .number, 1, 1000⟩,
   ⟨5, 1, 8, .number, 0, 15⟩, ⟨6, 1, 8, .number, 0, 6000⟩]

/-- ALARM (R177). -/
def alarmFields : List FieldSpec :=
  [⟨1, 0, 0, .code, 0, 1⟩, ⟨2, 0, 0, .code, 0, 1⟩, ⟨3, 0, 0, .number, 0, 255⟩, ⟨4, 0, 0, .code, 0, 255⟩,
   ⟨5, 0, 0, .readOnly, 0, 1⟩, ⟨6, 0, 0, .readOnly, 0, 1⟩]

/-- RECIPE (R59). -/
def recipeFields : List FieldSpec :=
  [⟨1, 0, 0, .number, 0, 65535⟩, ⟨2, 1, 6, .number, 0, 6000⟩, ⟨3, 1, 6, .number, 0, 1000⟩, ⟨4, 0, 0, .number, 0, 12⟩,
   ⟨5, 1, 12, .code, 0, 255⟩, ⟨6, 1, 12, .number, 0, 65535⟩, ⟨7, 1, 12, .number, 0, 65535⟩, ⟨8, 1, 12, .number, 1, 1000⟩,
   ⟨9, 0, 0, .number, 0, 65535⟩, ⟨10, 0, 0, .number, 0, 65535⟩, ⟨11, 0, 0, .number, -500, 6000⟩,
   ⟨12, 0, 0, .number, -500, 6000⟩, ⟨13, 1, 2, .number, 0, 6000⟩, ⟨14, 0, 0, .number, 0, 10000⟩,
   ⟨15, 0, 0, .number, 1, 65535⟩, ⟨20, 0, 0, .readOnly, 0, 1⟩, ⟨21, 1, 2, .readOnly, 0, 1⟩, ⟨22, 1, 2, .readOnly, 0, 12⟩]

/-- The fields of a table. -/
def tableFields : TableKind → List FieldSpec
  | .channel => channelFields
  | .output => outputFields
  | .geometry => geometryFields
  | .line => lineFields
  | .limits => limitsFields
  | .tuning => tuningFields
  | .alarm => alarmFields
  | .recipe => recipeFields

/-- The field of a table with this item and number, if there is one. -/
def findField (k : TableKind) (item field : Nat) : Option FieldSpec :=
  (tableFields k).find? fun f => f.field == field && decide (f.firstItem ≤ item) && decide (item ≤ f.lastItem)

/-- How many indexes a writable table has (R46). -/
def indexCount : TableKind → Nat
  | .alarm => 43
  | .recipe => 16
  | .channel | .output | .geometry | .line | .limits | .tuning => 1

/-! ## Staging buffers (04 4.2) -/

/-- The staging buffer of a table. -/
def stagingOf (b : StagingBuffers) : TableKind → Option StagingBuffer
  | .channel => b.channel
  | .output => b.output
  | .geometry => b.geometry
  | .line => b.line
  | .limits => b.limits
  | .tuning => b.tuning
  | .alarm => b.alarm
  | .recipe => b.recipe

/-- The staging buffers with one changed. -/
def setStagingOf (b : StagingBuffers) (k : TableKind) (x : Option StagingBuffer) : StagingBuffers :=
  match k with
  | .channel => { b with channel := x }
  | .output => { b with output := x }
  | .geometry => { b with geometry := x }
  | .line => { b with line := x }
  | .limits => { b with limits := x }
  | .tuning => { b with tuning := x }
  | .alarm => { b with alarm := x }
  | .recipe => { b with recipe := x }

/-- MRU with the staging buffer of one table changed. -/
def setStaging (s : State) (k : TableKind) (x : Option StagingBuffer) : State :=
  { s with mru := { s.mru with staging := setStagingOf s.mru.staging k x } }

/-- A field staged into a buffer, with whether it replaced a buffer that held another index (R47). -/
def stageField (b : Option StagingBuffer) (index item field : Nat) (v : Int) : StagingBuffer × Bool :=
  match b with
  | none => (⟨index, [(item, field, v)]⟩, false)
  | some b =>
    if b.index = index then (⟨index, putField b.fields item field v⟩, false) else (⟨index, [(item, field, v)]⟩, true)

/-! ## Committed entries as fields (R49, step 4) -/

/-- The ALARM entry as fields 1 to 4 (R177). -/
def alarmFieldMap (e : AlarmEntry) : FieldMap :=
  [(0, 1, (alarmClassCode e.cls : Int)), (0, 2, (e.masked.toNat : Int)), (0, 3, (e.delay : Int)), (0, 4, (e.links.toNat : Int))]

/-- The ALARM entry of fields 1 to 4 (R177). -/
def alarmOfFields (m : FieldMap) : AlarmEntry :=
  { cls := if fieldOf m 0 1 = 1 then .hard else .soft, masked := fieldOf m 0 2 == 1, delay := (fieldOf m 0 3).toNat,
    links := BitVec.ofInt 8 (fieldOf m 0 4) }

/-- The committed entry of a table and index, as fields: for RECIPE the admit bank, or none where the slot is empty. -/
def committedFields (t : Tbs) (k : TableKind) (index : Nat) : FieldMap :=
  match k with
  | .channel => t.channel
  | .output => t.output
  | .geometry => t.geometry
  | .line => t.line
  | .limits => t.limits
  | .tuning => t.tuning
  | .alarm => alarmFieldMap t.alarms[A index]
  | .recipe =>
    let b := admitBank t.slots[Fin.ofNat 16 index]
    if b.filled then b.fields else []

/-- The candidate: every staged field over the committed entry (R49, step 4). -/
def candidateFields (base staged : FieldMap) : FieldMap := staged.foldl (fun m e => putField m e.1 e.2.1 e.2.2) base

/-! ## Structural checks (R50, R55, R177) -/

/-- Two of a list of pairs are equal. -/
def hasDuplicate {α : Type} [DecidableEq α] : List α → Bool
  | [] => false
  | x :: xs => xs.contains x || hasDuplicate xs

/-- The pairs of node and channel that mapped entries name (R50). -/
def mappedPairs (m : FieldMap) : List (Int × Int) :=
  (allSignals.filter fun i => fieldOf m (i.val + 1) 1 == 1).map fun i =>
    (fieldOf m (i.val + 1) 2, fieldOf m (i.val + 1) 3)

/-- The commit has a field of the output staged. -/
def outputStaged (staged : FieldMap) (o : OutIx) : Bool := staged.any fun e => e.1 == o.val + 1

/-- The pairs of node and channel of the outputs that count as committed or are staged (R50). -/
def outputPairs (t : Tbs) (staged m : FieldMap) : List (Int × Int) :=
  (allOutputs.filter fun o => t.outputCommitted[o] || outputStaged staged o).map fun o =>
    (fieldOf m (o.val + 1) 1, fieldOf m (o.val + 1) 2)

/-- The orders of R55, on the values as built. -/
def geometryOrdered (m : FieldMap) : Bool :=
  let g (item field : Nat) : Int := fieldOf m item field
  decide (0 < g 0 1 ∧ g 0 1 < g 1 2)
  && (List.range 6).all (fun z => decide (g (z + 1) 2 < g (z + 1) 3))
  && decide (g 1 3 ≤ g 2 2 ∧ g 2 3 ≤ g 3 2 ∧ g 4 3 ≤ g 5 2 ∧ g 5 3 ≤ g 6 2)
  && decide (g 1 2 ≤ g 4 2 ∧ g 6 3 ≤ g 3 3)
  && decide (g 3 3 ≤ g 0 5 ∧ g 0 5 < g 1 6 - g 1 7)
  && decide (g 1 6 < g 2 6)
  && decide (g 1 9 ≤ g 1 7 ∧ g 1 9 ≤ g 1 8 ∧ g 2 9 ≤ g 2 7 ∧ g 2 9 ≤ g 2 8)
  && decide (g 2 6 + g 2 8 < g 0 10 - g 0 11)

/-- The orders of LIMITS (R50). -/
def limitsOrdered (m : FieldMap) : Bool :=
  let g (item field : Nat) : Int := fieldOf m item field
  decide (g 1 4 ≤ g 2 4 ∧ g 2 4 ≤ g 3 4 ∧ g 3 4 ≤ g 4 4 ∧ g 2 8 ≤ g 1 8)

/-- The structure of a recipe (R50). -/
def recipeSound (m : FieldMap) : Bool :=
  let g (item field : Nat) : Int := fieldOf m item field
  decide (g 0 4 ≤ 12)
  && (List.range (g 0 4).toNat).all (fun k => decide (g (k + 1) 6 < g (k + 1) 7 ∧ g (k + 1) 5 ≠ 0))
  && decide (g 0 9 ≤ g 0 10 ∧ g 0 11 ≤ g 0 12)

/-- The structure of an ALARM entry (R177). -/
def alarmSound (a : AlarmIx) (m : FieldMap) : Bool :=
  let e := alarmOfFields m
  let d := alarmDefault a
  (!alarmFixed a || (e.cls == d.cls && e.masked == d.masked && e.links == d.links))
  && (a != A 36 || fieldOf m 0 3 == 0)

/-- The structural check of a candidate (R49, step 5; R50). -/
def candidateSound (t : Tbs) (k : TableKind) (index : Nat) (staged m : FieldMap) : Bool :=
  match k with
  | .channel => !hasDuplicate (mappedPairs m)
  | .output => !hasDuplicate (outputPairs t staged m)
  | .geometry => geometryOrdered m
  | .line => true
  | .limits => limitsOrdered m
  | .tuning => true
  | .alarm => alarmSound (A index) m
  | .recipe => recipeSound m

/-! ## Clamps (R49, step 7; R50, R22) -/

/-- The field clamped at one item; the map is as before where the value is in range. -/
def clampItem (lo hi : Int) (field : Nat) (m : FieldMap) (item : Nat) : FieldMap :=
  let v := fieldOf m item field
  if clamp lo hi v = v then m else putField m item field (clamp lo hi v)

/-- The items of a field. -/
def fieldItems (f : FieldSpec) : List Nat := (List.range (f.lastItem + 1 - f.firstItem)).map (· + f.firstItem)

/-- A number field brought into its range, for the items that the commit clamps. -/
def clampField (items : FieldSpec → List Nat) (m : FieldMap) (f : FieldSpec) : FieldMap :=
  if f.kind = .number then (items f).foldl (clampItem f.lo f.hi f.field) m else m

/-- The items that a commit of RECIPE clamps: no segment above the segment count (R50). -/
def recipeItems (m : FieldMap) (f : FieldSpec) : List Nat :=
  (fieldItems f).filter fun i => !(decide (5 ≤ f.field ∧ f.field ≤ 8)) || decide ((i : Int) ≤ fieldOf m 0 4)

/-- The cutoff action of a valve or a pump taken as OFF (R22). -/
def clampAction (m : FieldMap) (o : OutIx) : FieldMap :=
  if 9 ≤ o.val + 1 ∧ o.val + 1 ≤ 18 ∧ fieldOf m (o.val + 1) 4 ≠ 0 then putField m (o.val + 1) 4 0 else m

/-- The safe value clamped to the output limit (R22). -/
def clampSafe (m : FieldMap) (o : OutIx) : FieldMap := clampItem 0 (fieldOf m (o.val + 1) 3) 5 m (o.val + 1)

/-- The cutoff action of O19, O20 and O21 is not stored (R22). -/
def dropAction (m : FieldMap) (o : OutIx) : FieldMap :=
  if 19 ≤ o.val + 1 ∧ o.val + 1 ≤ 21 then dropField m (o.val + 1) 4 else m

/-- The candidate with every number field in its range (R49, step 7). -/
def clampCandidate (k : TableKind) (m : FieldMap) : FieldMap :=
  match k with
  | .output =>
    let m := (outputFields.filter fun f => f.field != 5).foldl (clampField fieldItems) m
    allOutputs.foldl clampSafe (allOutputs.foldl clampAction m)
  | .recipe => recipeFields.foldl (clampField (recipeItems m)) m
  | .channel | .geometry | .line | .limits | .tuning | .alarm => (tableFields k).foldl (clampField fieldItems) m

/-- What is stored of the clamped candidate. -/
def storedCandidate (k : TableKind) (m : FieldMap) : FieldMap :=
  match k with
  | .output => allOutputs.foldl dropAction m
  | .channel | .geometry | .line | .limits | .tuning | .alarm | .recipe => m

end Sys2Proof.Machine
end

