-- ==== Sys2Proof/Machine/ReadRequest.lean ====
section
/-! DEFINITION. READ and the read-only tables (04 4.6). A value that is absent reads as `none`. -/

namespace Sys2Proof.Machine

/-- A field that the read-only tables give: a number that is there, or an optional one. -/
abbrev Reading := Option Int

/-- A number read as it is. -/
def here (n : Nat) : Reading := some (n : Int)
/-- A flag read as 0 or 1. -/
def flag (b : Bool) : Reading := here b.toNat

/-- The fields of a board record (R63, TRAIN). -/
def readBoard (b : Board) : List Reading :=
  [here b.number.toNat, b.bank.map fun p => (p.1.val : Int), b.bank.map fun p => (bankCode p.2 : Int), here b.lead.toNat,
   b.length, flag b.unplanned, here (dispositionCode b.disposition), here (fluxStatusCode b.flux), here b.dose, b.topside,
   here (waveStatusCode b.wave), here b.chipMs, here b.laminarMs, here b.defects.toNat, here b.holds]

/-- Fields 1 to 9 of HOLD (R63): all but the hold phase are absent without a record. -/
def readHold (h : Hld) : List Reading :=
  let r := h.record
  [r.map fun x => (x.episode.toNat : Int), here (holdPhaseCode h.phase), r.map fun x => (causeCode x.primary : Int),
   r.map fun x => (x.later.length : Int), r.map fun x => (x.notListed : Int), r.map fun x => (x.entryPosition.toNat : Int),
   r.bind fun x => x.stopPosition.map fun p => (p.toNat : Int), r.map fun x => (lockStateCode x.lock : Int),
   r.map fun x => (x.lines.length : Int)]

/-- Fields 11 to 17 of HOLD, a board line (R63). -/
def readLine (l : BoardLine) : List Reading :=
  [here l.board.toNat, some l.leadOffset, here (fluxStatusCode l.flux), here (waveStatusCode l.wave), flag l.nozzleOpen,
   here (dispositionCode l.disposition), flag l.forcedRework]

/-- The fields of an exit report (R63, EXIT_HISTORY). -/
def readExit (r : ExitReport) : List Reading :=
  [here r.number.toNat, here r.label, here (outcomeCode r.outcome), here r.defects.toNat, here r.dose, r.topside,
   here r.chipMs, here r.laminarMs, here r.holds]

/-- The fields of a signal record (R63, SIGNALS). -/
def readSignal (r : SignalRecord) : List Reading :=
  [here (freshnessCode r.freshness), r.lastGood, r.status.map fun x => (sampleStatusCode x : Int), here r.nonGood,
   here r.arrivalCycle.toNat]

/-- The fields of a loop record (R63, LOOPS). -/
def readLoop (r : LoopRecord) : List Reading :=
  [r.setpoint, some r.integrator, some r.uPrev, here r.invalidCount, r.lastMeasurement,
   r.lastComputation.map fun c => (c.toNat : Int)]

/-- Fields 1 to 6 of ALARM_STATE, an alarm (R63). -/
def readAlarm (s : State) (a : AlarmIx) : List Reading :=
  let r := s.acu.alarms[a]
  let e := s.tbs.alarms[a]
  [here (alarmStateCode r.state), here r.occurrences, r.raiseCycle.map fun c => (c.toNat : Int),
   here (alarmClassCode e.cls), flag e.masked, here e.links.toNat]

/-- Fields 7 to 9 of ALARM_STATE, a group (R63). -/
def readGroup (g : GroupRecord) : List Reading := [flag g.active, flag g.manual, g.cause.map fun c => (causeCode c : Int)]

/-- The fields of COUNTERS (R63, R198). -/
def readCounters (s : State) : List Reading :=
  [here s.lif.cycle.toNat, here s.lif.checkErrors, here s.lif.lateCells, here s.lif.lastBlockErrors, here s.mru.dropped,
   here s.flx.lateEdges, here s.pot.ignored, here s.btk.nextNumber.toNat, here s.mru.nextSlot.val, here (tankCode s.flx.tank)]

/-- What a READ finds: a value that may be absent, or a refusal. -/
inductive ReadResult where
  | found (v : Reading)
  | refused (status : ReplyStatus)
  deriving DecidableEq, Repr

/-- A field of a list counted from a first number; a number outside the list is no field (R46). -/
def fieldIn (first : Nat) (fields : List Reading) (field : Nat) : ReadResult :=
  match if first ≤ field then fields[field - first]? else none with
  | some v => .found v
  | none => .refused .badIndex

/-- A field of an optional record, which a place of the table may not hold (R62). -/
def fieldOfPlace {α : Type} (read : α → List Reading) (count : Nat) (place : Option α) (field : Nat) : ReadResult :=
  if 1 ≤ field ∧ field ≤ count then
    match place with
    | some x => fieldIn 1 (read x) field
    | none => .found none
  else .refused .badIndex

/-- HOLD (R63): item 0 has fields 1 to 9; items 1 to 7 field 10; items 1 to 12 fields 11 to 17. -/
def readHoldField (h : Hld) (item field : Nat) : ReadResult :=
  if item = 0 then fieldIn 1 (readHold h) field
  else if field = 10 ∧ item ≤ 7 then
    .found ((h.record.bind fun r => r.later[item - 1]?).map fun c => (causeCode c : Int))
  else if 11 ≤ field ∧ field ≤ 17 ∧ item ≤ 12 then
    match h.record.bind fun r => r.lines[item - 1]? with
    | some l => fieldIn 11 (readLine l) field
    | none => .found none
  else .refused .badIndex

/-- A field of a read-only table, code 8 to 14 (R46, R63). -/
def readOnlyField (s : State) (code index item field : Nat) : ReadResult :=
  match code with
  | 8 => if index < 12 ∧ item = 0 then fieldOfPlace readBoard 15 s.btk.train[index]? field else .refused .badIndex
  | 9 => if index = 0 then readHoldField s.hld item field else .refused .badIndex
  | 10 => if index < 8 ∧ item = 0 then fieldOfPlace readExit 9 s.btk.exits[index]? field else .refused .badIndex
  | 11 =>
    if index = 0 ∧ 1 ≤ item ∧ item ≤ 23 then fieldIn 1 (readSignal s.sig[S item]) field else .refused .badIndex
  | 12 =>
    if index = 0 ∧ 1 ≤ item ∧ item ≤ 8 then fieldIn 1 (readLoop s.tle.loops[L item]) field else .refused .badIndex
  | 13 =>
    if item = 0 ∧ index < 43 then fieldIn 1 (readAlarm s (A index)) field
    else if item = 0 ∧ 50 ≤ index ∧ index ≤ 55 then
      fieldIn 7 (readGroup s.acu.groups[(Fin.ofNat 6 (index - 50) : Fin 6)]) field
    else .refused .badIndex
  | 14 => if index = 0 ∧ item = 0 then fieldIn 1 (readCounters s) field else .refused .badIndex
  | _ => .refused .badIndex

/-- The table has been committed at least once; ALARM is at its defaults from power-on (R54, R62). -/
def everCommitted (c : ConfiguredSet) : TableKind → Bool
  | .channel => c.channel
  | .output => c.output
  | .geometry => c.geometry
  | .line => c.line
  | .limits => c.limits
  | .tuning => c.tuning
  | .alarm | .recipe => true

/-- The read-only fields 5 and 6 of ALARM (R177). -/
def readAlarmFixed (a : AlarmIx) (field : Nat) : Reading :=
  if field = 5 then here (alarmKindCode (alarmKind a)) else flag (alarmFixed a)

/-- The read-only fields 20 to 22 of a slot (R59). -/
def readSlot (sl : Slot) (item field : Nat) : Reading :=
  let b := slotBank sl (if item = 1 then .a else .b)
  if field = 20 then here (bankCode sl.pointer) else if field = 21 then flag b.filled else here b.references

/-- A field of a bank; absent where the bank is empty (R62). -/
def readBank (b : Bank) (item field : Nat) : Reading := if b.filled then some (fieldOf b.fields item field) else none

/-- The committed copy of a field (R62, view 0). -/
def readCommitted (s : State) (k : TableKind) (index item : Nat) (f : FieldSpec) : Reading :=
  match k with
  | .recipe =>
    let sl := s.tbs.slots[(Fin.ofNat 16 index : SlotIx)]
    if f.kind = .readOnly then readSlot sl item f.field else readBank (admitBank sl) item f.field
  | .alarm =>
    if f.kind = .readOnly then readAlarmFixed (A index) f.field
    else some (fieldOf (committedFields s.tbs k index) item f.field)
  | .channel | .output | .geometry | .line | .limits | .tuning =>
    if everCommitted s.mru.configured k then some (fieldOf (committedFields s.tbs k index) item f.field) else none

/-- The staged copy of a field (R62, view 1). -/
def readStaged (s : State) (k : TableKind) (index item field : Nat) : Reading :=
  match stagingOf s.mru.staging k with
  | some b => if b.index = index then lookupField b.fields item field else none
  | none => none

/-- A field of a writable table, by the view (R62). The read-only fields of a recipe are read with view 0 (log entry 22). -/
def readTable (s : State) (k : TableKind) (index item view : Nat) (f : FieldSpec) : ReadResult :=
  let sl := s.tbs.slots[(Fin.ofNat 16 index : SlotIx)]
  match view with
  | 0 => .found (readCommitted s k index item f)
  | 1 => if k = .recipe ∧ f.kind = .readOnly then .refused .badValue else .found (readStaged s k index item f.field)
  | 2 => if k = .recipe ∧ f.kind ≠ .readOnly then .found (readBank sl.bankA item f.field) else .refused .badValue
  | 3 => if k = .recipe ∧ f.kind ≠ .readOnly then .found (readBank sl.bankB item f.field) else .refused .badValue
  | _ => .refused .badValue

/-- What a READ finds (R46, R62): the index operands are tested before the view. -/
def readResult (s : State) (code index item field view : Nat) : ReadResult :=
  match tableOfCode code with
  | some k =>
    match findField k item field with
    | some f => if index < indexCount k then readTable s k index item view f else .refused .badIndex
    | none => .refused .badIndex
  | none =>
    match readOnlyField s code index item field with
    | .found v => if view = 0 then .found v else .refused .badValue
    | .refused status => .refused status

/-- The four bytes of a value as a 32-bit two's complement number (R46). -/
def valueBytes (v : Int) : List (Nat × Nat) :=
  let n := (BitVec.ofInt 32 v).toNat
  [(10, n / 16777216 % 256), (11, n / 65536 % 256), (12, n / 256 % 256), (13, n % 256)]

/-- READ (R62). -/
def decideRead (r : ReqCell) (s : State) : Decision :=
  match readResult s (reqByte r 6) (reqByte r 7) (reqByte r 8) (reqByte r 9) (reqByte r 10) with
  | .refused status => refuse status s
  | .found v =>
    taken (fun _ => replyData ([(5, reqByte r 6), (6, reqByte r 7), (7, reqByte r 8), (8, reqByte r 9),
      (9, if v.isNone then 1 else 0)] ++ valueBytes (v.getD 0))) s

end Sys2Proof.Machine
end

