-- ==== Sys2Proof/Machine/TableRequests.lean ====
section
/-! DEFINITION. The table requests (04): STAGE, COMMIT, DISCARD, REMOVE_RECIPE and LOCK_LIMITS. -/

namespace Sys2Proof.Machine

/-! ## STAGE (R47) -/

/-- The item and field of a field request name a code field that the value is not a code of (R47). -/
def badCode (f : FieldSpec) (v : Int) : Bool := f.kind == .code && (decide (v < f.lo) || decide (f.hi < v))

/-- STAGE (R47). -/
def decideStage (r : ReqCell) (s : State) : Decision :=
  let index := reqByte r 7
  match tableOfCode (reqByte r 6) with
  | none => refuse .badIndex s
  | some k =>
    match findField k (reqByte r 8) (reqByte r 9) with
    | none => refuse .badIndex s
    | some f =>
      if f.kind = .readOnly ∨ indexCount k ≤ index then refuse .badIndex s
      else if badCode f (reqValue r) then refuse .badValue s
      else
        let (b, replaced) := stageField (stagingOf s.mru.staging k) index (reqByte r 8) (reqByte r 9) (reqValue r)
        { status := if replaced then .stageReplaced else .ok,
          state := setStaging s k (some b),
          tasks := [],
          data := fun s => replyData ([lineByte s, (6, tableCode k), (7, index)] ++ wordAt 8 b.fields.length) }

/-! ## DISCARD (R48) -/

/-- DISCARD (R48). -/
def decideDiscard (r : ReqCell) (s : State) : Decision :=
  match tableOfCode (reqByte r 6) with
  | none => refuse .badIndex s
  | some k =>
    { status := .ok, state := setStaging s k none, tasks := [],
      data := fun s => replyData [lineByte s, (6, tableCode k)] }

/-! ## COMMIT (R49, R51, R52) -/

/-- The line state forbids writing configuration (R51). -/
def lineRuns (l : LineState) : Bool := l == .run || l == .draining

/-- The write permission of a table (R51): the status of the refusal, if it is refused. -/
def permission (m : Mru) (k : TableKind) : Option ReplyStatus :=
  match k with
  | .limits =>
    if m.limitsLock && m.line != .maintenance then some .locked
    else if lineRuns m.line then some .state else none
  | .tuning | .recipe => none
  | .channel | .output | .geometry | .line | .alarm => if lineRuns m.line then some .state else none

/-- A table added to the configured set (R34). -/
def addConfigured (c : ConfiguredSet) (k : TableKind) : ConfiguredSet :=
  match k with
  | .channel => { c with channel := true }
  | .output => { c with output := true }
  | .geometry => { c with geometry := true }
  | .line => { c with line := true }
  | .limits => { c with limits := true }
  | .tuning => { c with tuning := true }
  | .alarm | .recipe => c

/-- The bank that a recipe commit writes: the one the admit pointer does not name (R60). -/
def writeBank (t : Tbs) (index : Nat) : BankId := otherBank (t.slots[Fin.ofNat 16 index]).pointer

/-- The recipe written into the write bank, and the admit pointer turned to it (R60). -/
def writeRecipe (t : Tbs) (index : Nat) (m : FieldMap) : Tbs :=
  let i : SlotIx := Fin.ofNat 16 index
  let sl := t.slots[i]
  let bank := otherBank sl.pointer
  let sl := setSlotBank sl bank { filled := true, fields := m, references := (slotBank sl bank).references }
  { t with slots := vset t.slots i { sl with pointer := bank } }

/-- The outputs that a commit of OUTPUT hands even when their delivered command is unchanged (R22): the entry is new, or its
node, channel or limit changed. -/
def entryChanged (old new : Tbs) (o : OutIx) : Bool :=
  new.outputCommitted[o] && (!old.outputCommitted[o] || outputNode old o != outputNode new o
    || outputChannel old o != outputChannel new o || outputLimit old o != outputLimit new o)

/-- The write of an entry and its effects (R49, step 8; R52), but for the configured set. R22 gives no order for the outputs of
one OUTPUT commit: they are handed in number order, O1 to O23 (DESIGN CHOICE, log entry 40). A LINE commit that changes the debt
(R149) evaluates the start of a feed (R153), after the conveyor takes its speed (log entry 42). -/
def writeEntry (k : TableKind) (index : Nat) (staged m : FieldMap) (s : State) : Effect :=
  let t := s.tbs
  match k with
  | .channel => channelCommitted t { s with tbs := { t with channel := m } }
  | .output =>
    let t' := { t with output := m,
                       outputCommitted := Vector.ofFn fun o => t.outputCommitted[o] || outputStaged staged o }
    ({ s with tbs := t' },
     allOutputs.map fun o => if entryChanged t t' o then Task.handDelivered o else Task.formDelivered o)
  | .geometry => ({ s with tbs := { t with geometry := m } }, [.admission])
  | .line =>
    let s' := { s with tbs := { t with line := m } }
    let s' := clampDebt { s' with mru := { s'.mru with lineSpeed := some (conveyorSpeed s'.tbs) } }
    (s', .conveyor :: if s'.pot.debt = s.pot.debt then [] else [.feedEvaluate])
  | .limits =>
    (limitSetpoints { s with tbs := { t with limits := m } },
     [O 1, O 2, O 3, O 4, O 5, O 6, O 7, O 8].map Task.formDelivered)
  | .tuning => ({ s with tbs := { t with tuning := m } }, [])
  | .alarm => applyEntry (A index) (alarmOfFields m) s
  | .recipe => ({ s with tbs := writeRecipe t index m }, [.admission])

/-- A COMMIT that is taken (R49, steps 7 and 8). -/
def commitEntry (k : TableKind) (index : Nat) (staged m : FieldMap) (s : State) : Decision :=
  let m' := clampCandidate k m
  let bank := writeBank s.tbs index
  let e := writeEntry k index staged (storedCandidate k m') (setStaging s k none)
  { status := if m' = m then .ok else .clamped,
    state := { e.1 with mru := { e.1.mru with configured := addConfigured e.1.mru.configured k } },
    tasks := e.2 ++ [.configuredTest],
    data := fun s => replyData ([lineByte s, (6, tableCode k), (7, index)]
      ++ (if k = .recipe then [(8, bankCode bank)] else [])) }

/-- COMMIT, steps 3 to 8 (R49). -/
def commitStaged (k : TableKind) (index : Nat) (s : State) : Decision :=
  match stagingOf s.mru.staging k with
  | none => refuse .nothingStaged s
  | some b =>
    if b.index ≠ index then refuse .nothingStaged s
    else
      let m := candidateFields (committedFields s.tbs k index) b.fields
      if !candidateSound s.tbs k index b.fields m then refuse .badValue s
      else if k = .recipe ∧ 0 < (slotBank s.tbs.slots[Fin.ofNat 16 index] (writeBank s.tbs index)).references then
        refuse .busy s
      else commitEntry k index b.fields m s

/-- COMMIT (R49). -/
def decideCommit (r : ReqCell) (s : State) : Decision :=
  match tableOfCode (reqByte r 6) with
  | none => refuse .badIndex s
  | some k =>
    if indexCount k ≤ reqByte r 7 then refuse .badIndex s
    else
      match permission s.mru k with
      | some status => refuse status s
      | none => commitStaged k (reqByte r 7) s

/-! ## REMOVE_RECIPE (R61) and LOCK_LIMITS (R51) -/

/-- The slot with its admit bank marked empty (R61). -/
def removedSlot (sl : Slot) : Slot := setSlotBank sl sl.pointer { admitBank sl with filled := false }

/-- REMOVE_RECIPE (R61). -/
def decideRemoveRecipe (r : ReqCell) (s : State) : Decision :=
  let n := reqByte r 6
  if 16 ≤ n then refuse .badIndex s
  else
    let i : SlotIx := Fin.ofNat 16 n
    { status := .ok,
      state := { s with tbs := { s.tbs with slots := vset s.tbs.slots i (removedSlot s.tbs.slots[i]) } },
      tasks := [.admission],
      data := fun s => replyData [lineByte s, (6, n)] }

/-- LOCK_LIMITS (R51, R32). -/
def decideLockLimits (_ : ReqCell) (s : State) : Decision :=
  if s.mru.line = .unconfigured then refuse .state s
  else { status := .ok, state := { s with mru := { s.mru with limitsLock := true } }, tasks := [], data := fun _ => noData }

end Sys2Proof.Machine
end

