-- ==== Sys2Proof/Machine/Events.lean ====
section
/-! DEFINITION. The meanings of the commands that are no request: power-on, cycle starts, cells, and timer expiries. -/

namespace Sys2Proof.Machine

/-! ## Power-on and the cycle -/

/-- POWER_ON_RESET (R13, R21, R29, R45, R64, R86, R104, R122, R135, R158, R168, R183, R196). The commands that wait are outside
the part and stay (log entry 28). -/
def execPowerOnReset (s : State) : Host.Outcome State Fault Refusal := .next { State.reset with pending := s.pending }

/-- What a cycle start does, in order (R1, R2, R7, R20, R165, R27; log entry 6). -/
def cycleStartTasks : List Task :=
  [.closeLostCycle, .beginCycle, .giveLoopLost, .giveSignalStale, .staleDucts, .refresh]

/-- CYCLE_START: the expiry of the loop timer (R1). -/
def execCycleStart (s : State) : Host.Outcome State Fault Refusal := .next (run s cycleStartTasks)

/-- DEGRADATION_BLOCK_COMPLETE (R1, R8; log entry 3). -/
def execDegradationBlockComplete (s : State) : Host.Outcome State Fault Refusal := .next (run s [.blockComplete])

/-! ## Cells (R3, R4) -/

/-- A CYCLE_END cell at the loop input (R3, R4). -/
def takeCycleEnd (c : CycleEndCell) (s : State) : State :=
  let v := verdict s.lif.openCycle (cycleEndRaw c)
  if v = .ownCycleEnd then closeCycle c.cycle s else countDiscard v s

/-- A SAMPLE cell at the loop input (R4, R15). -/
def takeSample (c : SampleCell) (s : State) : State :=
  let v := verdict s.lif.openCycle (sampleRaw c)
  if v = .toSig then run s (sampleTasks c) else countDiscard v s

/-- A COMPLETION cell at the loop input (R4, R154). -/
def takeCompletionCell (c : CompletionCell) (s : State) : State :=
  let v := verdict s.lif.openCycle (completionRaw c)
  if v = .toPot then runEffect (takeCompletion c.src c.number c.result c.quantity.toNat s) else countDiscard v s

/-- The owner's rule of a request code (R32). Codes outside 1 to 23 never reach it (R30). -/
def decideByCode (code : Nat) : ReqCell → State → Decision :=
  match code with
  | 1 => decideStage
  | 2 => decideCommit
  | 3 => decideDiscard
  | 4 => decideRead
  | 5 => decideRemoveRecipe
  | 6 => decideLockLimits
  | 7 => decideStart
  | 8 => decideStop
  | 9 => decideHold
  | 10 => decideAckHold
  | 11 => decideSetDisposition
  | 12 => decideResume
  | 13 => decideSelectNext
  | 14 => decideSetSpeed
  | 15 => decideEnterMaintenance
  | 16 => decideLeaveMaintenance
  | 17 => decideSetOutput
  | 18 => decideRestart
  | 19 => decideAckAlarm
  | 20 => decideForceCutoff
  | 21 => decideClearCutoff
  | 22 => decideFeedNow
  | 23 => decideSetback
  | _ => fun _ s => refuse .unknownRequest s

/-- A cell as bytes at the loop input: the tests of R4 decide it, and a cell that passes them goes to its owner. -/
def takeRaw (c : RawCell) (s : State) : State :=
  match verdict s.lif.openCycle c with
  | .ownCycleEnd => takeCycleEnd (cycleEndOfRaw c) s
  | .toSig => takeSample (sampleOfRaw c) s
  | .toPot => takeCompletionCell (completionOfRaw c) s
  | .toMru =>
    let q := requestOfRaw c
    serve q.1 q.2 (decideByCode q.1.toNat) s
  | .checkError => countDiscard .checkError s
  | .ownCell => countDiscard .ownCell s
  | .lateCell => countDiscard .lateCell s
  | .otherDest => countDiscard .otherDest s
  | .unknownKind => countDiscard .unknownKind s

/-- CYCLE_END (R3). -/
def execCycleEnd (c : CycleEndCell) (s : State) : Host.Outcome State Fault Refusal := .next (takeCycleEnd c s)

/-- CELL_DISCARDED (R4): the command carries the cell's bytes, and the tests of R4 decide it (log entry 4). -/
def execCellDiscarded (c : RawCell) (s : State) : Host.Outcome State Fault Refusal := .next (takeRaw c s)

/-- SAMPLE (R15). -/
def execSample (c : SampleCell) (s : State) : Host.Outcome State Fault Refusal := .next (takeSample c s)

/-- COMPLETION (R154). -/
def execCompletion (c : CompletionCell) (s : State) : Host.Outcome State Fault Refusal := .next (takeCompletionCell c s)

/-! ## Timer expiries (00_scope.md 4.3) -/

/-- STALE_TIMER_EXPIRY (R18). -/
def execStaleTimerExpiry (i : SigIx) (s : State) : Host.Outcome State Fault Refusal := .next (runEffect (staleExpiry i s))

/-- NO_MOTION_TIMER_EXPIRY (R85). -/
def execNoMotionTimerExpiry (s : State) : Host.Outcome State Fault Refusal := .next (runEffect (noMotionExpiry s))

/-- MELT_DWELL_EXPIRY (R138). -/
def execMeltDwellExpiry (s : State) : Host.Outcome State Fault Refusal := .next (runEffect (meltDwellExpiry s))

/-- SETBACK_TIMER_EXPIRY (R141). -/
def execSetbackTimerExpiry (s : State) : Host.Outcome State Fault Refusal := .next (runEffect (setbackExpiry s))

/-- PUMP_GRACE_EXPIRY (R146). -/
def execPumpGraceExpiry (w : Wave) (s : State) : Host.Outcome State Fault Refusal := .next (runEffect (pumpGraceExpiry w s))

/-- FEED_TIMER_EXPIRY (R155). -/
def execFeedTimerExpiry (s : State) : Host.Outcome State Fault Refusal := .next (runEffect (feedExpiry s))

/-- SETTLE_TIMER_EXPIRY (R156). -/
def execSettleTimerExpiry (s : State) : Host.Outcome State Fault Refusal := .next (runEffect (settleOver s))

/-- FAN_GRACE_EXPIRY (R163). -/
def execFanGraceExpiry (d : Duct) (s : State) : Host.Outcome State Fault Refusal := .next (runEffect (fanGraceOver d s))

/-- STOP_TIMER_EXPIRY (R190). -/
def execStopTimerExpiry (s : State) : Host.Outcome State Fault Refusal := .next (runEffect (stopExpiry s))

/-- RESUME_TIMER_EXPIRY (R190). -/
def execResumeTimerExpiry (s : State) : Host.Outcome State Fault Refusal := .next (runEffect (resumeExpiry s))

end Sys2Proof.Machine
end

