-- ==== Sys2Proof/Machine/Requests.lean ====
section
/-! DEFINITION. The meanings of the requests: each is served under its code (R11, R30, R32) by its owner's rule. -/

namespace Sys2Proof.Machine

/-- STAGE, request code 1 (R47). -/
def execStage (r : ReqCell) (s : State) : Host.Outcome State Fault Refusal := .next (serve 1 r decideStage s)

/-- COMMIT, request code 2 (R49). -/
def execCommit (r : ReqCell) (s : State) : Host.Outcome State Fault Refusal := .next (serve 2 r decideCommit s)

/-- DISCARD, request code 3 (R48). -/
def execDiscard (r : ReqCell) (s : State) : Host.Outcome State Fault Refusal := .next (serve 3 r decideDiscard s)

/-- READ, request code 4 (R62). -/
def execRead (r : ReqCell) (s : State) : Host.Outcome State Fault Refusal := .next (serve 4 r decideRead s)

/-- REMOVE_RECIPE, request code 5 (R61). -/
def execRemoveRecipe (r : ReqCell) (s : State) : Host.Outcome State Fault Refusal := .next (serve 5 r decideRemoveRecipe s)

/-- LOCK_LIMITS, request code 6 (R51). -/
def execLockLimits (r : ReqCell) (s : State) : Host.Outcome State Fault Refusal := .next (serve 6 r decideLockLimits s)

/-- START, request code 7 (R34). -/
def execStart (r : ReqCell) (s : State) : Host.Outcome State Fault Refusal := .next (serve 7 r decideStart s)

/-- STOP, request code 8 (R35). -/
def execStop (r : ReqCell) (s : State) : Host.Outcome State Fault Refusal := .next (serve 8 r decideStop s)

/-- HOLD, request code 9 (R185). -/
def execHold (r : ReqCell) (s : State) : Host.Outcome State Fault Refusal := .next (serve 9 r decideHold s)

/-- ACK_HOLD, request code 10 (R191). -/
def execAckHold (r : ReqCell) (s : State) : Host.Outcome State Fault Refusal := .next (serve 10 r decideAckHold s)

/-- SET_DISPOSITION, request code 11 (R192). -/
def execSetDisposition (r : ReqCell) (s : State) : Host.Outcome State Fault Refusal := .next (serve 11 r decideSetDisposition s)

/-- RESUME, request code 12 (R193). -/
def execResume (r : ReqCell) (s : State) : Host.Outcome State Fault Refusal := .next (serve 12 r decideResume s)

/-- SELECT_NEXT, request code 13 (R40). -/
def execSelectNext (r : ReqCell) (s : State) : Host.Outcome State Fault Refusal := .next (serve 13 r decideSelectNext s)

/-- SET_SPEED, request code 14 (R37). -/
def execSetSpeed (r : ReqCell) (s : State) : Host.Outcome State Fault Refusal := .next (serve 14 r decideSetSpeed s)

/-- ENTER_MAINTENANCE, request code 15 (R36). -/
def execEnterMaintenance (r : ReqCell) (s : State) : Host.Outcome State Fault Refusal := .next (serve 15 r decideEnterMaintenance s)

/-- LEAVE_MAINTENANCE, request code 16 (R36). -/
def execLeaveMaintenance (r : ReqCell) (s : State) : Host.Outcome State Fault Refusal := .next (serve 16 r decideLeaveMaintenance s)

/-- SET_OUTPUT, request code 17 (R39). -/
def execSetOutput (r : ReqCell) (s : State) : Host.Outcome State Fault Refusal := .next (serve 17 r decideSetOutput s)

/-- RESTART, request code 18 (R41). -/
def execRestart (r : ReqCell) (s : State) : Host.Outcome State Fault Refusal := .next (serve 18 r decideRestart s)

/-- ACK_ALARM, request code 19 (R176). -/
def execAckAlarm (r : ReqCell) (s : State) : Host.Outcome State Fault Refusal := .next (serve 19 r decideAckAlarm s)

/-- FORCE_CUTOFF, request code 20 (R180). -/
def execForceCutoff (r : ReqCell) (s : State) : Host.Outcome State Fault Refusal := .next (serve 20 r decideForceCutoff s)

/-- CLEAR_CUTOFF, request code 21 (R181). -/
def execClearCutoff (r : ReqCell) (s : State) : Host.Outcome State Fault Refusal := .next (serve 21 r decideClearCutoff s)

/-- FEED_NOW, request code 22 (R153). -/
def execFeedNow (r : ReqCell) (s : State) : Host.Outcome State Fault Refusal := .next (serve 22 r decideFeedNow s)

/-- SETBACK, request code 23 (R141). -/
def execSetback (r : ReqCell) (s : State) : Host.Outcome State Fault Refusal := .next (serve 23 r decideSetback s)

/-- A REQUEST with a code that the command carries (R30): UNKNOWN_REQUEST outside 1 to 23; a code of the table is served as its
own request (log entry 4). -/
def execUnknownRequest (code : Word16) (r : ReqCell) (s : State) : Host.Outcome State Fault Refusal :=
  .next (serve code r (decideByCode code.toNat) s)

end Sys2Proof.Machine
end

