-- ==== Sys2Proof/Machine/Dispatch.lean ====
section
/-! DEFINITION. Dispatch: one arm per command. -/

namespace Sys2Proof.Machine

def exec (i : Instr) (s : State) : Host.Outcome State Fault Refusal :=
  match i with
  | .powerOnReset => Sys2Proof.Machine.execPowerOnReset s
  | .cycleStart => Sys2Proof.Machine.execCycleStart s
  | .degradationBlockComplete => Sys2Proof.Machine.execDegradationBlockComplete s
  | .cycleEnd c => Sys2Proof.Machine.execCycleEnd c s
  | .cellDiscarded c => Sys2Proof.Machine.execCellDiscarded c s
  | .sample c => Sys2Proof.Machine.execSample c s
  | .completion c => Sys2Proof.Machine.execCompletion c s
  | .staleTimerExpiry signal => Sys2Proof.Machine.execStaleTimerExpiry signal s
  | .noMotionTimerExpiry => Sys2Proof.Machine.execNoMotionTimerExpiry s
  | .meltDwellExpiry => Sys2Proof.Machine.execMeltDwellExpiry s
  | .setbackTimerExpiry => Sys2Proof.Machine.execSetbackTimerExpiry s
  | .pumpGraceExpiry w => Sys2Proof.Machine.execPumpGraceExpiry w s
  | .feedTimerExpiry => Sys2Proof.Machine.execFeedTimerExpiry s
  | .settleTimerExpiry => Sys2Proof.Machine.execSettleTimerExpiry s
  | .fanGraceExpiry d => Sys2Proof.Machine.execFanGraceExpiry d s
  | .stopTimerExpiry => Sys2Proof.Machine.execStopTimerExpiry s
  | .resumeTimerExpiry => Sys2Proof.Machine.execResumeTimerExpiry s
  | .stage r => Sys2Proof.Machine.execStage r s
  | .commit r => Sys2Proof.Machine.execCommit r s
  | .discard r => Sys2Proof.Machine.execDiscard r s
  | .read r => Sys2Proof.Machine.execRead r s
  | .removeRecipe r => Sys2Proof.Machine.execRemoveRecipe r s
  | .lockLimits r => Sys2Proof.Machine.execLockLimits r s
  | .start r => Sys2Proof.Machine.execStart r s
  | .stop r => Sys2Proof.Machine.execStop r s
  | .hold r => Sys2Proof.Machine.execHold r s
  | .ackHold r => Sys2Proof.Machine.execAckHold r s
  | .setDisposition r => Sys2Proof.Machine.execSetDisposition r s
  | .resume r => Sys2Proof.Machine.execResume r s
  | .selectNext r => Sys2Proof.Machine.execSelectNext r s
  | .setSpeed r => Sys2Proof.Machine.execSetSpeed r s
  | .enterMaintenance r => Sys2Proof.Machine.execEnterMaintenance r s
  | .leaveMaintenance r => Sys2Proof.Machine.execLeaveMaintenance r s
  | .setOutput r => Sys2Proof.Machine.execSetOutput r s
  | .restart r => Sys2Proof.Machine.execRestart r s
  | .ackAlarm r => Sys2Proof.Machine.execAckAlarm r s
  | .forceCutoff r => Sys2Proof.Machine.execForceCutoff r s
  | .clearCutoff r => Sys2Proof.Machine.execClearCutoff r s
  | .feedNow r => Sys2Proof.Machine.execFeedNow r s
  | .setback r => Sys2Proof.Machine.execSetback r s
  | .unknownRequest code r => Sys2Proof.Machine.execUnknownRequest code r s

end Sys2Proof.Machine
end

