-- ==== Sys2Proof/Machine/Step.lean ====
section
/-! DEFINITION. The step: the command at the front of the queue is taken, and an empty queue leaves the part as it is. -/

namespace Sys2Proof.Machine

/-- One step: take the command at the front of the queue and carry it out with the queue's rest. On an empty queue the part
idles (log entry 2): nothing in it moves but at an event (00_scope.md 1.3). -/
def step (s : State) : Host.Outcome State Fault Refusal :=
  match s.pending with
  | [] => .next s
  | i :: rest => exec i { s with pending := rest }

/-- The state with the command that a word spells put at the front of the queue. The table gives its rows no bits, so no word
spells a command (log entry 29). -/
def State.withFetchWord (s : State) (nbits w : Nat) : State :=
  match Sys2Proof.decodeTableWord nbits w with
  | some i => { s with pending := i :: s.pending }
  | none => s

end Sys2Proof.Machine
end

