-- ==== Sys2Proof/Machine/Commands.lean ====
section
/-! DEFINITION. The commands as cells at the loop input: the cell that a command carries, the command that a cell spells, and the
request that a command carries. -/

namespace Sys2Proof.Machine

/-- The request code and the REQUEST cell of a command that is a request (01 1.8). -/
def requestOf : Instr → Option (Word16 × ReqCell)
  | .stage r => some (1, r)
  | .commit r => some (2, r)
  | .discard r => some (3, r)
  | .read r => some (4, r)
  | .removeRecipe r => some (5, r)
  | .lockLimits r => some (6, r)
  | .start r => some (7, r)
  | .stop r => some (8, r)
  | .hold r => some (9, r)
  | .ackHold r => some (10, r)
  | .setDisposition r => some (11, r)
  | .resume r => some (12, r)
  | .selectNext r => some (13, r)
  | .setSpeed r => some (14, r)
  | .enterMaintenance r => some (15, r)
  | .leaveMaintenance r => some (16, r)
  | .setOutput r => some (17, r)
  | .restart r => some (18, r)
  | .ackAlarm r => some (19, r)
  | .forceCutoff r => some (20, r)
  | .clearCutoff r => some (21, r)
  | .feedNow r => some (22, r)
  | .setback r => some (23, r)
  | .unknownRequest code r => some (code, r)
  | .powerOnReset | .cycleStart | .degradationBlockComplete | .cycleEnd _ | .cellDiscarded _ | .sample _ | .completion _
  | .staleTimerExpiry _ | .noMotionTimerExpiry | .meltDwellExpiry | .setbackTimerExpiry | .pumpGraceExpiry _
  | .feedTimerExpiry | .settleTimerExpiry | .fanGraceExpiry _ | .stopTimerExpiry | .resumeTimerExpiry => none

/-- The bytes of the cell that a command carries, for the commands that are cells with an owner (01 1.8). -/
def cellOf : Instr → Option RawCell
  | .cycleEnd c => some (cycleEndRaw c)
  | .sample c => some (sampleRaw c)
  | .completion c => some (completionRaw c)
  | i => (requestOf i).map fun q => requestRaw q.1 q.2

/-- The request of a code (01 1.8). -/
def requestCommand (code : Word16) (r : ReqCell) : Instr :=
  match code.toNat with
  | 1 => .stage r
  | 2 => .commit r
  | 3 => .discard r
  | 4 => .read r
  | 5 => .removeRecipe r
  | 6 => .lockLimits r
  | 7 => .start r
  | 8 => .stop r
  | 9 => .hold r
  | 10 => .ackHold r
  | 11 => .setDisposition r
  | 12 => .resume r
  | 13 => .selectNext r
  | 14 => .setSpeed r
  | 15 => .enterMaintenance r
  | 16 => .leaveMaintenance r
  | 17 => .setOutput r
  | 18 => .restart r
  | 19 => .ackAlarm r
  | 20 => .forceCutoff r
  | 21 => .clearCutoff r
  | 22 => .feedNow r
  | 23 => .setback r
  | _ => .unknownRequest code r

/-- The command that a cell at the loop input spells: by its KIND, and for a REQUEST by its request code (01 1.8). A cell of
a kind with no owner can only be discarded (R4). -/
def commandOfCell (c : RawCell) : Instr :=
  if c.kind = kindCycleEnd then .cycleEnd (cycleEndOfRaw c)
  else if c.kind = kindSample then .sample (sampleOfRaw c)
  else if c.kind = kindCompletion then .completion (completionOfRaw c)
  else if c.kind = kindRequest then requestCommand (requestOfRaw c).1 (requestOfRaw c).2
  else .cellDiscarded c

end Sys2Proof.Machine
end

