-- ==== Sys2Proof/Safety.lean ====
section
/-! DEFINITION. What claims about the machine are made of: the invariants that every step keeps, block by block, what makes a
request one that MRU decides, and the parts of the state that a claim says are left alone. -/

namespace Sys2Proof.Machine

/-! ## Requests -/

/-- A REQUEST cell that passes the tests of R4, finds room in the message queue (R11), and passes the tests of R30 on its code
and its source: its owner's rule decides it. -/
def accepted (code : Word16) (r : ReqCell) (s : State) : Prop :=
  verdict s.lif.openCycle (requestRaw code r) = .toMru ∧ s.lif.messageQueue.length < messageRoom
    ∧ 1 ≤ code.toNat ∧ code.toNat ≤ 23 ∧ maySend (sourceOf s r.src) code = true

/-- The request that a command carries, if it carries one, whether the command names the request or carries the cell's bytes
(log entry 4). -/
def carriedRequest : Instr → Option (Word16 × ReqCell)
  | .cellDiscarded c => if c.kind = kindRequest then some (requestOfRaw c) else none
  | i => requestOf i

/-- The request is taken in the present line state, by the table of R32 (and the hold phase, for RESTART). -/
def takenIn (code : Nat) (s : State) : Prop :=
  match code with
  | 6 | 14 | 22 | 23 => s.mru.line ≠ .unconfigured
  | 7 => s.mru.line = .standby ∨ s.mru.line = .run
  | 8 | 9 | 10 | 11 | 12 => s.mru.line = .run ∨ s.mru.line = .draining
  | 15 | 16 => s.mru.line = .standby ∨ s.mru.line = .maintenance
  | 17 => s.mru.line = .maintenance
  | 18 => s.mru.line = .standby ∨ s.mru.line = .maintenance
      ∨ ((s.mru.line = .run ∨ s.mru.line = .draining) ∧ s.hld.phase = .held)
  | _ => True

/-- The sample arrivals of a SAMPLE cell, in position order (R15): the signal, the channel status code and the value of each
position whose pair of node and channel a mapped entry names. -/
def arrivalsOf (s : State) (c : SampleCell) : List (SigIx × Nat × Word16) :=
  [(0, c.value0), (1, c.value1), (2, c.value2), (3, c.value3)].filterMap fun p : Nat × Word16 =>
    (mappedSignal s.tbs c.src (4 * c.sequence.toNat + p.1)).map fun i =>
      (i, c.statuses.toNat / 4 ^ (3 - p.1) % 4, p.2)

/-- A41 is raised by a condition that becomes true at no evaluation (R171): it is unmasked, and CLEAR with delay 0 or
LATCHED. -/
def raisesConveyorFault (s : State) : Prop :=
  (s.tbs.alarms[A 41]).masked = false
  ∧ (((s.acu.alarms[A 41]).state = .clear ∧ (s.tbs.alarms[A 41]).delay = 0) ∨ (s.acu.alarms[A 41]).state = .latched)

/-- One of the alarms that bring the pot to FAULT has been raised in the present cycle (R140, R174). -/
def potAlarmRaised (s : State) : Prop :=
  ∃ a : AlarmIx, isPotAlarm a = true ∧ (s.acu.alarms[a]).raiseCycle = some s.lif.cycle

/-! ## What consequences leave alone -/

/-- What a board record keeps while its board is in the train, whatever other blocks write into it (R74, R78). -/
def identity (b : Board) : BoardNo × Option (SlotIx × BankId) × Word32 × Option Int × Bool × Nat × Option Int :=
  (b.number, b.bank, b.lead, b.length, b.unplanned, b.dose, b.topside)

/-- From `s` to `t` nothing is changed that only a cell, a sample, an expiry of a stale timer or a cycle start changes, and
nothing of the configuration: the signal records and the tables; LIF but for its command stores; MRU but for the line state; of BTK the position, the sensor filters, the exits and what a record keeps; POT's level; the captures of PHM;
the edges and the accounts of FLX. -/
def Undisturbed (s t : State) : Prop :=
  t.sig = s.sig ∧ t.tbs = s.tbs ∧ t.pending = s.pending
  ∧ t.lif = { s.lif with commandQueue := t.lif.commandQueue, carryList := t.lif.carryList,
                         deferredSet := t.lif.deferredSet }
  ∧ t.mru = { s.mru with line := t.mru.line }
  ∧ t.btk = { s.btk with train := t.btk.train, gateOpen := t.btk.gateOpen, noMotionTimer := t.btk.noMotionTimer,
                         faultCondition := t.btk.faultCondition }
  ∧ t.btk.train.map identity = s.btk.train.map identity
  ∧ t.pot.level = s.pot.level ∧ t.pot.levelWindow = s.pot.levelWindow ∧ t.pot.ignored = s.pot.ignored
  ∧ t.phm.captures = s.phm.captures
  ∧ t.flx.lastAccounted = s.flx.lastAccounted ∧ t.flx.lateEdges = s.flx.lateEdges ∧ t.flx.tank = s.flx.tank

/-- From `s` to `t` nothing is changed but what an evaluation of admission changes (R72): the gate command, the record of O20,
and LIF's command stores for its COMMAND cell. -/
def GateOnly (s t : State) : Prop :=
  t = { s with btk := { s.btk with gateOpen := t.btk.gateOpen },
               out := { s.out with records := vset s.out.records (O 20) (outputRecord t (O 20)) },
               lif := { s.lif with commandQueue := t.lif.commandQueue, deferredSet := t.lif.deferredSet } }

/-! ## Invariants -/

/-- LIF's stores and counts are within the ranges of 01 1.1: the command queue holds at most 32 cells, the deferred set at most one
for each output, the carry list at most one for each DEST and channel, the message queue at most 16 cells. -/
def LifSound (l : Lif) : Prop :=
  l.commandQueue.length ≤ 32 ∧ l.messageQueue.length ≤ 16
  ∧ l.deferredSet.Pairwise (fun c d => c.output < d.output)
  ∧ l.carryList.Pairwise (fun c d => ¬(c.dest = d.dest ∧ c.channel = d.channel))
  ∧ l.consecutiveComplete ≤ 4 ∧ l.consecutiveLost ≤ 8 ∧ l.blockCycles ≤ 499
  ∧ l.checkErrors ≤ 65535 ∧ l.blockErrors ≤ 65535 ∧ l.lastBlockErrors ≤ 65535 ∧ l.lateCells ≤ 65535

/-- A signal record keeps to R17 and R18: the stale timer runs exactly while the signal is FRESH, a last GOOD value is there
only after a sample, a status exactly when a sample has arrived, and the count of non-GOOD samples is within its range. -/
def SignalSound (r : SignalRecord) : Prop :=
  (r.staleTimer.isSome = true ↔ r.freshness = .fresh)
  ∧ (r.status.isSome = true ↔ r.freshness ≠ .noData)
  ∧ (r.lastGood.isSome = true → r.freshness ≠ .noData)
  ∧ (r.status = some .good → r.nonGood = 0)
  ∧ r.nonGood ≤ 255

/-- The board numbers of a train are consecutive, the newest one below the next number (R73, R77). -/
def NumbersRun : List Board → BoardNo → Prop
  | [], _ => True
  | b :: rest, next => b.number = next - BitVec.ofNat 16 (rest.length + 1) ∧ NumbersRun rest next

/-- BTK's lists are within the ranges of 05: at most 12 records, 8 exit reports and 9 positions; v8 is what R67 makes of the
speed history; the board numbers run on (R77); and a record with a defect has disposition REWORK (R78). -/
def TrainSound (b : Btk) : Prop :=
  b.train.length ≤ 12 ∧ b.exits.length ≤ 8 ∧ b.history.length ≤ 9
  ∧ b.v8 = speedOf b.history
  ∧ NumbersRun b.train b.nextNumber
  ∧ ∀ r ∈ b.train, r.defects ≠ 0 → r.disposition = .rework

/-- How many records of the train name a slot and bank (R60). -/
def namedBy (train : List Board) (at' : SlotIx × BankId) : Nat := (train.filter fun b => b.bank == some at').length

/-- The reference count of a bank equals the number of train records that name it (R60). -/
def ReferencesAgree (s : State) : Prop :=
  ∀ (i : SlotIx) (bank : BankId), (slotBank s.tbs.slots[i] bank).references = namedBy s.btk.train (i, bank)

/-- The hold phase lives inside RUN and DRAINING (03 3.2), an episode in progress has its record (R186), the stop and the
resume timer run only in their phases (R190), and the lists and counts of 12 are within their ranges. -/
def HoldSound (s : State) : Prop :=
  (s.hld.phase ≠ .none → s.mru.line = .run ∨ s.mru.line = .draining)
  ∧ (s.hld.phase ≠ .none → s.hld.record.isSome = true)
  ∧ (s.hld.stopTimer.isSome = true → s.hld.phase = .stopping)
  ∧ (s.hld.resumeTimer.isSome = true → s.hld.phase = .resuming)
  ∧ s.hld.stillCount ≤ 4
  ∧ ∀ r, s.hld.record = some r → r.later.length ≤ 7 ∧ r.notListed ≤ 255

/-- A group is ACTIVE exactly while it has a cause, and its manual flag is set only while it is ACTIVE (R179 to R182). -/
def GroupsSound (s : State) : Prop :=
  ∀ g : Group, ((groupRecord s g).active = true ↔ (groupRecord s g).cause.isSome = true)
    ∧ ((groupRecord s g).manual = true → (groupRecord s g).active = true)

/-- POT's counts are within the ranges of 09: five gauge distances at most, the at-speed flag set only with its count at 3, the
ineffective count at most 3, and the melt dwell timer running only in MELTING (R138). -/
def PotSound (p : Pot) : Prop :=
  p.levelWindow.length ≤ 5
  ∧ (∀ w, (pumpOf p w).atSpeedCount ≤ 3 ∧ ((pumpOf p w).atSpeed = true → (pumpOf p w).atSpeedCount = 3))
  ∧ p.feeder.ineffective ≤ 3 ∧ p.ignored ≤ 65535
  ∧ (p.meltTimer.isSome = true → p.state = .melting)

/-- Every integrator is within its bounds and every invalid count within its range (07 7.1). -/
def LoopsSound (t : Tle) : Prop :=
  ∀ l : LoopIx, -4096000 ≤ (t.loops[l]).integrator ∧ (t.loops[l]).integrator ≤ 4096000 ∧ (t.loops[l]).invalidCount ≤ 255

/-- The delivered command of every output but O21 is the one that R23 forms from its record. -/
def DeliveredFormed (s : State) : Prop := ∀ o : OutIx, o ≠ O 21 → (outputRecord s o).delivered = deliveredValue s o

/-- The gate is commanded OPEN only while the line state is RUN, the hold phase is NONE and the train holds fewer than 12
records (R72). -/
def GateSafe (s : State) : Prop :=
  s.btk.gateOpen = true → s.mru.line = .run ∧ s.hld.phase = .none ∧ s.btk.train.length < 12

/-- A cutoff group is ACTIVE whenever an alarm linked to it is ACTIVE or LATCHED (R179). -/
def LinkedGroupsActive (s : State) : Prop :=
  ∀ (a : AlarmIx) (g : Group), groupLink (s.tbs.alarms[a]).links g = true → alarmSet s a = true → groupActive s g = true

/-- While the forcing flag is set no nozzle is open and no segment is OPEN or ENDING (R100). -/
def NozzlesForced (f : Flx) : Prop :=
  f.forcing = true → (∀ n : NozzleIx, (f.nozzles[n]).view.isOpen = false) ∧ ∀ r ∈ f.sprays, r.segments.any isSpraying = false

/-- A field map names its fields in rising order of item and field number, each once (04 4.2). -/
def SortedFields (m : FieldMap) : Prop := m.Pairwise fun x y => x.1 < y.1 ∨ (x.1 = y.1 ∧ x.2.1 < y.2.1)

/-- Every staging buffer, every table and every recipe bank names its fields in order, each once. -/
def TablesSorted (s : State) : Prop :=
  (∀ k b, stagingOf s.mru.staging k = some b → SortedFields b.fields)
  ∧ SortedFields s.tbs.channel ∧ SortedFields s.tbs.output ∧ SortedFields s.tbs.geometry ∧ SortedFields s.tbs.line
  ∧ SortedFields s.tbs.limits ∧ SortedFields s.tbs.tuning
  ∧ ∀ (i : SlotIx) (bank : BankId), SortedFields (slotBank s.tbs.slots[i] bank).fields

/-- A safe state: every invariant above holds. -/
def Safe (s : State) : Prop :=
  LifSound s.lif ∧ (∀ i : SigIx, SignalSound s.sig[i]) ∧ TrainSound s.btk ∧ ReferencesAgree s ∧ HoldSound s ∧ GroupsSound s
    ∧ LinkedGroupsActive s ∧ NozzlesForced s.flx ∧ TablesSorted s ∧ PotSound s.pot ∧ LoopsSound s.tle ∧ DeliveredFormed s ∧ GateSafe s

/-- A run is safe when every state of it is, unless an event outran the model's budget (log entry 5). -/
def SafeRun (states : List State) : Prop := ∀ s ∈ states, s.overrun = true ∨ Safe s

end Sys2Proof.Machine
end

