-- ==== Sys2Proof/WellFormed.lean ====
section
/-! DEFINITION. Well-formed commands: a command that carries a cell carries one that a node of the loop may send by the cell
formats of 01 1.8. The machine takes the others too: the tests of R4 and R30 decide them. -/

namespace Sys2Proof

/-- What is wrong with a command. -/
inductive IllFormed where
  /-- SRC is above 62 (01 1.8). -/
  | badSource
  /-- DEST is above 63 (01 1.8). -/
  | badDestination
  /-- TAG is not 0 in a kind other than REQUEST and REPLY (01 1.8). -/
  | badTag
  /-- A byte that the kind does not use is not 0 (01 1.8). -/
  | unusedByte
  /-- CHECK does not match bytes 0 to 13 (R5). -/
  | badCheck
  /-- An UNKNOWN_REQUEST carries a code of the table, 1 to 23 (R30). -/
  | knownCode
  /-- A CYCLE_END carries a source other than the part (R3). -/
  | foreignCycleEnd
  /-- A cell named as discarded is the part's own CYCLE_END, which R3 handles (R4). -/
  | notDiscarded
  deriving DecidableEq, Repr

/-- The tests of a cell's bytes; `tagged` for a REQUEST, `unused` for the bytes the kind does not use. -/
def checkCell (c : RawCell) (tagged : Bool) (unused : Bool) : Option IllFormed :=
  if 62 < c.src.toNat then some .badSource
  else if 63 < c.dest.toNat then some .badDestination
  else if !tagged && c.tag != 0 then some .badTag
  else if unused then some .unusedByte
  else if c.check ≠ Machine.checkOf c then some .badCheck
  else none

/-- What is wrong with a command, if anything. -/
def illFormed (i : Instr) : Option IllFormed :=
  match i with
  | .powerOnReset | .cycleStart | .degradationBlockComplete | .staleTimerExpiry _ | .noMotionTimerExpiry
  | .meltDwellExpiry | .setbackTimerExpiry | .pumpGraceExpiry _ | .feedTimerExpiry | .settleTimerExpiry
  | .fanGraceExpiry _ | .stopTimerExpiry | .resumeTimerExpiry => none
  | .cycleEnd c =>
    if c.src ≠ 0 then some .foreignCycleEnd else checkCell (Machine.cycleEndRaw c) false (c.unused != 0)
  | .cellDiscarded c =>
    if Machine.verdict true c = .ownCycleEnd then some .notDiscarded else none
  | .sample c => checkCell (Machine.sampleRaw c) false false
  | .completion c => checkCell (Machine.completionRaw c) false (c.unused != 0)
  | .unknownRequest code r =>
    if 1 ≤ code.toNat ∧ code.toNat ≤ 23 then some .knownCode else checkCell (Machine.requestRaw code r) true false
  | .stage r | .commit r | .discard r | .read r | .removeRecipe r | .lockLimits r | .start r | .stop r | .hold r
  | .ackHold r | .setDisposition r | .resume r | .selectNext r | .setSpeed r | .enterMaintenance r
  | .leaveMaintenance r | .setOutput r | .restart r | .ackAlarm r | .forceCutoff r | .clearCutoff r | .feedNow r
  | .setback r =>
    match Machine.requestOf i with
    | some q => checkCell (Machine.requestRaw q.1 r) true false
    | none => none

/-- The command is well-formed. -/
def wellFormed (i : Instr) : Bool := (illFormed i).isNone

end Sys2Proof
end

