-- ==== Sys2Proof/Certificates/Slice0/Obligations.lean ====
section
/-! DEFINITION. The statements for the provers. Each docstring names the rules of spec/ it comes from; OBLIGATIONS.json lists
them in the same order. -/

section

open Sys2Proof Sys2Proof.Machine

/-! ## The machine -/

/-- 00_scope.md 1.3: a step takes the command at the front of the queue and runs it with the queue's rest; on an empty queue the
part idles (the model's choice, log entry 2). -/
def Obligations.StepTakesFrontCommand : Prop :=
  (∀ (c : Instr) (rest : List Instr) (s : State), step { s with pending := c :: rest } = exec c { s with pending := rest })
  ∧ ∀ s : State, step { s with pending := [] } = .next { s with pending := [] }

/-- R13, R21, R29, R45, R64, R86, R104, R122, R135, R158, R168, R183, R196: what power-on reset leaves, whatever the state before
it. -/
def Obligations.PowerOnResetValues : Prop :=
  ∀ s : State, ∃ t, exec .powerOnReset s = .next t
    ∧ (t.lif.cycle = 0 ∧ t.lif.openCycle = false ∧ t.lif.loopState = .starting ∧ t.lif.consecutiveComplete = 0
      ∧ t.lif.consecutiveLost = 0 ∧ t.lif.blockCycles = 0 ∧ t.lif.blockErrors = 0 ∧ t.lif.lastBlockErrors = 0
      ∧ t.lif.checkErrors = 0 ∧ t.lif.lateCells = 0 ∧ t.lif.commandQueue = [] ∧ t.lif.carryList = []
      ∧ t.lif.deferredSet = [] ∧ t.lif.messageQueue = [])
    ∧ (∀ i : SigIx, t.sig[i] = ⟨none, none, 0, .noData, 0, none⟩)
    ∧ (∀ o : OutIx, outputRecord t o = ⟨0, none, 0, 0⟩) ∧ t.out.operation = none
    ∧ (t.mru.line = .unconfigured ∧ t.mru.configured = ⟨false, false, false, false, false, false⟩ ∧ t.mru.lineSpeed = none
      ∧ t.mru.nextSlot = 0 ∧ t.mru.limitsLock = false ∧ t.mru.dropped = 0 ∧ ∀ k, stagingOf t.mru.staging k = none)
    ∧ (t.tbs.channel = [] ∧ t.tbs.output = [] ∧ t.tbs.geometry = [] ∧ t.tbs.line = [] ∧ t.tbs.limits = [] ∧ t.tbs.tuning = []
      ∧ (∀ o : OutIx, t.tbs.outputCommitted[o] = false) ∧ (∀ a : AlarmIx, t.tbs.alarms[a] = alarmDefault a)
      ∧ ∀ i : SlotIx, t.tbs.slots[i] = ⟨⟨false, [], 0⟩, ⟨false, [], 0⟩, .a⟩)
    ∧ (t.btk.position = 0 ∧ t.btk.reference = none ∧ t.btk.history = [] ∧ t.btk.v8 = none ∧ t.btk.gap = false
      ∧ t.btk.entryFilter.level = false ∧ t.btk.entryFilter.runCount = 0 ∧ t.btk.exitFilter.level = false
      ∧ t.btk.exitFilter.runCount = 0 ∧ t.btk.entryBoard = none ∧ t.btk.lastEntryTail = none ∧ t.btk.exitMatch = .none
      ∧ t.btk.gateOpen = false ∧ t.btk.train = [] ∧ t.btk.nextNumber = 0 ∧ t.btk.exits = [] ∧ t.btk.noMotionTimer = none
      ∧ t.btk.faultCondition = false)
    ∧ (t.flx.edges = [] ∧ t.flx.sprays = [] ∧ t.flx.forcing = true ∧ t.flx.lateEdges = 0 ∧ t.flx.tank = .unknown
      ∧ t.flx.lastAccounted = none
      ∧ ∀ n : NozzleIx, (t.flx.nozzles[n]).view = ⟨false, 0, none⟩ ∧ (t.flx.nozzles[n]).planStart = ⟨false, 0, none⟩
        ∧ (t.flx.nozzles[n]).planChanges = [])
    ∧ (∀ l : LoopIx, t.tle.loops[l] = ⟨none, 0, 0, 0, none, none, false, false⟩)
    ∧ (t.phm.captures = [] ∧ t.phm.phase = .none
      ∧ ∀ z : ZoneIx, t.phm.governing[z] = none ∧ t.phm.span[z] = none)
    ∧ (t.pot.temperature = none ∧ t.pot.state = .cold ∧ t.pot.meltTimer = none ∧ t.pot.setbackTimer = none
      ∧ (∀ w, pumpOf t.pot w = ⟨none, 0, false, none, false⟩) ∧ t.pot.waves = [] ∧ t.pot.levelWindow = [] ∧ t.pot.level = none
      ∧ t.pot.feeder = ⟨.idle, 0, none, 0, false, 0, none, none⟩ ∧ t.pot.debt = 0 ∧ t.pot.ignored = 0)
    ∧ (∀ d, ductOf t.exm d = ⟨.base, 0, 0, 0, none, false, false, false⟩) ∧ t.exm.flame = false
    ∧ (∀ a : AlarmIx, t.acu.alarms[a] = ⟨.clear, 0, 0, none⟩) ∧ (∀ g, groupRecord t g = ⟨false, false, none⟩)
    ∧ t.acu.a41Btk = false ∧ t.acu.a41Hld = false
    ∧ t.hld = ⟨.none, 0, none, none, none, 0, false⟩

/-- R13, R21, R29, R45, R64, R86, R104, R122, R158, R183, R196: the state that power-on reset leaves is safe: it meets every invariant
stated below. -/
def Obligations.ResetStateIsSafe : Prop := Safe State.reset

/-! ## Invariants that every step keeps -/

/-- 01 1.1, R1, R9, R10, R11, R12: no step takes LIF's stores and counts out of their ranges, the block cycle count and the message
queue among them; the deferred set holds at most one cell for each output, the carry list at most one for each DEST and channel. -/
def Obligations.LifStaysSound : Prop := ∀ s t : State, LifSound s.lif → step s = .next t → LifSound t.lif

/-- R17, R18, R19: every signal's stale timer runs exactly while the signal is FRESH, and the other fields of its record agree
with its freshness. -/
def Obligations.SignalsStaySound : Prop :=
  ∀ s t : State, (∀ i : SigIx, SignalSound s.sig[i]) → step s = .next t → ∀ i : SigIx, SignalSound t.sig[i]

/-- R67, R73, R77, R78, R84: the train holds at most 12 records with consecutive numbers, the exit history at most 8 reports, v8
is that of the speed history, and a record with a defect has disposition REWORK. -/
def Obligations.TrainStaysSound : Prop := ∀ s t : State, TrainSound s.btk → step s = .next t → TrainSound t.btk

/-- 03 3.2, R185, R186, R188, R190: the hold phase is NONE outside RUN and DRAINING, an episode in progress has its record, each
timer runs only in its phase, and the later causes are at most seven. -/
def Obligations.HoldStaysSound : Prop := ∀ s t : State, HoldSound s → step s = .next t → HoldSound t

/-- R179, R180, R182, R184: a cutoff group has a cause exactly while it is ACTIVE, and its manual flag is set only while it is
ACTIVE; and a group is ACTIVE whenever an alarm linked to it is ACTIVE or LATCHED (unless an event outran the model's budget, log
entry 5). -/
def Obligations.GroupsStaySound : Prop :=
  (∀ s t : State, GroupsSound s → step s = .next t → GroupsSound t)
  ∧ ∀ s t : State, LinkedGroupsActive s → step s = .next t → t.overrun = true ∨ LinkedGroupsActive t

/-- R138, R145, R151, R154, R156, R110, R114: POT's window, counts and flags stay within their ranges, the melt dwell timer runs
only in MELTING, and no thermal loop's integrator or invalid count leaves its bounds. -/
def Obligations.PotAndLoopsStayBounded : Prop :=
  (∀ s t : State, PotSound s.pot → step s = .next t → PotSound t.pot)
  ∧ ∀ s t : State, LoopsSound s.tle → step s = .next t → LoopsSound t.tle

/-- R23, R24, R25, R38, R71, R72, R100, R101, R104: after every step the delivered command of every output but the feeder is the one
that its record, its group and the tables form, and the gate is commanded OPEN only in RUN with hold phase NONE and room in the
train (both unless an event outran the model's budget, log entry 5); and while the forcing flag is set no nozzle is open and no
segment sprays. -/
def Obligations.OutputsStaySafe : Prop :=
  (∀ s t : State, DeliveredFormed s → step s = .next t → t.overrun = true ∨ DeliveredFormed t)
  ∧ (∀ s t : State, GateSafe s → step s = .next t → t.overrun = true ∨ GateSafe t)
  ∧ ∀ s t : State, NozzlesForced s.flx → step s = .next t → NozzlesForced t.flx

/-- 04 4.2, R47, R49, R60, R64: the staging buffers and the committed tables hold at most one value for each item and field, and the
reference count of every bank equals the number of train records that name the slot and bank. -/
def Obligations.TablesStaySound : Prop :=
  (∀ s t : State, TablesSorted s → step s = .next t → TablesSorted t)
  ∧ ∀ s t : State, ReferencesAgree s → step s = .next t → ReferencesAgree t

/-! ## Rules over all commands -/

/-- R171, R173, R176, R184: an alarm of class HARD that is ACTIVE or LATCHED stays ACTIVE or LATCHED, whatever the command, unless
it is power-on reset, an ACK_ALARM that names the alarm, or a COMMIT (which may change its class). -/
def Obligations.HardAlarmsStaySet : Prop :=
  ∀ (c : Instr) (s t : State) (a : AlarmIx), c ≠ .powerOnReset →
    (∀ code r, carriedRequest c = some (code, r) → code ≠ 2 ∧ (code = 19 → reqByte r 6 ≠ a.val)) →
    (s.tbs.alarms[a]).cls = .hard → alarmSet s a = true → exec c s = .next t → alarmSet t a = true

/-- R51, R60, R61, R64: only power-on reset clears the limits lock; while it is set LIMITS changes in MAINTENANCE alone; in RUN and
DRAINING no command changes CHANNEL, OUTPUT, GEOMETRY, LINE, LIMITS or ALARM; and in no line state does a command change the fields
of a recipe bank whose reference count is above zero. -/
def Obligations.ConfigurationIsProtected : Prop :=
  ∀ (c : Instr) (s t : State), c ≠ .powerOnReset → exec c s = .next t →
    (s.mru.limitsLock = true → t.mru.limitsLock = true)
    ∧ (s.mru.limitsLock = true → s.mru.line ≠ .maintenance → t.tbs.limits = s.tbs.limits)
    ∧ (s.mru.line = .run ∨ s.mru.line = .draining →
        t.tbs.channel = s.tbs.channel ∧ t.tbs.output = s.tbs.output ∧ t.tbs.outputCommitted = s.tbs.outputCommitted
        ∧ t.tbs.geometry = s.tbs.geometry ∧ t.tbs.line = s.tbs.line ∧ t.tbs.limits = s.tbs.limits
        ∧ t.tbs.alarms = s.tbs.alarms)
    ∧ ∀ (i : SlotIx) (bank : BankId), 0 < (slotBank s.tbs.slots[i] bank).references →
        (slotBank t.tbs.slots[i] bank).fields = (slotBank s.tbs.slots[i] bank).fields

/-- 03 3.2: RUN is entered by START alone, DRAINING by STOP alone, MAINTENANCE by ENTER_MAINTENANCE alone and UNCONFIGURED by
power-on reset alone. -/
def Obligations.LineStatesEnteredByTheirRequests : Prop :=
  ∀ (c : Instr) (s t : State), exec c s = .next t → t.mru.line ≠ s.mru.line →
    (t.mru.line = .run → ∃ r, carriedRequest c = some (7, r))
    ∧ (t.mru.line = .draining → ∃ r, carriedRequest c = some (8, r))
    ∧ (t.mru.line = .maintenance → ∃ r, carriedRequest c = some (15, r))
    ∧ (t.mru.line = .unconfigured → c = .powerOnReset)

/-! ## The loop -/

/-- 01 1.8: the cell that a well-formed command carries spells that command, with every byte of it. -/
def Obligations.CellsSpellTheirCommands : Prop :=
  ∀ (i : Instr) (c : RawCell), wellFormed i = true → cellOf i = some c → commandOfCell c = i

/-- R4: what CELL_DISCARDED does with a cell's bytes. A cell that no owner takes is discarded with the count its row names; any
other cell does what the command it spells does (log entry 4). -/
def Obligations.CellsTakenByTheTestsOfR4 : Prop :=
  ∀ (c : RawCell) (s : State),
    exec (.cellDiscarded c) s =
      if c.check ≠ checkOf c then
        .next { s with lif := { s.lif with checkErrors := min 65535 (s.lif.checkErrors + 1),
                                           blockErrors := min 65535 (s.lif.blockErrors + 1) } }
      else if c.kind = 2 ∧ c.src = 0 then exec (.cycleEnd (cycleEndOfRaw c)) s
      else if c.src = 0 then .next s
      else if s.lif.openCycle = false then
        .next { s with lif := { s.lif with lateCells := min 65535 (s.lif.lateCells + 1) } }
      else if c.dest ≠ 0 ∧ c.dest ≠ 63 then .next s
      else if c.kind = 3 then exec (.sample (sampleOfRaw c)) s
      else if c.kind = 7 then exec (requestCommand (requestOfRaw c).1 (requestOfRaw c).2) s
      else if c.kind = 6 then exec (.completion (completionOfRaw c)) s
      else .next s

/-- R3, and the complete-cycle column of R6: the part's own CYCLE_END closes the open cycle it names, and any other one is
counted as a late cell. -/
def Obligations.CycleEndClosesOrCounts : Prop :=
  ∀ (c : CycleEndCell) (s : State), c.src = 0 → c.check = checkOf (cycleEndRaw c) →
    exec (.cycleEnd c) s =
      if s.lif.openCycle = true ∧ s.lif.cycle = c.cycle then
        .next { s with lif := { s.lif with
          openCycle := false, consecutiveLost := 0, consecutiveComplete := min 4 (s.lif.consecutiveComplete + 1),
          loopState := if s.lif.loopState ≠ .up ∧ min 4 (s.lif.consecutiveComplete + 1) = 4 then .up else s.lif.loopState } }
      else .next { s with lif := { s.lif with lateCells := min 65535 (s.lif.lateCells + 1) } }

/-- R1, R6, and what a cycle start leaves alone: the count, the open-cycle flag, the outcome of a cycle that was still open, and
the degradation block. Where the loop goes DOWN the event must not outrun the model's budget (log entry 5). -/
def Obligations.CycleStartOpensCycle : Prop :=
  ∀ s : State, ∃ t, exec .cycleStart s = .next t
    ∧ ((s.lif.openCycle = true ∧ s.lif.loopState = .up ∧ 7 ≤ s.lif.consecutiveLost → t.overrun = false) →
        t.lif.cycle = s.lif.cycle + 1 ∧ t.lif.openCycle = true
        ∧ (s.lif.openCycle = false → t.lif.loopState = s.lif.loopState ∧ t.lif.consecutiveLost = s.lif.consecutiveLost
            ∧ t.lif.consecutiveComplete = s.lif.consecutiveComplete)
        ∧ (s.lif.openCycle = true →
            t.lif.consecutiveComplete = 0 ∧ t.lif.consecutiveLost = min 8 (s.lif.consecutiveLost + 1)
            ∧ t.lif.loopState =
                if s.lif.loopState = .up ∧ min 8 (s.lif.consecutiveLost + 1) = 8 then .down else s.lif.loopState)
        ∧ (s.lif.blockCycles + 1 < 500 → t.lif.blockCycles = s.lif.blockCycles + 1
            ∧ t.lif.blockErrors = s.lif.blockErrors ∧ t.lif.lastBlockErrors = s.lif.lastBlockErrors)
        ∧ (500 ≤ s.lif.blockCycles + 1 → t.lif.blockCycles = 0 ∧ t.lif.blockErrors = 0
            ∧ t.lif.lastBlockErrors = s.lif.blockErrors)
        ∧ t.lif.checkErrors = s.lif.checkErrors ∧ t.lif.lateCells = s.lif.lateCells
        ∧ t.lif.messageQueue = s.lif.messageQueue.drop 6 ∧ t.lif.carryList = []
        ∧ t.sig = s.sig ∧ t.tbs = s.tbs ∧ t.pending = s.pending ∧ t.mru = { s.mru with line := t.mru.line }
        ∧ t.btk.position = s.btk.position ∧ t.btk.train.map identity = s.btk.train.map identity)

/-- R2: the train that a cycle start sends, its size, and what a train build leaves behind, down to its last step, the move of the
deferred set into the queue. That the train is built from the queue as it stood before the cycle start, so that no COMMAND handed
at the same cycle start leaves in it, is the model's order (DESIGN CHOICE, log entry 6); that the carried cells leave in the order
of the carry list is its choice too (log entry 39). The clause on late edges counts every TIMED_COMMAND that is left in the queue, the closes of ENDING
segments too: that is the model's choice of R2 and the first sentence of R94 over the last sentence of R94 (DESIGN CHOICE, log
entry 64). Where the loop goes DOWN at the cycle start, the event must not outrun the
model's budget (log entry 5), and the command cells are not stated. -/
def Obligations.TrainSentInOrder : Prop :=
  (∀ s : State, ¬(s.lif.openCycle = true ∧ s.lif.loopState = .up ∧ 7 ≤ s.lif.consecutiveLost) → ∃ t, exec .cycleStart s = .next t
    ∧ t.lif.sent =
        [ownCell 63 1 0 (bytes4 (s.lif.cycle + 1).toNat), ownCell 63 10 0 (statusPayload s)]
        ++ ((dropOvertaken s.lif.carryList s.lif.commandQueue).take (20 - s.lif.carryList.length)).map queuedBytes
        ++ s.lif.carryList.map (fun c => timedBytes { c with delay := 0 })
        ++ (s.lif.messageQueue.take 6).map messageBytes
        ++ [ownCell 63 2 0 (bytes4 (s.lif.cycle + 1).toNat)])
  ∧ (∀ s : State, ∃ t, exec .cycleStart s = .next t
    ∧ (t.overrun = false → ∃ status commands, t.lif.sent =
        [ownCell 63 1 0 (bytes4 (s.lif.cycle + 1).toNat), ownCell 63 10 0 status] ++ commands
        ++ (s.lif.messageQueue.take 6).map messageBytes
        ++ [ownCell 63 2 0 (bytes4 (s.lif.cycle + 1).toNat)]))
  ∧ (∀ s : State, s.lif.carryList.length ≤ 20 → (buildTrain s).lif.sent.length ≤ 29)
  ∧ (∀ (s : State) (c : TimedCell), .timed c ∈ (buildTrain s).lif.commandQueue → c.delay = 0)
  ∧ (∀ s : State, s.lif.commandQueue.length ≤ 32 → (buildTrain s).lif.commandQueue.length ≤ 32)
  ∧ (∀ s : State,
      (let left := (dropOvertaken s.lif.carryList s.lif.commandQueue).drop (20 - s.lif.carryList.length)
       (buildTrain s).flx.lateEdges = min 65535 (s.flx.lateEdges + (left.filter isTimed).length)
       ∧ ∃ moved, s.lif.deferredSet = moved ++ (buildTrain s).lif.deferredSet
          ∧ (∀ (i : Nat) (c : CommandCell), left[i]? = some (.command c) → (buildTrain s).lif.commandQueue[i]? = some (.command c))
          ∧ (∀ (i : Nat) (c : TimedCell), left[i]? = some (.timed c) →
              (buildTrain s).lif.commandQueue[i]? = some (.timed { c with delay := 0 }))
          ∧ (buildTrain s).lif.commandQueue.drop left.length = moved.map QueuedCell.command
          ∧ ((buildTrain s).lif.deferredSet = [] ∨ 32 ≤ left.length + moved.length)))

/-- R9: the four rows by which LIF takes a COMMAND; queued TIMED_COMMANDs keep their places. A queued COMMAND that is replaced takes the
new payload, its bytes 4 to 13, and keeps its DEST: the model reads `payload` as the field of that name of 01 1.8 (DEDUCED, log
entry 11). -/
def Obligations.CommandQueueTakesCommands : Prop :=
  ∀ (c : CommandCell) (l : Lif),
    ((∃ d, QueuedCell.command d ∈ l.commandQueue ∧ d.output = c.output) →
      (takeCommand c l).commandQueue.length = l.commandQueue.length
      ∧ (∀ (i : Nat) (d : CommandCell), l.commandQueue[i]? = some (.command d) → (takeCommand c l).commandQueue[i]? =
          some (.command (if d.output = c.output then { c with dest := d.dest } else d)))
      ∧ (∀ (i : Nat) (d : TimedCell), l.commandQueue[i]? = some (.timed d) → (takeCommand c l).commandQueue[i]? = some (.timed d))
      ∧ (takeCommand c l).deferredSet = l.deferredSet)
    ∧ ((∀ d, QueuedCell.command d ∈ l.commandQueue → d.output ≠ c.output) →
        (l.deferredSet.Pairwise (fun d e => d.output < e.output) → (∃ d ∈ l.deferredSet, d.output = c.output) →
          (takeCommand c l).commandQueue = l.commandQueue
          ∧ (takeCommand c l).deferredSet = l.deferredSet.map fun d => if d.output = c.output then c else d)
        ∧ ((∀ d ∈ l.deferredSet, d.output ≠ c.output) →
            (l.commandQueue.length < 32 → takeCommand c l = { l with commandQueue := l.commandQueue ++ [.command c] })
            ∧ (32 ≤ l.commandQueue.length → (takeCommand c l).commandQueue = l.commandQueue
                ∧ (takeCommand c l).deferredSet.Perm (c :: l.deferredSet))))
    ∧ (takeCommand c l).commandQueue.filter isTimed
        = l.commandQueue.filter isTimed ∧ (takeCommand c l).carryList = l.carryList

/-- R1, R8, R171, R178: the end of a degradation block, with the table of R171 for A1, and nothing for a masked A1 (R178). Where A1
has no link (as R170 gives it) nothing else changes; with links, what follows from them leaves the rest undisturbed. That the
command ends a block at any block cycle count is the model's choice (DESIGN CHOICE, log entry 3). -/
def Obligations.DegradationBlockEnds : Prop :=
  ∀ s : State, ∃ t, exec .degradationBlockComplete s = .next t
    ∧ (let ended : State :=
         { s with lif := { s.lif with lastBlockErrors := s.lif.blockErrors, blockErrors := 0, blockCycles := 0 } }
       let degraded : Prop := s.mru.configured.line = true ∧ degradedThreshold s.tbs ≤ s.lif.blockErrors
       let old := s.acu.alarms[A 1]
       let new := t.acu.alarms[A 1]
       let e := s.tbs.alarms[A 1]
       let raisedNow : AlarmRecord := ⟨.active, 0, min 255 (old.occurrences + 1), some s.lif.cycle⟩
       Undisturbed ended t
       ∧ (e.masked = true → t = ended)
       ∧ (e.masked = false → e.links = 0 → t = { ended with acu := { s.acu with alarms := vset s.acu.alarms (A 1) new } })
       ∧ (e.masked = false →
          (old.state = .clear → ¬degraded → new = old)
          ∧ (old.state = .clear → degraded → e.delay = 0 → new = raisedNow)
          ∧ (old.state = .clear → degraded → 0 < e.delay → new = { old with state := .pending, count := 0 })
          ∧ (old.state = .pending → degraded → e.delay ≤ old.count + 1 → new = raisedNow)
          ∧ (old.state = .pending → degraded → old.count + 1 < e.delay → new = { old with count := old.count + 1 })
          ∧ (old.state = .pending → ¬degraded → new = { old with state := .clear, count := 0 })
          ∧ (old.state = .active → degraded → new = old)
          ∧ (old.state = .active → ¬degraded → e.cls = .soft → new = { old with state := .clear })
          ∧ (old.state = .active → ¬degraded → e.cls = .hard → new = { old with state := .latched })
          ∧ (old.state = .latched → degraded → new = raisedNow)
          ∧ (old.state = .latched → ¬degraded → new = old)))

/-! ## Requests -/

/-- R11: a REQUEST that passes the tests of R4 is executed at its arrival and its REPLY joins the tail of the message queue, with
DEST its SRC and its TAG, if the queue has a free place; if it is full the request is discarded and counted. -/
def Obligations.RequestsAnsweredAtTheirArrival : Prop :=
  ∀ (c : Instr) (code : Word16) (r : ReqCell) (s : State), requestOf c = some (code, r) →
    verdict s.lif.openCycle (requestRaw code r) = .toMru →
    (16 ≤ s.lif.messageQueue.length → exec c s = .next { s with mru := { s.mru with dropped := min 255 (s.mru.dropped + 1) } })
    ∧ (s.lif.messageQueue.length < 16 → ∃ t status data, exec c s = .next t
        ∧ t.lif.messageQueue = s.lif.messageQueue ++ [.reply r.src r.tag status data])

/-- R30 (its first two rows), R31: a code outside 1 to 23 is refused with UNKNOWN_REQUEST, and a request from a source that may
not send it with NOT_PERMITTED; neither changes any state but the message queue. R32: a request in a line state not named for it is
refused with STATE; the requests named "(no effect)" reply OK and change nothing; an index operand out of range is refused with
BAD_INDEX. -/
def Obligations.RequestsPassTheGate : Prop :=
  (∀ (c : Instr) (code : Word16) (r : ReqCell) (s : State), requestOf c = some (code, r) →
    verdict s.lif.openCycle (requestRaw code r) = .toMru → s.lif.messageQueue.length < 16 →
    (code = 0 ∨ 23 < code.toNat → exec c s = .next (pushReply r.src r.tag .unknownRequest noData s))
    ∧ (1 ≤ code.toNat → code.toNat ≤ 23 → s.mru.configured.line = true → r.src ≠ controllerAddress s.tbs →
        ¬(r.src = panelAddress s.tbs ∧ panelAddress s.tbs ≠ 0 ∧ (code = 4 ∨ code = 9 ∨ code = 19 ∨ code = 20)) →
        exec c s = .next (pushReply r.src r.tag .notPermitted noData s)))
  ∧ (∀ (c : Instr) (code : Word16) (r : ReqCell) (s : State), requestOf c = some (code, r) → accepted code r s →
    ¬takenIn code.toNat s → exec c s = .next (pushReply r.src r.tag .state noData s))
  ∧ (∀ (r : ReqCell) (s : State),
      (accepted 7 r s → s.mru.line = .run → exec (.start r) s = .next (pushReply r.src r.tag .ok (lineData s) s))
      ∧ (accepted 8 r s → s.mru.line = .draining → exec (.stop r) s = .next (pushReply r.src r.tag .ok (lineData s) s))
      ∧ (accepted 15 r s → s.mru.line = .maintenance →
          exec (.enterMaintenance r) s = .next (pushReply r.src r.tag .ok (lineData s) s))
      ∧ (accepted 16 r s → s.mru.line = .standby →
          exec (.leaveMaintenance r) s = .next (pushReply r.src r.tag .ok (lineData s) s)))
  ∧ ∀ (r : ReqCell) (s : State),
      (accepted 13 r s → 15 < reqByte r 6 → exec (.selectNext r) s = .next (pushReply r.src r.tag .badIndex noData s))
      ∧ (accepted 5 r s → 15 < reqByte r 6 → exec (.removeRecipe r) s = .next (pushReply r.src r.tag .badIndex noData s))
      ∧ (accepted 17 r s → s.mru.line = .maintenance → reqByte r 6 = 0 ∨ 23 < reqByte r 6 ∨ reqByte r 6 = 20 ∨ reqByte r 6 = 21 →
          exec (.setOutput r) s = .next (pushReply r.src r.tag .badIndex noData s))
      ∧ (accepted 19 r s → 42 < reqByte r 6 → exec (.ackAlarm r) s = .next (pushReply r.src r.tag .badIndex noData s))
      ∧ (accepted 20 r s → 5 < reqByte r 6 → exec (.forceCutoff r) s = .next (pushReply r.src r.tag .badIndex noData s))
      ∧ (accepted 21 r s → 5 < reqByte r 6 → exec (.clearCutoff r) s = .next (pushReply r.src r.tag .badIndex noData s))

/-! ## Signals and position -/

/-- R16: the status of a sample arrival, with the valid values of the table of 2.1 for every signal. -/
def Obligations.ArrivalStatusDecided : Prop :=
  ∀ (n : Nat) (code : Nat) (v : Word16), 1 ≤ n → n ≤ 23 →
    (let x : Int := if n ≤ 9 then v.toInt else v.toNat
     let within : Prop :=
       if n ≤ 9 then -500 ≤ x ∧ x ≤ 6000
       else if n = 11 ∨ n = 12 ∨ n = 23 then x = 0 ∨ x = 1
       else if n = 14 then x ≤ 1000
       else True
     (code = 0 → within → arrivalStatus (S n) code v = .good)
     ∧ (code = 0 → ¬within → arrivalStatus (S n) code v = .range)
     ∧ (code = 1 → arrivalStatus (S n) code v = .openWire)
     ∧ (code = 2 ∨ code = 3 → arrivalStatus (S n) code v = .range))

/-- R14, R15, R17: a SAMPLE cell that passes the tests of R4 changes the record of each signal that it carries, in position order,
and no other record; the record of a cell's only signal is given by the columns of R17; a cell whose sequence is above 63 changes
nothing. The tables stay, but for the reference counts of the banks. Where the cell carries two signals or more the event must not
outrun the model's budget (log entry 5). -/
def Obligations.SampleArrivalsRecorded : Prop :=
  ∀ (c : SampleCell) (s : State), verdict s.lif.openCycle (sampleRaw c) = .toSig →
    (63 < c.sequence.toNat → exec (.sample c) s = .next s)
    ∧ (c.sequence.toNat ≤ 63 → ∃ t, exec (.sample c) s = .next t
        ∧ ((2 ≤ (arrivalsOf s c).length → t.overrun = false) →
            t.sig = (arrivalsOf s c).foldl (fun v (a : SigIx × Nat × Word16) =>
              vset v a.1 (arrive (channelStaleLimit s.tbs a.1) s.lif.cycle (arrivalStatus a.1 a.2.1 a.2.2)
                (reading a.1 a.2.2) v[a.1])) s.sig)
        ∧ (∀ (i : SigIx) (code : Nat) (v : Word16), arrivalsOf s c = [(i, code, v)] →
            (let x : Int := if i.val < 9 then v.toInt else v.toNat
             let old := s.sig[i]
             let good : Prop := arrivalStatus i code v = .good
             (t.sig[i]).lastGood = (if good then some x else old.lastGood) ∧ (t.sig[i]).status = some (arrivalStatus i code v)
             ∧ (t.sig[i]).nonGood = (if good then 0 else min 255 (old.nonGood + 1)) ∧ (t.sig[i]).freshness = .fresh
             ∧ (t.sig[i]).arrivalCycle = s.lif.cycle ∧ (t.sig[i]).staleTimer = some (channelStaleLimit s.tbs i)))
        ∧ t.tbs = { s.tbs with slots := t.tbs.slots } ∧ t.pending = s.pending
        ∧ (∀ i : SlotIx, (t.tbs.slots[i]).pointer = (s.tbs.slots[i]).pointer ∧ ∀ bank : BankId,
            slotBank t.tbs.slots[i] bank
              = { slotBank s.tbs.slots[i] bank with references := (slotBank t.tbs.slots[i] bank).references })
        ∧ t.mru = { s.mru with line := t.mru.line, dropped := t.mru.dropped }
        ∧ t.lif = { s.lif with commandQueue := t.lif.commandQueue, carryList := t.lif.carryList,
                               deferredSet := t.lif.deferredSet, messageQueue := t.lif.messageQueue })

/-- R65: a GOOD encoder sample moves the position by the count's step, read as signed; the first one sets it to the count. -/
def Obligations.EncoderMovesPosition : Prop :=
  ∀ (c : SampleCell) (s : State) (v : Word16), verdict s.lif.openCycle (sampleRaw c) = .toSig → c.sequence.toNat ≤ 63 →
    arrivalsOf s c = [(S 10, 0, v)] → ∃ t, exec (.sample c) s = .next t
      ∧ t.btk.reference = some v
      ∧ (s.btk.reference = none → t.btk.position = BitVec.ofNat 32 v.toNat)
      ∧ ∀ old, s.btk.reference = some old → t.btk.position = s.btk.position + (v - old).signExtend 32

/-- R105, R107 to R111, R117, R118: a GOOD sample of S1 to S6 that is not above the overtemperature threshold, outside UNCONFIGURED
and with the PREHEAT group INACTIVE, is a computation of its zone loop through the eleven stages; the heater takes its output, and
no other loop record changes. -/
def Obligations.ZoneLoopComputes : Prop :=
  ∀ (c : SampleCell) (s : State) (z : ZoneIx) (v : Word16), verdict s.lif.openCycle (sampleRaw c) = .toSig →
    c.sequence.toNat ≤ 63 → arrivalsOf s c = [(S (z.val + 1), 0, v)] → -500 ≤ v.toInt → v.toInt ≤ 6000 →
    s.mru.line ≠ .unconfigured → groupActive s .preheat = false → 0 ≤ rampRate s.tbs (zoneLoop z) →
    v.toInt ≤ overTempThreshold s.tbs (zoneLoop z) → ∃ t, exec (.sample c) s = .next t
      ∧ (let l := zoneLoop z
         let old := s.tle.loops[l]
         let n : Int := match old.lastComputation with
           | none => 1
           | some k => max 0 (min 8 (signedDiff s.lif.cycle k))
         let goal := clamp 0 (maxSetpoint s.tbs l) (zoneTargetNow s z)
         let start := old.setpoint.getD (clamp 0 (maxSetpoint s.tbs l) v.toInt)
         let reach := rampRate s.tbs l * n
         let sp := if |goal - start| ≤ reach then goal else if start < goal then start + reach else start - reach
         let e := max (-2000) (min 2000 (sp - v.toInt))
         let p := Int.tdiv (gainKp s.tbs l * e) 256
         let f := zoneFeedforwardNow s z
         let candidate := max (-4096000) (min 4096000 (old.integrator + gainKi s.tbs l * e * n))
         let raw := p + Int.tdiv candidate 4096 + f
         let a := if (outputMax s.tbs l < raw ∧ 0 < e) ∨ (raw < 0 ∧ e < 0) then old.integrator else candidate
         let u := clamp 0 (outputMax s.tbs l) (p + Int.tdiv a 4096 + f)
         let out := min (outputMax s.tbs l) (clamp (old.uPrev - slewRate s.tbs l) (old.uPrev + slewRate s.tbs l) u)
         t.tle.loops = vset s.tle.loops l
           ⟨some sp, a, out, 0, some v.toInt, some s.lif.cycle, false, false⟩
         ∧ (outputRecord t (heaterOutput l)).automatic = out.toNat)
      ∧ t.mru = s.mru ∧ t.tbs = s.tbs ∧ t.flx = s.flx ∧ t.phm = s.phm ∧ t.pot = s.pot ∧ t.exm = s.exm ∧ t.hld = s.hld
      ∧ t.acu.groups = s.acu.groups ∧ t.btk = { s.btk with gateOpen := t.btk.gateOpen }

/-- R69, R73, R74, R77: the sample of S11 that confirms a lead edge makes a record at the end of the train, with the next board
number and the position captured at the run's first sample, planned exactly when the gate was commanded OPEN. With 12 records in
the train no record is made (R77). -/
def Obligations.BoardEntersTheTrain : Prop :=
  ∀ (c : SampleCell) (s : State), verdict s.lif.openCycle (sampleRaw c) = .toSig → c.sequence.toNat ≤ 63 →
    arrivalsOf s c = [(S 11, 0, 1)] → s.mru.configured.geometry = true → s.btk.entryFilter.level = false →
    entryFilterCount s.tbs ≤ s.btk.entryFilter.runCount + 1 → ∃ t, exec (.sample c) s = .next t
      ∧ t.btk.entryFilter.level = true
      ∧ (s.btk.train.length < 12 →
          t.btk.nextNumber = s.btk.nextNumber + 1 ∧ t.btk.entryBoard = some s.btk.nextNumber
          ∧ t.btk.train.length = s.btk.train.length + 1
          ∧ ∃ b, t.btk.train.getLast? = some b ∧ b.number = s.btk.nextNumber
            ∧ b.lead = (if s.btk.entryFilter.runCount = 0 then s.btk.position else s.btk.entryFilter.runStamp)
            ∧ b.length = none ∧ b.unplanned = !s.btk.gateOpen
            ∧ b.bank = (if s.btk.gateOpen = true ∨ (admitBank s.tbs.slots[s.mru.nextSlot]).filled = true
                then some (s.mru.nextSlot, (s.tbs.slots[s.mru.nextSlot]).pointer) else none)
            ∧ (s.btk.gateOpen = false → b.disposition = .rework ∧ b.defects &&& 32 = 32))
      ∧ (12 ≤ s.btk.train.length → t.btk.train.length = s.btk.train.length ∧ t.btk.nextNumber = s.btk.nextNumber
          ∧ t.btk.entryBoard = none)

/-- R69, R79, R81, R83, R84, R12, R60: the sample of S12 that confirms an exit edge. A lead edge retires as LOST every head that has
passed the exit window, and then matches the next head or is a phantom; a tail edge retires a matched head, with its exit report as
the newest of the history and as two REPORT cells, and is otherwise ignored. A head that leaves with its loss mark has the defect
TRACK_UNSURE in its report (R197). That a lead edge retires the passed heads in every state, in a gap too and without TRACK_UNSURE,
follows R79 against a sentence of R197 (DESIGN CHOICE, log entry 61). Where a head is retired as LOST or leaves with its loss mark, the event must not outrun the
model's budget (log entry 5). -/
def Obligations.BoardsLeaveTheTrain : Prop :=
  ∀ (c : SampleCell) (s : State) (v : Word16), verdict s.lif.openCycle (sampleRaw c) = .toSig → c.sequence.toNat ≤ 63 →
    arrivalsOf s c = [(S 12, 0, v)] → v = (if s.btk.exitFilter.level then 0 else 1) → s.mru.configured.geometry = true →
    exitFilterCount s.tbs ≤ s.btk.exitFilter.runCount + 1 → s.btk.exits.length ≤ 8 → ∃ t, exec (.sample c) s = .next t
      ∧ t.btk.exitFilter.level = !s.btk.exitFilter.level ∧ t.btk.exitFilter.runCount = 0
      ∧ (s.btk.exitFilter.level = false →
          (let captured := if s.btk.exitFilter.runCount = 0 then s.btk.position else s.btk.exitFilter.runStamp
           let passed : Board → Bool := fun b => decide (exitPosition s.tbs + exitWindow s.tbs < signedDiff captured b.lead)
           let gone := s.btk.train.takeWhile passed
           let left := s.btk.train.dropWhile passed
           let matched : Prop := ∃ b, left.head? = some b ∧ exitPosition s.tbs - exitWindow s.tbs ≤ signedDiff captured b.lead
           (gone ≠ [] → t.overrun = false) →
             t.btk.train.map identity = left.map identity
             ∧ t.btk.exits.map (fun r => (r.number, r.outcome)) =
                 (gone.reverse.map (fun b => (b.number, BoardOutcome.lost)) ++ s.btk.exits.map fun r => (r.number, r.outcome)).take 8
             ∧ (matched → t.btk.exitMatch = .matched ∧ ∃ b, t.btk.train.head? = some b ∧ b.exitMatched = true)
             ∧ (¬matched → t.btk.exitMatch = .phantom ∧ ((s.tbs.alarms[A 38]).masked = false →
                 (t.acu.alarms[A 38]).raiseCycle = some s.lif.cycle))
             ∧ (gone ≠ [] → (s.tbs.alarms[A 37]).masked = false → (t.acu.alarms[A 37]).raiseCycle = some s.lif.cycle)))
      ∧ (s.btk.exitFilter.level = true → t.btk.exitMatch = .none)
      ∧ (s.btk.exitFilter.level = true → ¬(s.btk.exitMatch = .matched ∧ ∃ b, s.btk.train.head? = some b ∧ b.exitMatched = true) →
          t = { s with sig := t.sig, btk := { s.btk with exitFilter := t.btk.exitFilter, exitMatch := .none } })
      ∧ ∀ b rest, s.btk.exitFilter.level = true → s.btk.exitMatch = .matched → s.btk.train = b :: rest → b.exitMatched = true →
          (b.lossMark = true → t.overrun = false) →
          t.btk.train.map identity = rest.map identity
          ∧ t.phm.captures = s.phm.captures.filter (fun x => !(x.1 == b.number))
          ∧ (∀ (i : SlotIx) (bank : BankId), slotBank t.tbs.slots[i] bank = { slotBank s.tbs.slots[i] bank with
              references := if b.bank = some (i, bank) then (slotBank s.tbs.slots[i] bank).references - 1
                            else (slotBank s.tbs.slots[i] bank).references })
          ∧ ∃ r : ExitReport, t.btk.exits = (r :: s.btk.exits).take 8
            ∧ (s.lif.messageQueue.length ≤ 14 → ∃ dest : Byte,
                dest = (if s.mru.configured.line then controllerAddress s.tbs else 63)
                ∧ t.lif.messageQueue = s.lif.messageQueue ++ [.reportPart1 dest r, .reportPart2 dest r]
                ∧ t.mru.dropped = s.mru.dropped)
            ∧ (14 < s.lif.messageQueue.length → t.lif.messageQueue = s.lif.messageQueue
                ∧ t.mru.dropped = min 255 (s.mru.dropped + 1))
            ∧ r.number = b.number ∧ r.label = ((bankOf s.tbs b).map recipeLabel).getD 0 ∧ r.dose = min 65535 (b.dose / 1000)
            ∧ r.topside = b.topside ∧ r.chipMs = min 65535 b.chipMs ∧ r.laminarMs = min 65535 b.laminarMs
            ∧ (b.lossMark = false → r.outcome = (if b.disposition = .goOn ∧ b.defects = 0 then .good else .rework)
                ∧ r.defects = b.defects ∧ r.holds = b.holds)
            ∧ (b.lossMark = true → r.outcome = .rework ∧ r.defects &&& 64 = 64)

/-- R80, R82: a GOOD encoder sample retires as LOST, one after another, every head that the table of R80 finds missing at the new
position, and raises A37. The event must not outrun the model's budget (log entry 5). -/
def Obligations.MissingHeadsAreRetired : Prop :=
  ∀ (c : SampleCell) (s : State) (v : Word16), verdict s.lif.openCycle (sampleRaw c) = .toSig → c.sequence.toNat ≤ 63 →
    arrivalsOf s c = [(S 10, 0, v)] → s.btk.exits.length ≤ 8 → ∃ t, exec (.sample c) s = .next t
      ∧ (t.overrun = false →
          (let last := exitPosition s.tbs + exitWindow s.tbs
           let missing : Board → Bool := fun b =>
             if b.exitMatched then
               decide (last + (match b.length with
                 | some length => length
                 | none => ((bankOf s.tbs b).map maximumLength).getD 65535) < signedDiff t.btk.position b.lead)
             else decide (last < signedDiff t.btk.position b.lead)
                  && (s.btk.exitFilter.level || s.btk.exitFilter.runCount == 0)
           let gone := s.btk.train.takeWhile missing
           t.btk.train.map (fun b => (b.number, b.lead, b.length, b.bank)) =
               (s.btk.train.dropWhile missing).map (fun b => (b.number, b.lead, b.length, b.bank))
           ∧ t.btk.exits.map (fun r => (r.number, r.outcome)) =
               (gone.reverse.map (fun b => (b.number, BoardOutcome.lost)) ++ s.btk.exits.map fun r => (r.number, r.outcome)).take 8
           ∧ (gone ≠ [] → (s.tbs.alarms[A 37]).masked = false → (t.acu.alarms[A 37]).raiseCycle = some s.lif.cycle)))

/-- R18: the expiry of a running stale timer makes the signal STALE, stops the timer, and leaves the rest of its record and every
other signal record; on a stopped timer nothing happens (log entry 1). -/
def Obligations.SignalGoesStale : Prop :=
  ∀ (i : SigIx) (s : State),
    ((s.sig[i]).staleTimer = none → exec (.staleTimerExpiry i) s = .next s)
    ∧ ((s.sig[i]).staleTimer ≠ none → ∃ t, exec (.staleTimerExpiry i) s = .next t
        ∧ t.sig = vset s.sig i { s.sig[i] with freshness := .stale, staleTimer := none }
        ∧ t.tbs = s.tbs ∧ t.pending = s.pending ∧ t.mru = { s.mru with line := t.mru.line }
        ∧ t.lif = { s.lif with commandQueue := t.lif.commandQueue, carryList := t.lif.carryList,
                               deferredSet := t.lif.deferredSet }
        ∧ t.btk.position = s.btk.position ∧ t.btk.train.map identity = s.btk.train.map identity)

/-! ## Fluxing, preheat and the pot at a sample -/

/-- R91 to R94: the edges that the conveyor passes before the next sample are taken, and no other; each one at or behind the position is
counted late; a taken edge changes its segment; every nozzle is open exactly while an OPEN or ENDING segment covers it, with the
greatest duty among them, and its valve's automatic command follows; a SPRAYING board whose last edge is taken has its run closing. At
a GOOD encoder sample the edges left are some of those there were, and the cycle is the last one accounted (R92, R95), if the event
does not outrun the model's budget (log entry 5). -/
def Obligations.SprayEdgesAreTaken : Prop :=
  (∀ (c : SampleCell) (s : State) (v : Word16), verdict s.lif.openCycle (sampleRaw c) = .toSig → c.sequence.toNat ≤ 63 →
    arrivalsOf s c = [(S 10, 0, v)] → ∃ t, exec (.sample c) s = .next t
      ∧ t.flx.edges.Sublist s.flx.edges ∧ (t.overrun = false → t.flx.lastAccounted = some s.lif.cycle))
  ∧ ∀ (s : State) (v8 : Int), 0 < v8 → s.btk.v8 = some v8 → s.flx.forcing = false →
    (let t := (flxTakeEdges s).1
     let ahead (e : Edge) : Int := signedDiff e.position s.btk.position
     let taken := s.flx.edges.filter fun e => decide (ahead e < v8 / 8)
     let late := (taken.filter fun e => decide (ahead e ≤ 0)).length
     t.flx.edges = s.flx.edges.filter (fun e => decide (v8 / 8 ≤ ahead e))
     ∧ min 65535 (s.flx.lateEdges + late) ≤ t.flx.lateEdges
     ∧ (s.lif.commandQueue.length + 16 * taken.length ≤ 32 → t.flx.lateEdges = min 65535 (s.flx.lateEdges + late))
     ∧ (∀ n : NozzleIx,
          let follows (u : State) : Prop :=
            ((covering u n = [] → viewOf u n = ⟨false, 0, none⟩)
             ∧ (covering u n ≠ [] → (viewOf u n).isOpen = true ∧ (∃ x ∈ covering u n, (viewOf u n).duty = x.2)
                ∧ (∀ x ∈ covering u n, x.2 ≤ (viewOf u n).duty) ∧ ∃ x ∈ covering u n, (viewOf u n).owner = some x.1))
            ∧ (outputRecord u (valveOutput n)).automatic = (viewOf u n).duty
          follows s → follows t)
     ∧ (∀ e ∈ taken, fluxOf t e.board = some .spraying → (∀ x ∈ t.flx.edges, x.board ≠ e.board) →
          ∀ r ∈ t.flx.sprays, r.board = e.board → r.runClosing = true)
     ∧ (∀ e, taken = [e] → segmentState t e.board e.segment =
          if e.kind = .opening ∧ segmentState s e.board e.segment = some .pending then some .opened
          else if e.kind = .closing ∧ segmentState s e.board e.segment = some .opened then some .closed
          else segmentState s e.board e.segment)
     ∧ (∀ e, taken = [e] → e.kind = .opening → segmentState s e.board e.segment = some .pending →
          fluxOf s e.board = some .pending → fluxOf t e.board = some .spraying)
     ∧ ∀ e, taken = [e] → ∀ n : NozzleIx, (t.flx.nozzles[n]).planChanges = (s.flx.nozzles[n]).planChanges ++
          if viewOf t n = viewOf s n then []
          else [(if ahead e ≤ 0 then 0 else (Int.tdiv (ahead e * 16000) v8).toNat, viewOf t n)])

/-- R95, R96: a dose accounting adds to every board that owns an open piece of a nozzle's plan the flow, times the duty, times the
piece's length, each piece truncated on its own; the sums go into the board records, every plan starts again, and the cycle becomes
the last one accounted. Without a last accounted cycle nothing is added. R97: the end of a run makes the board's flux status DONE and
checks its dose in µL against the band of its bank. -/
def Obligations.DosesAreAccounted : Prop :=
  (∀ s : State, (s.flx.sprays.map (·.board)).Nodup → (∀ r ∈ s.flx.sprays, r.dose ≤ 4294967295) →
    (∀ n : NozzleIx, (s.flx.nozzles[n]).planChanges.Pairwise fun x y => x.1 ≤ y.1) →
    (let t := (flxAccount s).1
     let stamp := (s.sig[S 10]).arrivalCycle
     let share (d : Nat) (owner : BoardNo) (n : NozzleIx) : Nat :=
       let z := s.flx.nozzles[n]
       let views := z.planStart :: z.planChanges.map (·.2)
       let starts := 0 :: z.planChanges.map (fun x => min d x.1)
       let ends := z.planChanges.map (fun x => min d x.1) ++ [d]
       ((views.zip (starts.zip ends)).map fun p => if p.1.isOpen = true ∧ p.1.owner = some owner then
          outputFlow s.tbs (valveOutput n) * p.1.duty * (p.2.2 - p.2.1) / 1000000 else 0).sum
     t.flx.lastAccounted = some stamp
     ∧ (∀ n : NozzleIx, t.flx.nozzles[n] = { s.flx.nozzles[n] with planStart := viewOf s n, planChanges := [] })
     ∧ (s.flx.lastAccounted = none → t.flx.sprays = s.flx.sprays ∧ t.btk = s.btk)
     ∧ ∀ last, s.flx.lastAccounted = some last →
         t.flx.sprays = (s.flx.sprays.map fun r => { r with dose := min 4294967295 (r.dose
           + ((List.finRange 8).map (share (min 16000 (2000 * (stamp - last).toNat)) r.board)).sum) })
         ∧ t.btk = { s.btk with train := s.btk.train.map fun b =>
             match t.flx.sprays.find? fun r => r.board == b.number with
             | some r => { b with dose := r.dose }
             | none => b }))
  ∧ ∀ (s : State) (n : BoardNo) (b : Board) (r : SprayRecord), findBoard s.btk.train n = some b → findSpray s.flx n = some r →
      r.runClosing = true →
      (let t := run s [.flxRunEnd n]
       fluxOf t n = some .done ∧ (findSpray t.flx n).map (·.runClosing) = some false
       ∧ (t.overrun = false → ∀ m, bankOf s.tbs b = some m →
           ¬(doseMinimum m ≤ (b.dose / 1000 : Nat) ∧ ((b.dose / 1000 : Nat) : Int) ≤ doseMaximum m) →
           (∃ b', findBoard t.btk.train n = some b' ∧ b'.defects &&& 1 = 1)
           ∧ ((s.tbs.alarms[A 28]).masked = false → (t.acu.alarms[A 28]).raiseCycle = some s.lif.cycle)))

/-- R132: a GOOD encoder sample at which no board leaves the train arms every WAITING capture whose midpoint has passed the
pyrometer, or makes it UNKNOWN with defect TEMP_UNKNOWN where S9 is not usable. R133, R134: an arrival of S9 writes its value into
the record of every ARMED board, or marks it TEMP_UNKNOWN where the arrival is not GOOD; a value outside the topside band gives the
defect TEMP and raises A29. The defects, and the whole of R132, are stated where the event does not outrun the model's budget (log
entry 5). -/
def Obligations.TopsideIsCaptured : Prop :=
  (∀ (c : SampleCell) (s : State) (v : Word16), verdict s.lif.openCycle (sampleRaw c) = .toSig → c.sequence.toNat ≤ 63 →
    arrivalsOf s c = [(S 10, 0, v)] → ∃ t, exec (.sample c) s = .next t
      ∧ (t.overrun = false → t.btk.train.map (·.number) = s.btk.train.map (·.number) →
          (let usableNow : Prop := (s.sig[S 9]).freshness = .fresh ∧ (s.sig[S 9]).status = some .good
           let passed (n : BoardNo) : Prop := ∃ b, findBoard s.btk.train n = some b
             ∧ 0 < signedDiff t.btk.position b.lead - Int.tdiv (b.length.getD 0) 2 - pyrometerPosition s.tbs
           t.phm.captures.length = s.phm.captures.length
           ∧ ∀ (i : Nat) (n : BoardNo) (x : CaptureState), s.phm.captures[i]? = some (n, x) →
               (¬(x = .waiting ∧ passed n) → t.phm.captures[i]? = some (n, x))
               ∧ (x = .waiting → passed n → usableNow → t.phm.captures[i]? = some (n, .armed))
               ∧ (x = .waiting → passed n → ¬usableNow → t.phm.captures[i]? = some (n, .unknown)
                   ∧ ∃ b, findBoard t.btk.train n = some b ∧ b.defects &&& 4 = 4))))
  ∧ ∀ (c : SampleCell) (s : State) (code : Nat) (v : Word16), verdict s.lif.openCycle (sampleRaw c) = .toSig →
    c.sequence.toNat ≤ 63 → arrivalsOf s c = [(S 9, code, v)] → ∃ t, exec (.sample c) s = .next t
      ∧ (let good : Prop := code = 0 ∧ -500 ≤ v.toInt ∧ v.toInt ≤ 6000
         let armed (n : BoardNo) : Prop := (n, CaptureState.armed) ∈ s.phm.captures
         let measured (b : Board) : Board := if good ∧ armed b.number then { b with topside := some v.toInt } else b
         let taken : State :=
           { s with sig := t.sig, phm := { s.phm with captures := t.phm.captures },
                    btk := { s.btk with train := s.btk.train.map measured } }
         t.phm.captures = (s.phm.captures.map fun x =>
           if x.2 = .armed then (x.1, if good then CaptureState.taken else .unknown) else x)
         ∧ Undisturbed taken t
         ∧ ((∀ n, ¬armed n) → t = taken)
         ∧ (t.overrun = false → ∀ n b, armed n → findBoard s.btk.train n = some b → ∃ b', findBoard t.btk.train n = some b'
             ∧ (¬good → b'.defects &&& 4 = 4)
             ∧ (good → ∀ m, bankOf s.tbs b = some m → ¬(topsideMinimum m ≤ v.toInt ∧ v.toInt ≤ topsideMaximum m) →
                 b'.defects &&& 2 = 2
                 ∧ ((s.tbs.alarms[A 29]).masked = false → (t.acu.alarms[A 29]).raiseCycle = some s.lif.cycle)))
         ∧ (good → (∀ n b m, armed n → findBoard s.btk.train n = some b → bankOf s.tbs b = some m →
             topsideMinimum m ≤ v.toInt ∧ v.toInt ≤ topsideMaximum m) → t = taken))

/-- R151: outside UNCONFIGURED a GOOD distance joins the level window, whose sixth entry removes the oldest, and the level is the reference
less the third smallest of five; any other arrival leaves them until the count of non-GOOD arrivals reaches 50, which empties the
window. Nothing else of what a sample changes is disturbed. R152, R171: A20, A21 and A22, where they are unmasked, take their
conditions, if the event does not outrun the model's budget (log entry 5). -/
def Obligations.LevelFollowsTheGauge : Prop :=
  ∀ (c : SampleCell) (s : State) (code : Nat) (v : Word16), verdict s.lif.openCycle (sampleRaw c) = .toSig →
    c.sequence.toNat ≤ 63 → arrivalsOf s c = [(S 13, code, v)] → s.mru.line ≠ .unconfigured →
    ∃ t, exec (.sample c) s = .next t
      ∧ Undisturbed { s with sig := t.sig, pot := { s.pot with levelWindow := t.pot.levelWindow, level := t.pot.level } } t
      ∧ (code = 0 →
          t.pot.levelWindow = (if s.pot.levelWindow.length < 5 then s.pot.levelWindow else s.pot.levelWindow.drop 1) ++ [(v.toNat : Int)]
          ∧ (t.pot.levelWindow.length ≠ 5 → t.pot.level = none)
          ∧ (t.pot.levelWindow.length = 5 → ∃ d ∈ t.pot.levelWindow, t.pot.level = some (levelReference s.tbs - d)
              ∧ (t.pot.levelWindow.filter fun x => decide (x < d)).length ≤ 2
              ∧ 3 ≤ (t.pot.levelWindow.filter fun x => decide (x ≤ d)).length))
      ∧ (code ≠ 0 → (s.sig[S 13]).nonGood + 1 < 50 → t.pot.levelWindow = s.pot.levelWindow ∧ t.pot.level = s.pot.level)
      ∧ (code ≠ 0 → 50 ≤ (s.sig[S 13]).nonGood + 1 → t.pot.levelWindow = [] ∧ t.pot.level = none)
      ∧ (t.overrun = false →
          ∀ (a : AlarmIx) (holds : Prop),
            (a = A 20 ∧ (holds ↔ ∃ m, t.pot.level = some m ∧ m < levelLL s.tbs))
            ∨ (a = A 21 ∧ (holds ↔ ∃ m, t.pot.level = some m ∧ levelHH s.tbs < m))
            ∨ (a = A 22 ∧ (holds ↔ t.pot.level = none)) →
            (s.tbs.alarms[a]).masked = false →
              (holds → (t.acu.alarms[a]).state ≠ .clear
                ∧ ((s.tbs.alarms[a]).delay = 0 → (t.acu.alarms[a]).state = .active))
              ∧ (¬holds → (t.acu.alarms[a]).state = .clear ∨ (t.acu.alarms[a]).state = .latched))

/-- R148: the contact that accrues at one GOOD encoder sample, and its bounds over the whole event. R148, R149: the wave status of
every record after the event, and the solder use of the boards that became DONE, up to ten feed quanta. A record whose length is
absent keeps PENDING (DESIGN CHOICE, log entry 41). That nothing accrues where POT has taken no sample before covers the first sample
after UNCONFIGURED, where it is the model's choice (DESIGN CHOICE, log entry 66). The event must not outrun the model's budget (log entry 5). -/
def Obligations.ContactAndWaveStatusFollow : Prop :=
  (∀ (s : State) (last : Word32), s.mru.line ≠ .unconfigured → s.pot.lastEncoder = some last →
    (let stamp := (s.sig[S 10]).arrivalCycle
     let ms := 2 * min 8 (stamp - last).toNat
     let runs (w : Wave) : Prop := (pumpOf s.pot w).atSpeed = true ∧ 0 < (outputRecord s (pumpOutput w)).delivered
     let meets (b : Board) (w : Wave) : Prop := overlaps s.btk.position b (wavePosition s.tbs w - contactHalfWidth s.tbs w)
       (wavePosition s.tbs w + contactHalfWidth s.tbs w) = true
     (potContact s).1 = { s with
       btk := { s.btk with train := s.btk.train.map fun b =>
         { b with chipMs := if runs .chip ∧ meets b .chip then b.chipMs + ms else b.chipMs,
                  laminarMs := if runs .laminar ∧ meets b .laminar then b.laminarMs + ms else b.laminarMs } },
       pot := { s.pot with lastEncoder := some stamp } }))
  ∧ ∀ (c : SampleCell) (s : State) (v : Word16), verdict s.lif.openCycle (sampleRaw c) = .toSig → c.sequence.toNat ≤ 63 →
    arrivalsOf s c = [(S 10, 0, v)] → s.mru.line ≠ .unconfigured → (s.btk.train.map (·.number)).Nodup →
    ∃ t, exec (.sample c) s = .next t
      ∧ (t.overrun = false →
          t.pot.lastEncoder = some s.lif.cycle
          ∧ t.pot.debt = (t.btk.train.filter fun b => b.wave == .done
              && (findBoard s.btk.train b.number).any fun old => old.wave != .done).foldl
              (fun d b => min (10 * feedQuantum s.tbs) (d + ((bankOf s.tbs b).map solderUse).getD 0)) s.pot.debt
          ∧ ∀ n b b', findBoard s.btk.train n = some b → findBoard t.btk.train n = some b' →
              (let meets (w : Wave) : Prop := overlaps t.btk.position b (wavePosition s.tbs w - contactHalfWidth s.tbs w)
                 (wavePosition s.tbs w + contactHalfWidth s.tbs w) = true
               let left : Prop := ∃ length, b.length = some length
                 ∧ wavePosition s.tbs .laminar + wavePost s.tbs .laminar < signedDiff t.btk.position b.lead - length
               let final : Prop := b.wave = .done ∨ b.wave = .lowered
               b.chipMs ≤ b'.chipMs ∧ b'.chipMs ≤ b.chipMs + 16 ∧ b.laminarMs ≤ b'.laminarMs ∧ b'.laminarMs ≤ b.laminarMs + 16
               ∧ (s.pot.chip.atSpeed = false ∨ ¬meets .chip ∨ s.pot.lastEncoder = none → b'.chipMs = b.chipMs)
               ∧ (s.pot.laminar.atSpeed = false ∨ ¬meets .laminar ∨ s.pot.lastEncoder = none → b'.laminarMs = b.laminarMs)
               ∧ (final → b'.wave = b.wave)
               ∧ (¬final → b.length = none → b'.wave = .pending)
               ∧ (¬final → left → b'.wave = .done ∨ b'.wave = .lowered)
               ∧ (¬final → left → wasGoverned s n = true → b'.wave = .done)
               ∧ (¬final → left → wasGoverned t n = false → b'.wave = .lowered)
               ∧ (¬final → b.length ≠ none → ¬left → meets .chip ∨ meets .laminar → b'.wave = .inContact)
               ∧ (¬final → b.length ≠ none → ¬left → ¬meets .chip → ¬meets .laminar → b'.wave = .pending)))

/-! ## Tables -/

/-- R46, R47: STAGE puts the field into the buffer of its table beside the fields of the same index, or in place of those of
another index, and refuses what names no writable field or is no code of a code field. -/
def Obligations.StageCollectsFields : Prop :=
  ∀ (r : ReqCell) (s : State), accepted 1 r s →
    (∀ k f, tableOfCode (reqByte r 6) = some k → findField k (reqByte r 8) (reqByte r 9) = some f → f.kind ≠ .readOnly →
      reqByte r 7 < indexCount k →
      (f.kind = .code → (reqValue r < f.lo ∨ f.hi < reqValue r) →
        exec (.stage r) s = .next (pushReply r.src r.tag .badValue noData s))
      ∧ ((f.kind = .code → f.lo ≤ reqValue r ∧ reqValue r ≤ f.hi) → ∃ b : StagingBuffer,
          exec (.stage r) s = .next (pushReply r.src r.tag
            (if (stagingOf s.mru.staging k).any (fun old => old.index != reqByte r 7) then .stageReplaced else .ok)
            (replyData ([(5, lineStateCode s.mru.line), (6, reqByte r 6), (7, reqByte r 7)] ++ wordAt 8 b.fields.length))
            (setStaging s k (some b)))
          ∧ b.index = reqByte r 7
          ∧ lookupField b.fields (reqByte r 8) (reqByte r 9) = some (reqValue r)
          ∧ ∀ item field, ¬(item = reqByte r 8 ∧ field = reqByte r 9) → lookupField b.fields item field =
              (stagingOf s.mru.staging k).bind fun old =>
                if old.index = reqByte r 7 then lookupField old.fields item field else none))
    ∧ ((tableOfCode (reqByte r 6) = none
        ∨ ∃ k, tableOfCode (reqByte r 6) = some k
          ∧ (indexCount k ≤ reqByte r 7 ∨ findField k (reqByte r 8) (reqByte r 9) = none
            ∨ ∃ f, findField k (reqByte r 8) (reqByte r 9) = some f ∧ f.kind = .readOnly)) →
      exec (.stage r) s = .next (pushReply r.src r.tag .badIndex noData s))

/-- R48: DISCARD of a writable table empties its staging buffer, whatever it holds, in every line state, and replies OK with the
line state and the table code. -/
def Obligations.DiscardEmptiesTheBuffer : Prop :=
  ∀ (r : ReqCell) (s : State) (k : TableKind), accepted 3 r s → tableOfCode (reqByte r 6) = some k →
    ∃ t, exec (.discard r) s = .next t
      ∧ t = pushReply r.src r.tag .ok (replyData [(5, lineStateCode s.mru.line), (6, reqByte r 6)])
          { s with mru := { s.mru with staging := t.mru.staging } }
      ∧ stagingOf t.mru.staging k = none ∧ ∀ j, j ≠ k → stagingOf t.mru.staging j = stagingOf s.mru.staging j

/-- R62, R63: READ changes no state but the message queue. The staged view answers the staged field with presence byte 0, one that is
not staged with 1; the committed view answers the committed field, and presence 1 in a table never committed or an empty slot;
views 2 and 3 answer the banks of a slot; a view above 3 is refused. Of the read-only tables COUNTERS is stated, with its first nine
fields, and of SIGNALS the last GOOD value, the non-GOOD count and the arrival cycle. -/
def Obligations.ReadChangesNothing : Prop :=
  ∀ (r : ReqCell) (s : State), accepted 4 r s →
    (let index := reqByte r 7
     let item := reqByte r 8
     let field := reqByte r 9
     let view := reqByte r 10
     let refused (status : ReplyStatus) : Prop := exec (.read r) s = .next (pushReply r.src r.tag status noData s)
     let answered (v : Option Int) : Prop := exec (.read r) s = .next (pushReply r.src r.tag .ok
        (replyData ([(5, reqByte r 6), (6, index), (7, item), (8, field), (9, if v.isNone then 1 else 0)]
          ++ valueBytes (v.getD 0))) s)
     (∃ status data, exec (.read r) s = .next (pushReply r.src r.tag status data s))
     ∧ (∀ k f, tableOfCode (reqByte r 6) = some k → findField k item field = some f → f.kind ≠ .readOnly → index < indexCount k →
         (view = 1 → (∀ b, stagingOf s.mru.staging k = some b → b.index = index → answered (lookupField b.fields item field)))
         ∧ (view = 1 → (∀ b, stagingOf s.mru.staging k = some b → b.index ≠ index) → answered none)
         ∧ (view = 0 →
             (k = .channel → answered (if s.mru.configured.channel = true then some (fieldOf s.tbs.channel item field) else none))
             ∧ (k = .output → answered (if s.mru.configured.output = true then some (fieldOf s.tbs.output item field) else none))
             ∧ (k = .geometry →
                 answered (if s.mru.configured.geometry = true then some (fieldOf s.tbs.geometry item field) else none))
             ∧ (k = .line → answered (if s.mru.configured.line = true then some (fieldOf s.tbs.line item field) else none))
             ∧ (k = .limits → answered (if s.mru.configured.limits = true then some (fieldOf s.tbs.limits item field) else none))
             ∧ (k = .tuning → answered (if s.mru.configured.tuning = true then some (fieldOf s.tbs.tuning item field) else none))
             ∧ (k = .alarm → ∀ a : AlarmIx, a.val = index →
                 (field = 1 → answered (some (if (s.tbs.alarms[a]).cls = .hard then 1 else 0)))
                 ∧ (field = 2 → answered (some (if (s.tbs.alarms[a]).masked = true then 1 else 0)))
                 ∧ (field = 3 → answered (some (s.tbs.alarms[a]).delay))
                 ∧ (field = 4 → answered (some (s.tbs.alarms[a]).links.toNat)))
             ∧ (k = .recipe → ∀ i : SlotIx, i.val = index → answered (if (admitBank s.tbs.slots[i]).filled = true
                 then some (fieldOf (admitBank s.tbs.slots[i]).fields item field) else none)))
         ∧ (k = .recipe → ∀ i : SlotIx, i.val = index →
             (view = 2 → answered (if (s.tbs.slots[i]).bankA.filled = true
               then some (fieldOf (s.tbs.slots[i]).bankA.fields item field) else none))
             ∧ (view = 3 → answered (if (s.tbs.slots[i]).bankB.filled = true
               then some (fieldOf (s.tbs.slots[i]).bankB.fields item field) else none)))
         ∧ (k ≠ .recipe → view = 2 ∨ view = 3 → refused .badValue)
         ∧ (3 < view → refused .badValue))
     ∧ (reqByte r 6 = 14 → index = 0 → item = 0 → view = 0 → ∀ v : Nat,
         [s.lif.cycle.toNat, s.lif.checkErrors, s.lif.lateCells, s.lif.lastBlockErrors, s.mru.dropped, s.flx.lateEdges,
          s.pot.ignored, s.btk.nextNumber.toNat, s.mru.nextSlot.val][field - 1]? = some v → 1 ≤ field → answered (some v))
     ∧ (reqByte r 6 = 11 → index = 0 → view = 0 → ∀ i : SigIx, item = i.val + 1 →
         (field = 2 → answered (s.sig[i]).lastGood)
         ∧ (field = 4 → answered (some (s.sig[i]).nonGood))
         ∧ (field = 5 → answered (some (s.sig[i]).arrivalCycle.toNat)))
     ∧ (8 ≤ reqByte r 6 → reqByte r 6 ≤ 14 → view ≠ 0 → refused .badIndex ∨ refused .badValue)
     ∧ (14 < reqByte r 6 → refused .badIndex))

/-- R49 (steps 1 to 6), R51: where COMMIT is refused it changes no state but the message queue. -/
def Obligations.CommitRefused : Prop :=
  ∀ (r : ReqCell) (s : State), accepted 2 r s →
    (let refused (status : ReplyStatus) : Prop := exec (.commit r) s = .next (pushReply r.src r.tag status noData s)
     (tableOfCode (reqByte r 6) = none → refused .badIndex)
     ∧ ∀ k, tableOfCode (reqByte r 6) = some k →
        (indexCount k ≤ reqByte r 7 → refused .badIndex)
        ∧ (reqByte r 7 < indexCount k →
            (k = .limits → s.mru.limitsLock = true → s.mru.line ≠ .maintenance → refused .locked)
            ∧ (k = .limits → s.mru.limitsLock = false → (s.mru.line = .run ∨ s.mru.line = .draining) → refused .state)
            ∧ (k ≠ .limits → k ≠ .tuning → k ≠ .recipe → (s.mru.line = .run ∨ s.mru.line = .draining) → refused .state)
            ∧ ((s.mru.line ≠ .run ∧ s.mru.line ≠ .draining ∧ (k = .limits → s.mru.limitsLock = false ∨ s.mru.line = .maintenance)
                ∨ k = .tuning ∨ k = .recipe) →
                (stagingOf s.mru.staging k = none → refused .nothingStaged)
                ∧ ∀ b, stagingOf s.mru.staging k = some b →
                  (b.index ≠ reqByte r 7 → refused .nothingStaged)
                  ∧ (b.index = reqByte r 7 →
                      (let m := candidateFields (committedFields s.tbs k (reqByte r 7)) b.fields
                       (candidateSound s.tbs k (reqByte r 7) b.fields m = false → refused .badValue)
                       ∧ (k = .recipe → candidateSound s.tbs k (reqByte r 7) b.fields m = true →
                          0 < (slotBank s.tbs.slots[(Fin.ofNat 16 (reqByte r 7) : SlotIx)]
                            (otherBank (s.tbs.slots[(Fin.ofNat 16 (reqByte r 7) : SlotIx)]).pointer)).references →
                          refused .busy))))))

/-- R49 (steps 4, 7, 8), R50, R52, R58: a COMMIT of TUNING writes, for every loop and field, the staged value or the committed one,
brought into the field's range; it replies CLAMPED exactly when a value was brought into range, empties the buffer and adds TUNING
to the configured set. -/
def Obligations.CommitTuningWritesClampedFields : Prop :=
  ∀ (r : ReqCell) (s : State) (b : StagingBuffer), accepted 2 r s → reqByte r 6 = 5 → reqByte r 7 = 0 →
    s.mru.staging.tuning = some b → b.index = 0 → SortedFields b.fields → s.mru.line ≠ .unconfigured →
    ∃ t status, exec (.commit r) s = .next (pushReply r.src r.tag status
        (replyData [(5, lineStateCode s.mru.line), (6, 5), (7, 0)]) t)
      ∧ t = { s with tbs := { s.tbs with tuning := t.tbs.tuning },
                     mru := { s.mru with staging := { s.mru.staging with tuning := none },
                                         configured := { s.mru.configured with tuning := true } } }
      ∧ (let built (l : LoopIx) (field : Nat) : Int :=
           (lookupField b.fields (l.val + 1) field).getD (fieldOf s.tbs.tuning (l.val + 1) field)
         let range : List (Nat × Int × Int) := [(1, 0, 65535), (2, 0, 1023), (3, 1, 100), (4, 1, 1000), (5, 0, 15), (6, 0, 6000)]
         (∀ l : LoopIx, ∀ f ∈ range, fieldOf t.tbs.tuning (l.val + 1) f.1 = max f.2.1 (min f.2.2 (built l f.1)))
         ∧ (status = .ok ∨ status = .clamped)
         ∧ (status = .clamped ↔ ∃ l : LoopIx, ∃ f ∈ range, built l f.1 < f.2.1 ∨ f.2.2 < built l f.1))

/-- R60: a recipe COMMIT that passes the checks writes the bank that the admit pointer does not name and turns the pointer to it;
the other bank and every reference count stay. -/
def Obligations.CommitRecipeTurnsThePointer : Prop :=
  ∀ (r : ReqCell) (s : State) (b : StagingBuffer) (i : SlotIx), accepted 2 r s → reqByte r 6 = 7 → reqByte r 7 = i.val →
    s.mru.staging.recipe = some b → b.index = i.val →
    (let bank := otherBank (s.tbs.slots[i]).pointer
     let m := candidateFields (committedFields s.tbs .recipe i.val) b.fields
     candidateSound s.tbs .recipe i.val b.fields m = true → (slotBank s.tbs.slots[i] bank).references = 0 →
     ∃ t status, exec (.commit r) s = .next (pushReply r.src r.tag status
         (replyData [(5, lineStateCode t.mru.line), (6, 7), (7, i.val), (8, bankCode bank)]) t)
       ∧ (status = .ok ∨ status = .clamped)
       ∧ t.mru.staging = { s.mru.staging with recipe := none }
       ∧ (t.tbs.slots[i]).pointer = bank
       ∧ slotBank t.tbs.slots[i] bank = ⟨true, clampCandidate .recipe m, 0⟩
       ∧ slotBank t.tbs.slots[i] (s.tbs.slots[i]).pointer = slotBank s.tbs.slots[i] (s.tbs.slots[i]).pointer
       ∧ (∀ j : SlotIx, j ≠ i → t.tbs.slots[j] = s.tbs.slots[j])
       ∧ t.tbs = { s.tbs with slots := t.tbs.slots }
       ∧ t.mru = { s.mru with staging := t.mru.staging, line := t.mru.line }
       ∧ t.btk.train.map identity = s.btk.train.map identity ∧ t.sig = s.sig)

/-- R34: the commit that makes the configured set hold all six tables takes the line out of UNCONFIGURED to STANDBY, and its reply
carries STANDBY (unless the event outran the model's budget, log entry 5). -/
def Obligations.CommitCompletesTheConfiguration : Prop :=
  ∀ (r : ReqCell) (s : State) (k : TableKind) (b : StagingBuffer), accepted 2 r s → tableOfCode (reqByte r 6) = some k →
    k ≠ .alarm → k ≠ .recipe → reqByte r 7 = 0 → s.mru.line = .unconfigured → s.mru.limitsLock = false →
    stagingOf s.mru.staging k = some b → b.index = 0 →
    candidateSound s.tbs k 0 b.fields (candidateFields (committedFields s.tbs k 0) b.fields) = true →
    allConfigured (addConfigured s.mru.configured k) = true →
    ∃ t status data, exec (.commit r) s = .next (pushReply r.src r.tag status data t)
      ∧ (status = .ok ∨ status = .clamped)
      ∧ stagingOf t.mru.staging k = none ∧ allConfigured t.mru.configured = true
      ∧ (t.overrun = true ∨ (t.mru.line = .standby ∧ data[0]? = some 1))

/-- R40, R61, R72: SELECT_NEXT sets the next slot and REMOVE_RECIPE marks the admit bank of its slot empty; admission is evaluated at
the same event, and nothing else changes. A slot whose admit bank is empty is refused by SELECT_NEXT with EMPTY_SLOT. -/
def Obligations.RecipeSlotRequests : Prop :=
  ∀ (r : ReqCell) (s : State) (i : SlotIx), reqByte r 6 = i.val →
    (accepted 13 r s → (admitBank s.tbs.slots[i]).filled = false →
      exec (.selectNext r) s = .next (pushReply r.src r.tag .emptySlot noData s))
    ∧ (accepted 13 r s → (admitBank s.tbs.slots[i]).filled = true → ∃ t,
        exec (.selectNext r) s = .next (pushReply r.src r.tag .ok
          (replyData [(5, lineStateCode s.mru.line), (6, i.val), (7, bankCode (s.tbs.slots[i]).pointer)]) t)
        ∧ GateOnly { s with mru := { s.mru with nextSlot := i } } t
        ∧ t.btk.gateOpen = admissionOpen { s with mru := { s.mru with nextSlot := i } })
    ∧ (accepted 5 r s → ∃ t, exec (.removeRecipe r) s = .next (pushReply r.src r.tag .ok
          (replyData [(5, lineStateCode s.mru.line), (6, i.val)]) t)
        ∧ GateOnly { s with tbs := { s.tbs with slots := t.tbs.slots } } t
        ∧ (∀ j : SlotIx, j ≠ i → t.tbs.slots[j] = s.tbs.slots[j])
        ∧ (t.tbs.slots[i]).pointer = (s.tbs.slots[i]).pointer
        ∧ admitBank t.tbs.slots[i] = { admitBank s.tbs.slots[i] with filled := false }
        ∧ slotBank t.tbs.slots[i] (otherBank (s.tbs.slots[i]).pointer)
            = slotBank s.tbs.slots[i] (otherBank (s.tbs.slots[i]).pointer)
        ∧ (s.mru.nextSlot = i → t.btk.gateOpen = false))

/-! ## Line requests -/

/-- R37, R38, R51: SET_SPEED sets the line speed, brought to the nearer bound with CLAMPED, and the conveyor takes it at the same
event; LOCK_LIMITS sets the limits lock and changes nothing else. That the LOCK_LIMITS reply carries no data is the model's
reading (DEDUCED, log entry 23). -/
def Obligations.SpeedAndLockAreSet : Prop :=
  (∀ (r : ReqCell) (s : State), accepted 14 r s → s.mru.line ≠ .unconfigured →
    (let speed : Nat := if reqWord r 6 < 300 then 300 else if 2500 < reqWord r 6 then 2500 else reqWord r 6
     ∃ t, exec (.setSpeed r) s = .next (pushReply r.src r.tag
          (if 300 ≤ reqWord r 6 ∧ reqWord r 6 ≤ 2500 then .ok else .clamped)
          (replyData ((5, lineStateCode t.mru.line) :: wordAt 6 speed)) t)
       ∧ t.mru = { s.mru with lineSpeed := some speed, line := t.mru.line }
       ∧ Undisturbed { s with mru := t.mru } t
       ∧ (s.btk.faultCondition = false → t.mru.line = s.mru.line ∧ t.hld = s.hld ∧ t.acu = s.acu
          ∧ (outputRecord t (O 19)).automatic =
              if (s.mru.line = .run ∨ s.mru.line = .draining) ∧ (s.hld.phase = .none ∨ s.hld.phase = .resuming)
              then speed else 0)))
  ∧ ∀ (r : ReqCell) (s : State), accepted 6 r s → s.mru.line ≠ .unconfigured →
      exec (.lockLimits r) s = .next (pushReply r.src r.tag .ok noData { s with mru := { s.mru with limitsLock := true } })

/-- R34, R35, R36, R23: START in STANDBY is refused while a hold-linked alarm is set, and else takes the line to RUN and the pot out
of SETBACK; STOP in RUN takes it to DRAINING, and on to STANDBY when the train is empty and the hold phase NONE. ENTER_MAINTENANCE
in STANDBY is refused with BUSY while the train holds a record, and else takes the line to MAINTENANCE; LEAVE_MAINTENANCE in
MAINTENANCE takes it to STANDBY and releases every manual command. That START is taken whenever no alarm with a hold link is set, so
also with A30 or A31 LATCHED without a hold link, is the model's choice of R34 over a sentence of R167 (DESIGN CHOICE, log entry
67). -/
def Obligations.LineStatesChangedByRequest : Prop :=
  (∀ (r : ReqCell) (s : State), accepted 7 r s → s.mru.line = .standby →
    ((∃ a : AlarmIx, holdAlarmSet s a = true) → exec (.start r) s = .next (pushReply r.src r.tag .stillActive noData s))
    ∧ ((∀ a : AlarmIx, holdAlarmSet s a = false) → ∃ t,
        exec (.start r) s = .next (pushReply r.src r.tag .ok (replyData [(5, 2)]) t)
        ∧ t.mru = { s.mru with line := .run } ∧ Undisturbed s t
        ∧ (t.overrun = true ∨ t.pot.state ≠ .setback)))
  ∧ (∀ (r : ReqCell) (s : State), accepted 8 r s → s.mru.line = .run →
      ∃ t, exec (.stop r) s = .next (pushReply r.src r.tag .ok (replyData [(5, lineStateCode t.mru.line)]) t)
        ∧ Undisturbed s t ∧ (t.mru.line = .draining ∨ t.mru.line = .standby)
        ∧ (s.btk.train ≠ [] ∨ s.hld.phase ≠ .none → t.mru.line = .draining)
        ∧ (s.btk.train = [] → t.overrun = true ∨ t.hld.phase ≠ .none ∨ t.mru.line = .standby))
  ∧ (∀ (r : ReqCell) (s : State), accepted 15 r s → s.mru.line = .standby →
    (s.btk.train ≠ [] → exec (.enterMaintenance r) s = .next (pushReply r.src r.tag .busy noData s))
    ∧ (s.btk.train = [] → ∃ t, exec (.enterMaintenance r) s = .next (pushReply r.src r.tag .ok (replyData [(5, 4)]) t)
        ∧ t.mru = { s.mru with line := .maintenance } ∧ Undisturbed s t))
  ∧ ∀ (r : ReqCell) (s : State), accepted 16 r s → s.mru.line = .maintenance →
      ∃ t, exec (.leaveMaintenance r) s = .next (pushReply r.src r.tag .ok (replyData [(5, 1)]) t)
        ∧ t.mru = { s.mru with line := .standby } ∧ Undisturbed s t
        ∧ ∀ o : OutIx, (outputRecord t o).manual = none

/-- R39, R23: SET_OUTPUT in MAINTENANCE stores or releases the manual command of its output, and OUT forms the delivered command:
exactly, for the heaters and valves O1 to O16, whose commands no block is told of, and for every output where the delivered
command stays as it was. The manual command of a pump, O17 or O18, may be released again in the same event, where the changed
delivered command brings the pot out of READY (R142): it is the one set, or absent. -/
def Obligations.ManualOutputsSetAndReleased : Prop :=
  ∀ (r : ReqCell) (s : State) (n : Nat), accepted 17 r s → s.mru.line = .maintenance → reqByte r 6 = n → 1 ≤ n → n ≤ 23 →
    n ≠ 20 → n ≠ 21 →
    (1 < reqByte r 7 → exec (.setOutput r) s = .next (pushReply r.src r.tag .badValue noData s))
    ∧ (reqByte r 7 = 1 → n = 17 ∨ n = 18 → 0 < reqWord r 8 → s.pot.state ≠ .ready →
        exec (.setOutput r) s = .next (pushReply r.src r.tag .state noData s))
    ∧ (reqByte r 7 = 0 ∨ (reqByte r 7 = 1 ∧ ¬((n = 17 ∨ n = 18) ∧ 0 < reqWord r 8 ∧ s.pot.state ≠ .ready)) →
        (let v : Option Nat := if reqByte r 7 = 1 then some (min (reqWord r 8) (outputLimit s.tbs (O n))) else none
         ∃ t, exec (.setOutput r) s = .next (pushReply r.src r.tag
              (if reqByte r 7 = 1 ∧ outputLimit s.tbs (O n) < reqWord r 8 then .clamped else .ok)
              (replyData [(5, lineStateCode t.mru.line)]) t)
           ∧ Undisturbed s t ∧ (n ≠ 17 → n ≠ 18 → (outputRecord t (O n)).manual = v)
           ∧ ((outputRecord t (O n)).manual = v ∨ (outputRecord t (O n)).manual = none)
           ∧ (clampUse s.tbs (O n) (if cutOff s (O n) = true then cutoffLevel s (O n) else v.getD (outputRecord s (O n)).automatic)
                = (outputRecord s (O n)).delivered →
              t = { s with out := { s.out with records := vset s.out.records (O n) { outputRecord s (O n) with manual := v } } })
           ∧ (n ≤ 16 →
              t = { s with out := { s.out with records := vset s.out.records (O n) (outputRecord t (O n)) },
                           lif := { s.lif with commandQueue := t.lif.commandQueue, carryList := t.lif.carryList,
                                               deferredSet := t.lif.deferredSet } }
              ∧ (outputRecord t (O n)).automatic = (outputRecord s (O n)).automatic
              ∧ (outputRecord t (O n)).held = (outputRecord s (O n)).held
              ∧ (outputRecord t (O n)).delivered = clampUse s.tbs (O n)
                  (if cutOff s (O n) = true then cutoffLevel s (O n) else v.getD (outputRecord s (O n)).automatic))))

/-- R41, R87, R104, R123, R131, R159, R184, R196: RESTART empties the train without reports, abandons the hold, the edges and the
thermal loops' state, returns the feeder to IDLE unless it is FAULTED, releases the manual commands, clears the soft alarms and the
manual flags of the groups, and keeps the tables and MRU's other fields. The feeder may start its next feed at the same event
(DEDUCED, log entry 36), and an alarm may be raised again by a condition of the same event. That the clause on soft alarms takes in
an A41 made SOFT by commit is the model's choice of R184 over a sentence of R196 (DESIGN CHOICE, log entry 72). -/
def Obligations.RestartReturnsToStandby : Prop :=
  ∀ (r : ReqCell) (s : State), accepted 18 r s → takenIn 18 s →
    ∃ t, exec (.restart r) s = .next (pushReply r.src r.tag .ok (replyData [(5, 1)]) t)
      ∧ t.mru = { s.mru with line := .standby } ∧ t.sig = s.sig ∧ t.pending = s.pending
      ∧ t.lif = { s.lif with commandQueue := t.lif.commandQueue, carryList := t.lif.carryList,
                             deferredSet := t.lif.deferredSet }
      ∧ t.tbs = { s.tbs with slots := t.tbs.slots }
      ∧ (∀ (i : SlotIx) (bank : BankId), (t.tbs.slots[i]).pointer = (s.tbs.slots[i]).pointer
          ∧ slotBank t.tbs.slots[i] bank = { slotBank s.tbs.slots[i] bank with references := 0 })
      ∧ t.btk.train = [] ∧ t.btk.entryBoard = none ∧ t.btk.exitMatch = .none ∧ t.btk.nextNumber = s.btk.nextNumber
      ∧ t.btk.exits = s.btk.exits ∧ t.btk.position = s.btk.position
      ∧ t.hld.phase = .none ∧ t.hld.record = none ∧ t.hld.episode = s.hld.episode ∧ t.hld.stillCount = 0
      ∧ t.hld.stopTimer = none ∧ t.hld.resumeTimer = none
      ∧ t.flx.edges = [] ∧ t.flx.sprays = [] ∧ t.phm.captures = [] ∧ t.pot.waves = []
      ∧ (∀ l : LoopIx, (t.tle.loops[l]).setpoint = none ∧ (t.tle.loops[l]).integrator = 0
          ∧ (t.tle.loops[l]).invalidCount = 0 ∧ (t.tle.loops[l]).lastMeasurement = none
          ∧ (t.tle.loops[l]).lastComputation = none ∧ (t.tle.loops[l]).overTemp = (s.tle.loops[l]).overTemp
          ∧ ((t.tle.loops[l]).uPrev = 0
            ∨ (groupActive t (loopGroup l) = true ∧ (t.tle.loops[l]).uPrev = (cutoffLevel t (heaterOutput l) : Int))))
      ∧ (∀ z : ZoneIx, (t.tle.loops[zoneLoop z]).sensorLost = decide ((s.sig[S (z.val + 1)]).freshness = .stale))
      ∧ (∀ o : OutIx, (outputRecord t o).manual = none)
      ∧ t.pot.debt = s.pot.debt ∧ t.pot.level = s.pot.level ∧ t.pot.levelWindow = s.pot.levelWindow
      ∧ t.pot.temperature = s.pot.temperature ∧ t.pot.ignored = s.pot.ignored
      ∧ t.pot.feeder.ineffective = s.pot.feeder.ineffective
      ∧ (s.pot.feeder.state = .faulted → t.pot.feeder = s.pot.feeder)
      ∧ (t.overrun = true ∨
          ((∀ g : Group, (groupRecord t g).manual = false)
          ∧ (∀ a : AlarmIx, (s.tbs.alarms[a]).cls = .soft → (t.acu.alarms[a]).state = .clear ∨ (t.acu.alarms[a]).state = .pending
              ∨ (t.acu.alarms[a]).raiseCycle = some s.lif.cycle)
          ∧ (s.pot.feeder.state = .feeding →
              (t.pot.feeder.state = .idle ∧ t.out.operation = some ⟨.abort, 0, s.pot.feeder.number⟩)
              ∨ (t.pot.feeder.state = .feeding ∧ t.pot.feeder.number = s.pot.feeder.number + 1))
          ∧ (s.pot.feeder.state = .settling → t.pot.feeder.state = .idle
              ∨ (t.pot.feeder.state = .feeding ∧ t.pot.feeder.number = s.pot.feeder.number + 1))))

/-! ## Holds -/

/-- R185, R186, R195: HOLD in RUN or DRAINING with phase NONE or RESUMING begins a new episode: its record is captured, the phase is
STOPPING, the stop timer runs, and at the same event the conveyor and pumps are commanded to 0, the nozzles are forced closed and
the zones go to their standby setpoints (unless the event outran the model's budget, log entry 5). -/
def Obligations.HoldBeginsAnEpisode : Prop :=
  ∀ (r : ReqCell) (s : State), accepted 9 r s → (s.mru.line = .run ∨ s.mru.line = .draining) →
    (s.hld.phase = .none ∨ s.hld.phase = .resuming) →
    ∃ t, exec (.hold r) s = .next (pushReply r.src r.tag .ok
        (replyData ([(5, lineStateCode s.mru.line), (6, 1)] ++ wordAt 7 (s.hld.episode + 1).toNat ++ [(9, 0)])) t)
      ∧ Undisturbed s t ∧ t.mru = s.mru
      ∧ t.hld.phase = .stopping ∧ t.hld.episode = s.hld.episode + 1 ∧ t.hld.stillCount = 0
      ∧ t.hld.stopTimer = some (stopTimeout s.tbs) ∧ t.hld.resumeTimer = none
      ∧ (∃ x, t.hld.record = some x ∧ x.episode = s.hld.episode + 1 ∧ x.primary = .request r.src
          ∧ x.entryPosition = s.btk.position ∧ x.stopPosition = none ∧ x.lock = .locked
          ∧ x.lines.map (fun l => (l.board, l.leadOffset, l.flux, l.wave, l.nozzleOpen, l.forcedRework))
              = s.btk.train.map fun b =>
                  (b.number, signedDiff s.btk.position b.lead, b.flux, b.wave, nozzleOpenFor s b.number, b.wave == .inContact))
      ∧ t.btk.train.map (·.holds) = s.btk.train.map (fun b => min 255 (b.holds + 1))
      ∧ (∀ (i : Nat) (b b' : Board), s.btk.train[i]? = some b → t.btk.train[i]? = some b' → b.wave = .inContact →
          b'.disposition = .rework ∧ b'.defects &&& 16 = 16)
      ∧ (t.overrun = true ∨ ((outputRecord t (O 19)).automatic = 0 ∧ t.flx.forcing = true
          ∧ (∀ z : ZoneIx, zoneTargetNow t z = standbySetpoint t.tbs (zoneLoop z) ∧ zoneFeedforwardNow t z = 0)
          ∧ (outputRecord t (O 17)).automatic = 0 ∧ (outputRecord t (O 18)).automatic = 0))

/-- R185, R188, R191: a HOLD that finds the phase STOPPING or HELD joins the episode and locks its record; ACK_HOLD acknowledges the
record in every phase, and is refused with STATE where there is none. -/
def Obligations.HoldJoinsAndIsAcknowledged : Prop :=
  ∀ (r : ReqCell) (s : State), (s.mru.line = .run ∨ s.mru.line = .draining) →
    (accepted 9 r s → (s.hld.phase = .stopping ∨ s.hld.phase = .held) →
      exec (.hold r) s = .next (pushReply r.src r.tag .ok
        (replyData ([(5, lineStateCode s.mru.line), (6, holdPhaseCode s.hld.phase)] ++ wordAt 7 s.hld.episode.toNat ++ [(9, 1)]))
        { s with hld := { s.hld with record := s.hld.record.map fun x =>
            if x.later.length < 7 then { x with later := x.later ++ [.request r.src], lock := .locked }
            else { x with notListed := min 255 (x.notListed + 1), lock := .locked } } }))
    ∧ (accepted 10 r s → s.hld.record = none → exec (.ackHold r) s = .next (pushReply r.src r.tag .state noData s))
    ∧ ∀ x, accepted 10 r s → s.hld.record = some x →
        exec (.ackHold r) s = .next (pushReply r.src r.tag .ok
          (replyData ([(5, lineStateCode s.mru.line), (6, holdPhaseCode s.hld.phase)] ++ wordAt 7 s.hld.episode.toNat ++ [(9, 1)]))
          { s with hld := { s.hld with record := some { x with lock := .acknowledged } } })

/-- R192, R78: SET_DISPOSITION by the rows of its table. A board set to REWORK has that disposition after the event; one returned to
CONTINUE has it unless the event gave it a defect. -/
def Obligations.DispositionSetWhileHeld : Prop :=
  ∀ (r : ReqCell) (s : State), accepted 11 r s → (s.mru.line = .run ∨ s.mru.line = .draining) →
    (let n : BoardNo := BitVec.ofNat 16 (reqWord r 6)
     let refused (status : ReplyStatus) : Prop := exec (.setDisposition r) s = .next (pushReply r.src r.tag status noData s)
     (s.hld.phase ≠ .held → refused .state)
     ∧ (s.hld.phase = .held → lineOf s n = none ∨ findBoard s.btk.train n = none → refused .badIndex)
     ∧ ∀ l b, s.hld.phase = .held → lineOf s n = some l → findBoard s.btk.train n = some b →
        (1 < reqByte r 8 → refused .badValue)
        ∧ (reqByte r 8 = 0 → l.forcedRework = true ∨ b.defects ≠ 0 → refused .badValue)
        ∧ (reqByte r 8 = 1 ∨ (reqByte r 8 = 0 ∧ l.forcedRework = false ∧ b.defects = 0) → ∃ t data,
            exec (.setDisposition r) s = .next (pushReply r.src r.tag .ok data t)
            ∧ Undisturbed s t ∧ t.mru = s.mru ∧ t.hld.phase = .held ∧ t.hld.episode = s.hld.episode
            ∧ ∃ b', findBoard t.btk.train n = some b'
              ∧ (reqByte r 8 = 1 → b'.disposition = .rework)
              ∧ (reqByte r 8 = 0 → b'.disposition = .goOn ∨ b'.defects ≠ 0)))

/-- R193: RESUME by the rows of its table, with the bytes 9 and 10 of each refusal. Taken, the phase is RESUMING with its timer
running, unless a cause of the same event began the next episode. The clauses of the later rows and of the taken RESUME test the
alarms with a hold link alone, so that it is taken also with A30 or A31 LATCHED without a hold link: that is the model's choice of
R193 over a sentence of R167 (DESIGN CHOICE, log entry 67). -/
def Obligations.ResumeDecidedByItsTable : Prop :=
  ∀ (r : ReqCell) (s : State), accepted 12 r s → (s.mru.line = .run ∨ s.mru.line = .draining) →
    (let refused (status : ReplyStatus) (b9 b10 : Nat) : Prop := exec (.resume r) s = .next (pushReply r.src r.tag status
        (replyData ([(5, lineStateCode s.mru.line), (6, holdPhaseCode s.hld.phase)] ++ wordAt 7 s.hld.episode.toNat
          ++ [(9, b9), (10, b10)])) s)
     let needs (b : Board) : Prop := b.disposition = .goOn ∧ b.wave = .pending
        ∧ (0 < boardWaveSpeed s.tbs b .chip ∨ 0 < boardWaveSpeed s.tbs b .laminar)
     let fluxRow : Prop := groupActive s .flux = true
        ∧ ∃ b ∈ s.btk.train, b.disposition = .goOn ∧ (b.flux = .pending ∨ b.flux = .spraying)
     let preheatRow : Prop := groupActive s .preheat = true
        ∧ ∃ b ∈ s.btk.train, b.disposition = .goOn ∧ boardOffset s.btk.position b < zoneEnd s.tbs 2
     let waveRow : Prop := groupActive s .wave = true ∧ ∃ b ∈ s.btk.train, needs b
     let potRow : Prop := s.pot.state ≠ .ready ∧ ∃ b ∈ s.btk.train, needs b
     let unlocked : Prop := s.hld.phase = .held ∧ ¬∃ x, s.hld.record = some x ∧ x.lock = .locked
     let noAlarm : Prop := ∀ a : AlarmIx, holdAlarmSet s a = false
     (s.hld.phase ≠ .held → refused .state 0 0)
     ∧ (s.hld.phase = .held → (∃ x, s.hld.record = some x ∧ x.lock = .locked) → refused .locked 1 0)
     ∧ (∀ a : AlarmIx, unlocked → holdAlarmSet s a = true → (∀ b : AlarmIx, b < a → holdAlarmSet s b = false) →
          refused .stillActive 2 a.val)
     ∧ (unlocked → noAlarm → fluxRow → refused .stillActive 3 0)
     ∧ (unlocked → noAlarm → ¬fluxRow → preheatRow → refused .stillActive 3 1)
     ∧ (unlocked → noAlarm → ¬fluxRow → ¬preheatRow → waveRow → refused .stillActive 3 3)
     ∧ (unlocked → noAlarm → ¬fluxRow → ¬preheatRow → ¬waveRow → potRow → refused .state 4 0)
     ∧ (unlocked → noAlarm → ¬fluxRow → ¬preheatRow → ¬waveRow → ¬potRow → ∃ t,
          exec (.resume r) s = .next (pushReply r.src r.tag .ok
            (replyData ([(5, lineStateCode s.mru.line), (6, holdPhaseCode t.hld.phase)] ++ wordAt 7 t.hld.episode.toNat)) t)
          ∧ Undisturbed s t ∧ t.mru = s.mru
          ∧ ((t.hld.phase = .resuming ∧ t.hld.episode = s.hld.episode ∧ t.hld.resumeTimer = some (resumeTimeout s.tbs))
            ∨ (t.hld.phase = .stopping ∧ t.hld.episode = s.hld.episode + 1))))

/-! ## Alarms, cutoffs and the pot's requests -/

/-- R175, R176, R157: ACK_ALARM by the alarm's state: a LATCHED alarm becomes CLEAR with its occurrences kept and its count 0, a PENDING
or ACTIVE one refuses. For an alarm that the pot does not watch the whole effect is given: the record, admission, and for A24 the
feeder. For one that it watches, the record and the pot: A25 may be given its condition again as the pumps' commands change in the
same event, and its reply carries the state it then has. -/
def Obligations.AlarmAcknowledged : Prop :=
  ∀ (r : ReqCell) (s : State) (a : AlarmIx), accepted 19 r s → reqByte r 6 = a.val →
    ((s.acu.alarms[a]).state = .pending ∨ (s.acu.alarms[a]).state = .active →
        exec (.ackAlarm r) s = .next (pushReply r.src r.tag .stillActive noData s))
    ∧ ((s.acu.alarms[a]).state = .clear → a ≠ A 24 →
        exec (.ackAlarm r) s = .next (pushReply r.src r.tag .ok (replyData [(6, a.val), (7, 0)]) s))
    ∧ ((s.acu.alarms[a]).state = .latched → a ≠ A 24 → isPotAlarm a = false → ∃ t,
        exec (.ackAlarm r) s = .next (pushReply r.src r.tag .ok (replyData [(6, a.val), (7, 0)]) t)
        ∧ GateOnly (setAlarm s a { s.acu.alarms[a] with state := .clear, count := 0 }) t)
    ∧ ((s.acu.alarms[a]).state = .latched → isPotAlarm a = true → ∃ t,
        exec (.ackAlarm r) s = .next (pushReply r.src r.tag .ok
          (replyData [(6, a.val), (7, alarmStateCode (t.acu.alarms[a]).state)]) t) ∧ Undisturbed s t
        ∧ (a ≠ A 25 → t.acu.alarms[a] = { s.acu.alarms[a] with state := .clear, count := 0 })
        ∧ ((t.acu.alarms[a]).state = .clear ∨ (t.acu.alarms[a]).state = .pending ∨ (t.acu.alarms[a]).raiseCycle = some s.lif.cycle)
        ∧ (s.mru.line ≠ .unconfigured → s.pot.state = .fault → (∀ b, b ≠ a → isPotAlarm b = true → alarmSet s b = false) →
            t.overrun = true ∨ t.pot.state ≠ .fault ∨ potAlarmRaised t))
    ∧ ((s.acu.alarms[a]).state = .latched ∨ (s.acu.alarms[a]).state = .clear → a = A 24 → ∃ t,
        exec (.ackAlarm r) s = .next (pushReply r.src r.tag .ok (replyData [(6, 24), (7, 0)]) t) ∧ Undisturbed s t
        ∧ (t.acu.alarms[a]).state = .clear
        ∧ (s.mru.line ≠ .unconfigured → s.pot.feeder.state = .faulted →
            t.pot.feeder.ineffective = 0 ∧ (t.pot.feeder.state = .idle ∨ t.pot.feeder.state = .feeding)))

/-- R179, R180, R181, R182, R155: FORCE_CUTOFF sets the manual flag and makes the group ACTIVE, with the request as its cause where it
was INACTIVE; FEED then aborts a feed in flight. CLEAR_CUTOFF goes by the rows of its table: a group that is cleared is INACTIVE
after the event, unless an alarm linked to it was raised in the same cycle. -/
def Obligations.CutoffForcedAndCleared : Prop :=
  (∀ (r : ReqCell) (s : State) (g : Group), accepted 20 r s → reqByte r 6 = (groupIx g).val →
    ∃ t, exec (.forceCutoff r) s = .next (pushReply r.src r.tag .ok (replyData [(6, (groupIx g).val), (7, 1)]) t)
      ∧ Undisturbed s t
      ∧ (groupRecord t g).active = true ∧ (groupRecord t g).manual = true
      ∧ (groupRecord t g).cause = (if (groupRecord s g).active = true then (groupRecord s g).cause else some (.request r.src))
      ∧ ((groupRecord s g).active = true → t = setGroup s g { groupRecord s g with manual := true })
      ∧ (g = .feed → (groupRecord s g).active = false → s.mru.line ≠ .unconfigured → s.pot.feeder.state = .feeding →
          t.out.operation = some ⟨.abort, 0, s.pot.feeder.number⟩ ∧ t.pot.feeder = { s.pot.feeder with aborted := true }))
  ∧ ∀ (r : ReqCell) (s : State) (g : Group), accepted 21 r s → reqByte r 6 = (groupIx g).val →
    (let linked : Prop := ∃ a : AlarmIx, groupLink (s.tbs.alarms[a]).links g = true ∧ (s.acu.alarms[a]).state ≠ .clear
     let busy : Prop := (g = .flux ∨ g = .wave) ∧ s.btk.train ≠ [] ∧ s.hld.phase ≠ .held
     (groupActive s g = false →
        exec (.clearCutoff r) s = .next (pushReply r.src r.tag .ok (replyData [(6, (groupIx g).val), (7, 0)]) s))
     ∧ (groupActive s g = true → linked → exec (.clearCutoff r) s = .next (pushReply r.src r.tag .stillActive noData s))
     ∧ (groupActive s g = true → ¬linked → busy → exec (.clearCutoff r) s = .next (pushReply r.src r.tag .busy noData s))
     ∧ (groupActive s g = true → ¬linked → ¬busy → ∃ t data,
          exec (.clearCutoff r) s = .next (pushReply r.src r.tag .ok data t) ∧ Undisturbed s t
          ∧ (groupRecord t g = ⟨false, false, none⟩
            ∨ ∃ a : AlarmIx, groupLink (t.tbs.alarms[a]).links g = true
              ∧ (t.acu.alarms[a]).raiseCycle = some t.lif.cycle)))

/-- R153, R28, R9: FEED_NOW starts a feed where conditions 1 to 4 hold, and is refused with STATE in every other case. That the
operation record keeps the quantum as it is, while the COMMAND carries it clamped to the output limit, is the model's reading
(DEDUCED, log entry 30). -/
def Obligations.FeedStartedOnRequest : Prop :=
  ∀ (r : ReqCell) (s : State), accepted 22 r s → s.mru.line ≠ .unconfigured →
    (let may : Prop := s.pot.feeder.state = .idle ∧ (s.pot.state = .molten ∨ s.pot.state = .ready)
        ∧ groupActive s .feed = false ∧ ∃ m, s.pot.level = some m ∧ m < levelHigh s.tbs
     (¬may → exec (.feedNow r) s = .next (pushReply r.src r.tag .state noData s))
     ∧ (may → ∃ t, exec (.feedNow r) s = .next (pushReply r.src r.tag .ok
            (replyData [(6, (s.pot.feeder.number + 1).toNat)]) t)
          ∧ t.pot = { s.pot with feeder := { s.pot.feeder with
              state := .feeding, number := s.pot.feeder.number + 1, levelBefore := s.pot.level, delivered := 0,
              aborted := false, feedTimer := some (feedTimeout s.tbs) } }
          ∧ t.out = { s.out with operation := some ⟨.feed, (feedQuantum s.tbs).toNat, s.pot.feeder.number + 1⟩ }
          ∧ t.lif = (if s.tbs.outputCommitted[(O 21)] = true then
              takeCommand ⟨O 21, outputNode s.tbs (O 21), outputChannel s.tbs (O 21),
                min (feedQuantum s.tbs).toNat (outputLimit s.tbs (O 21)), s.pot.feeder.number + 1, .feed⟩ s.lif else s.lif)
          ∧ t = { s with pot := t.pot, out := t.out, lif := t.lif }))

/-- R141, R138: SETBACK by the rows of its table. A pot that is sent to SETBACK is there after the event, unless a pot alarm was
raised in the same cycle; one that leaves it is out of it, unless the setback delay is 0. -/
def Obligations.SetbackTakenAndLeft : Prop :=
  ∀ (r : ReqCell) (s : State), accepted 23 r s → s.mru.line ≠ .unconfigured →
    (let unchanged (status : ReplyStatus) (data : List Byte) : Prop :=
        exec (.setback r) s = .next (pushReply r.src r.tag status data s)
     (1 < reqByte r 6 → unchanged .badValue noData)
     ∧ (reqByte r 6 = 1 → s.pot.state = .setback → unchanged .ok (replyData [(6, 4)]))
     ∧ (reqByte r 6 = 1 → s.pot.state = .cold ∨ s.pot.state = .melting ∨ s.pot.state = .fault → unchanged .state noData)
     ∧ (reqByte r 6 = 0 → s.pot.state ≠ .setback → unchanged .ok (replyData [(6, potStateCode s.pot.state)]))
     ∧ (reqByte r 6 = 1 → belowLiquidus s = false → anyPotAlarmSet s = false →
          (s.pot.state = .molten ∧ readyConditions s = false) ∨ (s.pot.state = .ready ∧ readyConditions s = true) → ∃ t,
          exec (.setback r) s = .next (pushReply r.src r.tag .ok (replyData [(6, potStateCode t.pot.state)]) t)
          ∧ Undisturbed s t ∧ (t.pot.state = .setback ∨ potAlarmRaised t))
     ∧ (reqByte r 6 = 0 → s.pot.state = .setback → setbackDelay s.tbs ≠ 0 → ∃ t,
          exec (.setback r) s = .next (pushReply r.src r.tag .ok (replyData [(6, potStateCode t.pot.state)]) t)
          ∧ Undisturbed s t ∧ t.pot.state ≠ .setback))

/-! ## Completions and timers -/

/-- R154, R4: a COMPLETION that passes the tests of R4, outside UNCONFIGURED: one that matches no feed in flight is counted as
ignored; DONE and ABORTED begin the settling; FAULT raises A24 and faults the feeder. -/
def Obligations.CompletionTaken : Prop :=
  ∀ (c : CompletionCell) (s : State), verdict s.lif.openCycle (completionRaw c) = .toPot → s.mru.line ≠ .unconfigured →
    (let matches' : Prop := c.src = outputNode s.tbs (O 21) ∧ c.number = s.pot.feeder.number ∧ s.pot.feeder.state = .feeding
     (¬matches' → exec (.completion c) s = .next { s with pot := { s.pot with ignored := min 65535 (s.pot.ignored + 1) } })
     ∧ (matches' → c.result = 0 ∨ c.result = 1 → settleTime s.tbs ≠ 0 →
          exec (.completion c) s = .next { s with pot := { s.pot with feeder := { s.pot.feeder with
            state := .settling, delivered := c.quantity.toNat, feedTimer := none,
            aborted := s.pot.feeder.aborted || c.result == 1, settleTimer := some (settleTime s.tbs) } } })
     ∧ (matches' → c.result ≠ 0 → c.result ≠ 1 → ∃ t, exec (.completion c) s = .next t ∧ Undisturbed s t
          ∧ t.pot.feeder.delivered = c.quantity.toNat ∧ t.pot.feeder.feedTimer = none
          ∧ (t.overrun = true ∨ t.pot.feeder.state = .faulted)
          ∧ ((s.tbs.alarms[A 24]).masked = false → (t.acu.alarms[A 24]).raiseCycle = some s.lif.cycle
              ∧ alarmSet t (A 24) = true)))

/-- R85, R190, R169, R171, R185: the expiries of the three timers that give A41 its condition. On a stopped timer nothing happens
(log entry 1). With A41 masked the condition is kept and nothing else happens (that ACU still stores it is DEDUCED, log entry 25);
where A41 is raised by it, its hold link brings the line to STOPPING. -/
def Obligations.ConveyorTimersRaiseTheFault : Prop :=
  ∀ s : State,
    (s.btk.noMotionTimer = none → exec .noMotionTimerExpiry s = .next s)
    ∧ (s.hld.stopTimer = none → exec .stopTimerExpiry s = .next s)
    ∧ (s.hld.resumeTimer = none → exec .resumeTimerExpiry s = .next s)
    ∧ (s.btk.noMotionTimer ≠ none → (s.tbs.alarms[A 41]).masked = true →
        exec .noMotionTimerExpiry s = .next { s with
          btk := { s.btk with noMotionTimer := none, faultCondition := true }, acu := { s.acu with a41Btk := true } })
    ∧ (s.hld.stopTimer ≠ none → s.hld.phase = .stopping → (s.tbs.alarms[A 41]).masked = true → s.btk.v8 ≠ none →
        exec .stopTimerExpiry s = .next { s with
          hld := { s.hld with stopTimer := none, faultCondition := true }, acu := { s.acu with a41Hld := true } })
    ∧ (s.hld.resumeTimer ≠ none → s.hld.phase = .resuming → (s.tbs.alarms[A 41]).masked = true →
        exec .resumeTimerExpiry s = .next { s with
          hld := { s.hld with resumeTimer := none, faultCondition := true }, acu := { s.acu with a41Hld := true } })
    ∧ (s.btk.noMotionTimer ≠ none → raisesConveyorFault s → ∃ t, exec .noMotionTimerExpiry s = .next t ∧ Undisturbed s t
        ∧ (t.acu.alarms[A 41]).raiseCycle = some s.lif.cycle
        ∧ (holdLink (s.tbs.alarms[A 41]).links = true → lineTakesHolds s = true →
            s.hld.phase = .none ∨ s.hld.phase = .resuming →
            t.hld.phase = .stopping ∧ t.hld.record.map (·.primary) = some (.alarm (A 41))))
    ∧ (s.hld.stopTimer ≠ none → s.hld.phase = .stopping → lineTakesHolds s = true → ∃ t,
        exec .stopTimerExpiry s = .next t ∧ t.mru = s.mru ∧ t.tbs = s.tbs ∧ t.btk.position = s.btk.position
        ∧ (raisesConveyorFault s → (t.acu.alarms[A 41]).raiseCycle = some s.lif.cycle)
        ∧ (s.btk.v8 ≠ none → t.hld.phase = .stopping)
        ∧ (s.btk.v8 = none → t.overrun = true ∨ (t.hld.phase = .held ∧ t.hld.faultCondition = false
            ∧ t.hld.stopTimer = none ∧ t.hld.resumeTimer = none)))
    ∧ (s.hld.resumeTimer ≠ none → s.hld.phase = .resuming → raisesConveyorFault s → ∃ t,
        exec .resumeTimerExpiry s = .next t ∧ Undisturbed s t
        ∧ (t.acu.alarms[A 41]).raiseCycle = some s.lif.cycle
        ∧ (holdLink (s.tbs.alarms[A 41]).links = true → lineTakesHolds s = true →
            t.hld.phase = .stopping ∧ t.hld.record.map (·.primary) = some (.alarm (A 41))))

/-- R138, R141, R155, R156: the expiries of the pot's and the feeder's timers. On a stopped timer nothing happens (log entry 1). That
the feed timer is stopped and the quantity kept at its expiry is stated for a feeder in FEEDING, in which the timer runs, and the
debt and the state after a feed judged ineffective for one in SETTLING, in which the settle timer runs; back in IDLE below three in
a row, it may start the next feed at once (R153). -/
def Obligations.PotTimersExpire : Prop :=
  ∀ s : State,
    (s.pot.meltTimer = none → exec .meltDwellExpiry s = .next s)
    ∧ (s.pot.setbackTimer = none → exec .setbackTimerExpiry s = .next s)
    ∧ (s.pot.feeder.feedTimer = none → exec .feedTimerExpiry s = .next s)
    ∧ (s.pot.feeder.settleTimer = none → exec .settleTimerExpiry s = .next s)
    ∧ (s.pot.meltTimer ≠ none → s.mru.line ≠ .unconfigured → s.pot.state = .melting → belowLiquidus s = false →
        anyPotAlarmSet s = false → ∃ t, exec .meltDwellExpiry s = .next t ∧ Undisturbed s t
        ∧ (t.pot.state = .molten ∨ t.pot.state = .ready ∨ t.pot.state = .setback ∨ potAlarmRaised t))
    ∧ (s.pot.setbackTimer ≠ none → s.mru.line ≠ .unconfigured → belowLiquidus s = false → anyPotAlarmSet s = false →
        (s.pot.state = .molten ∧ readyConditions s = false) ∨ (s.pot.state = .ready ∧ readyConditions s = true) → ∃ t,
        exec .setbackTimerExpiry s = .next t ∧ Undisturbed s t ∧ (t.pot.state = .setback ∨ potAlarmRaised t))
    ∧ (s.pot.feeder.feedTimer ≠ none → ∃ t, exec .feedTimerExpiry s = .next t ∧ Undisturbed s t
        ∧ (s.pot.feeder.state = .feeding →
            t.pot.feeder.feedTimer = none ∧ t.pot.feeder.delivered = s.pot.feeder.delivered)
        ∧ (t.overrun = true ∨ t.pot.feeder.state = .faulted)
        ∧ ((s.tbs.alarms[A 24]).masked = false → (t.acu.alarms[A 24]).raiseCycle = some s.lif.cycle
            ∧ alarmSet t (A 24) = true))
    ∧ (s.pot.feeder.settleTimer ≠ none →
        (let f := s.pot.feeder
         let judged : Prop := f.aborted = false ∧ s.pot.level ≠ none
         let ineffective : Prop := (s.pot.level.getD 0 - f.levelBefore.getD 0) * 2 < Int.tdiv (risePerGram s.tbs * f.delivered) 10
         let settled (n : Nat) : State := { s with pot := { s.pot with
           debt := max 0 (s.pot.debt - f.delivered),
           feeder := { f with settleTimer := none, ineffective := n, state := .idle } } }
         (∀ n, n ≠ 3 → (¬judged ∧ n = f.ineffective) ∨ (judged ∧ ¬ineffective ∧ n = 0) →
            exec .settleTimerExpiry s = .next
              (if mayFeed (settled n) = true ∧ wantsFeed (settled n) = true then startFeed (settled n) else settled n))
         ∧ (judged → ineffective → ∃ t, exec .settleTimerExpiry s = .next t ∧ Undisturbed s t
              ∧ t.pot.feeder.settleTimer = none ∧ t.pot.feeder.ineffective = min 3 (f.ineffective + 1)
              ∧ ((s.tbs.alarms[A 23]).masked = false → (t.acu.alarms[A 23]).raiseCycle = some s.lif.cycle)
              ∧ (2 ≤ f.ineffective → t.overrun = true ∨ t.pot.feeder.state = .faulted)
              ∧ (f.state = .settling → t.overrun = true ∨ t.pot.debt = max 0 (s.pot.debt - f.delivered))
              ∧ (f.state = .settling → f.ineffective < 2 → t.overrun = true ∨ t.pot.feeder.state = .idle
                  ∨ (t.pot.feeder.state = .feeding ∧ t.pot.feeder.number = f.number + 1)))))

/-- R146, R163, R164, R165: the expiries of the grace timers of the pumps and the fans, with the duct conditions that R164 forms. R163
to R165 give the three conditions of a duct no order: airflow, filter, fan fault is the model's (DESIGN CHOICE, log entry 48), and
the clauses on the first true one rest on it. On a stopped timer nothing happens (log entry 1). With the alarms masked the whole effect is given; else the
conditions formed where none is true, and the first true one raises its alarm, from CLEAR with delay 0 or from LATCHED (what it
raises can change the fan commands, and with them the conditions that follow). -/
def Obligations.GraceTimersExpire : Prop :=
  (∀ (w : Wave) (s : State),
    ((pumpOf s.pot w).grace = none → exec (.pumpGraceExpiry w) s = .next s)
    ∧ ((pumpOf s.pot w).grace ≠ none →
        (let fault : Bool := decide (0 < (outputRecord s (pumpOutput w)).delivered) && !(pumpOf s.pot w).atSpeed
         ((s.tbs.alarms[A 25]).masked = true →
            exec (.pumpGraceExpiry w) s = .next (setPump s w { pumpOf s.pot w with grace := none, fault := fault }))
         ∧ (fault = true → (s.tbs.alarms[A 25]).masked = false → (s.acu.alarms[A 25]).state = .latched
              ∨ ((s.acu.alarms[A 25]).state = .clear ∧ (s.tbs.alarms[A 25]).delay = 0) → ∃ t,
              exec (.pumpGraceExpiry w) s = .next t ∧ Undisturbed s t
              ∧ (t.acu.alarms[A 25]).raiseCycle = some s.lif.cycle))))
  ∧ ∀ (d : Duct) (s : State),
    ((ductOf s.exm d).grace = none → exec (.fanGraceExpiry d) s = .next s)
    ∧ ((ductOf s.exm d).grace ≠ none → s.mru.line = .unconfigured →
        exec (.fanGraceExpiry d) s = .next (setDuct s d { ductOf s.exm d with grace := none }))
    ∧ ((ductOf s.exm d).grace ≠ none → s.mru.line ≠ .unconfigured →
        (let low (i : SigIx) (minimum : Int) : Bool := decide ((s.sig[i]).freshness = .stale ∨ ((s.sig[i]).freshness = .fresh
            ∧ ((s.sig[i]).status ≠ some .good ∨ (s.sig[i]).lastGood.getD 0 < minimum)))
         let airflow : Bool := low (ductSignalOf d .airflow) (minimumAirflow s.tbs d)
         let filter : Bool := decide ((s.sig[ductSignalOf d .filter]).freshness = .fresh
             ∧ (s.sig[ductSignalOf d .filter]).status = some .good
             ∧ maximumFilterPressure s.tbs d < (s.sig[ductSignalOf d .filter]).lastGood.getD 0)
         let fanFault : Bool := decide (0 < (ductOf s.exm d).fanDelivered)
             && low (ductSignalOf d .fanFault) (minimumFanSpeed s.tbs d)
         let formed : State := setDuct s d { ductOf s.exm d with
           grace := none, airflow := airflow, filter := filter, fanFault := fanFault }
         let raisable (x : DuctCondition) : Prop := (s.tbs.alarms[ductAlarm d x]).masked = false
           ∧ ((s.acu.alarms[ductAlarm d x]).state = .latched
             ∨ ((s.acu.alarms[ductAlarm d x]).state = .clear ∧ (s.tbs.alarms[ductAlarm d x]).delay = 0))
         ((∀ x, (s.tbs.alarms[ductAlarm d x]).masked = true) → exec (.fanGraceExpiry d) s = .next formed)
         ∧ ∃ t, exec (.fanGraceExpiry d) s = .next t ∧ Undisturbed s t
           ∧ (airflow = false → filter = false → fanFault = false → t.exm = formed.exm)
           ∧ (airflow = true → raisable .airflow → (t.acu.alarms[ductAlarm d .airflow]).raiseCycle = some s.lif.cycle)
           ∧ (airflow = false → filter = true → raisable .filter →
               (t.acu.alarms[ductAlarm d .filter]).raiseCycle = some s.lif.cycle)
           ∧ (airflow = false → filter = false → fanFault = true → raisable .fanFault →
               (t.acu.alarms[ductAlarm d .fanFault]).raiseCycle = some s.lif.cycle)))

end
end

