-- ==== Sys2Proof/Laws/State.lean ====
section
/-! SUPPORT. What each state update leaves and what it sets, one lemma per field, so that no proof unfolds a record update. -/

namespace Sys2Proof.Machine

/-! ## Vectors -/

@[simp] theorem vset_getElem {α : Type} {n : Nat} (v : Vector α n) (i : Fin n) (x : α) (j : Nat) (h : j < n) :
    (vset v i x)[j] = if i.val = j then x else v[j] := Vector.getElem_set ..

theorem vset_same {α : Type} {n : Nat} (v : Vector α n) (i : Fin n) (x : α) : (vset v i x)[i] = x := by simp

theorem vset_other {α : Type} {n : Nat} (v : Vector α n) {i j : Fin n} (h : i ≠ j) (x : α) : (vset v i x)[j] = v[j] := by
  simp [Fin.val_ne_of_ne h]

/-! ## countCheckError -/

@[simp] theorem countCheckError_sig (s : State) : (countCheckError s).sig = s.sig := rfl
@[simp] theorem countCheckError_out (s : State) : (countCheckError s).out = s.out := rfl
@[simp] theorem countCheckError_mru (s : State) : (countCheckError s).mru = s.mru := rfl
@[simp] theorem countCheckError_tbs (s : State) : (countCheckError s).tbs = s.tbs := rfl
@[simp] theorem countCheckError_btk (s : State) : (countCheckError s).btk = s.btk := rfl
@[simp] theorem countCheckError_flx (s : State) : (countCheckError s).flx = s.flx := rfl
@[simp] theorem countCheckError_tle (s : State) : (countCheckError s).tle = s.tle := rfl
@[simp] theorem countCheckError_phm (s : State) : (countCheckError s).phm = s.phm := rfl
@[simp] theorem countCheckError_pot (s : State) : (countCheckError s).pot = s.pot := rfl
@[simp] theorem countCheckError_exm (s : State) : (countCheckError s).exm = s.exm := rfl
@[simp] theorem countCheckError_acu (s : State) : (countCheckError s).acu = s.acu := rfl
@[simp] theorem countCheckError_hld (s : State) : (countCheckError s).hld = s.hld := rfl
@[simp] theorem countCheckError_overrun (s : State) : (countCheckError s).overrun = s.overrun := rfl
@[simp] theorem countCheckError_pending (s : State) : (countCheckError s).pending = s.pending := rfl

/-! ## countLateCell -/

@[simp] theorem countLateCell_sig (s : State) : (countLateCell s).sig = s.sig := rfl
@[simp] theorem countLateCell_out (s : State) : (countLateCell s).out = s.out := rfl
@[simp] theorem countLateCell_mru (s : State) : (countLateCell s).mru = s.mru := rfl
@[simp] theorem countLateCell_tbs (s : State) : (countLateCell s).tbs = s.tbs := rfl
@[simp] theorem countLateCell_btk (s : State) : (countLateCell s).btk = s.btk := rfl
@[simp] theorem countLateCell_flx (s : State) : (countLateCell s).flx = s.flx := rfl
@[simp] theorem countLateCell_tle (s : State) : (countLateCell s).tle = s.tle := rfl
@[simp] theorem countLateCell_phm (s : State) : (countLateCell s).phm = s.phm := rfl
@[simp] theorem countLateCell_pot (s : State) : (countLateCell s).pot = s.pot := rfl
@[simp] theorem countLateCell_exm (s : State) : (countLateCell s).exm = s.exm := rfl
@[simp] theorem countLateCell_acu (s : State) : (countLateCell s).acu = s.acu := rfl
@[simp] theorem countLateCell_hld (s : State) : (countLateCell s).hld = s.hld := rfl
@[simp] theorem countLateCell_overrun (s : State) : (countLateCell s).overrun = s.overrun := rfl
@[simp] theorem countLateCell_pending (s : State) : (countLateCell s).pending = s.pending := rfl

/-! ## countDropped -/

@[simp] theorem countDropped_lif (s : State) : (countDropped s).lif = s.lif := rfl
@[simp] theorem countDropped_sig (s : State) : (countDropped s).sig = s.sig := rfl
@[simp] theorem countDropped_out (s : State) : (countDropped s).out = s.out := rfl
@[simp] theorem countDropped_tbs (s : State) : (countDropped s).tbs = s.tbs := rfl
@[simp] theorem countDropped_btk (s : State) : (countDropped s).btk = s.btk := rfl
@[simp] theorem countDropped_flx (s : State) : (countDropped s).flx = s.flx := rfl
@[simp] theorem countDropped_tle (s : State) : (countDropped s).tle = s.tle := rfl
@[simp] theorem countDropped_phm (s : State) : (countDropped s).phm = s.phm := rfl
@[simp] theorem countDropped_pot (s : State) : (countDropped s).pot = s.pot := rfl
@[simp] theorem countDropped_exm (s : State) : (countDropped s).exm = s.exm := rfl
@[simp] theorem countDropped_acu (s : State) : (countDropped s).acu = s.acu := rfl
@[simp] theorem countDropped_hld (s : State) : (countDropped s).hld = s.hld := rfl
@[simp] theorem countDropped_overrun (s : State) : (countDropped s).overrun = s.overrun := rfl
@[simp] theorem countDropped_pending (s : State) : (countDropped s).pending = s.pending := rfl

/-! ## countLateEdges -/

@[simp] theorem countLateEdges_lif (n : Nat) (s : State) : (countLateEdges n s).lif = s.lif := rfl
@[simp] theorem countLateEdges_sig (n : Nat) (s : State) : (countLateEdges n s).sig = s.sig := rfl
@[simp] theorem countLateEdges_out (n : Nat) (s : State) : (countLateEdges n s).out = s.out := rfl
@[simp] theorem countLateEdges_mru (n : Nat) (s : State) : (countLateEdges n s).mru = s.mru := rfl
@[simp] theorem countLateEdges_tbs (n : Nat) (s : State) : (countLateEdges n s).tbs = s.tbs := rfl
@[simp] theorem countLateEdges_btk (n : Nat) (s : State) : (countLateEdges n s).btk = s.btk := rfl
@[simp] theorem countLateEdges_tle (n : Nat) (s : State) : (countLateEdges n s).tle = s.tle := rfl
@[simp] theorem countLateEdges_phm (n : Nat) (s : State) : (countLateEdges n s).phm = s.phm := rfl
@[simp] theorem countLateEdges_pot (n : Nat) (s : State) : (countLateEdges n s).pot = s.pot := rfl
@[simp] theorem countLateEdges_exm (n : Nat) (s : State) : (countLateEdges n s).exm = s.exm := rfl
@[simp] theorem countLateEdges_acu (n : Nat) (s : State) : (countLateEdges n s).acu = s.acu := rfl
@[simp] theorem countLateEdges_hld (n : Nat) (s : State) : (countLateEdges n s).hld = s.hld := rfl
@[simp] theorem countLateEdges_overrun (n : Nat) (s : State) : (countLateEdges n s).overrun = s.overrun := rfl
@[simp] theorem countLateEdges_pending (n : Nat) (s : State) : (countLateEdges n s).pending = s.pending := rfl
@[simp] theorem countLateEdges_flx_lateEdges (n : Nat) (s : State) :
    (countLateEdges n s).flx.lateEdges = satAdd 65535 s.flx.lateEdges n := rfl

/-! ## pushReply -/

@[simp] theorem pushReply_sig (d g : Byte) (x : ReplyStatus) (y : List Byte) (s : State) :
    (pushReply d g x y s).sig = s.sig := rfl
@[simp] theorem pushReply_out (d g : Byte) (x : ReplyStatus) (y : List Byte) (s : State) :
    (pushReply d g x y s).out = s.out := rfl
@[simp] theorem pushReply_mru (d g : Byte) (x : ReplyStatus) (y : List Byte) (s : State) :
    (pushReply d g x y s).mru = s.mru := rfl
@[simp] theorem pushReply_tbs (d g : Byte) (x : ReplyStatus) (y : List Byte) (s : State) :
    (pushReply d g x y s).tbs = s.tbs := rfl
@[simp] theorem pushReply_btk (d g : Byte) (x : ReplyStatus) (y : List Byte) (s : State) :
    (pushReply d g x y s).btk = s.btk := rfl
@[simp] theorem pushReply_flx (d g : Byte) (x : ReplyStatus) (y : List Byte) (s : State) :
    (pushReply d g x y s).flx = s.flx := rfl
@[simp] theorem pushReply_tle (d g : Byte) (x : ReplyStatus) (y : List Byte) (s : State) :
    (pushReply d g x y s).tle = s.tle := rfl
@[simp] theorem pushReply_phm (d g : Byte) (x : ReplyStatus) (y : List Byte) (s : State) :
    (pushReply d g x y s).phm = s.phm := rfl
@[simp] theorem pushReply_pot (d g : Byte) (x : ReplyStatus) (y : List Byte) (s : State) :
    (pushReply d g x y s).pot = s.pot := rfl
@[simp] theorem pushReply_exm (d g : Byte) (x : ReplyStatus) (y : List Byte) (s : State) :
    (pushReply d g x y s).exm = s.exm := rfl
@[simp] theorem pushReply_acu (d g : Byte) (x : ReplyStatus) (y : List Byte) (s : State) :
    (pushReply d g x y s).acu = s.acu := rfl
@[simp] theorem pushReply_hld (d g : Byte) (x : ReplyStatus) (y : List Byte) (s : State) :
    (pushReply d g x y s).hld = s.hld := rfl
@[simp] theorem pushReply_overrun (d g : Byte) (x : ReplyStatus) (y : List Byte) (s : State) :
    (pushReply d g x y s).overrun = s.overrun := rfl
@[simp] theorem pushReply_pending (d g : Byte) (x : ReplyStatus) (y : List Byte) (s : State) :
    (pushReply d g x y s).pending = s.pending := rfl
@[simp] theorem pushReply_lif_messageQueue (d g : Byte) (x : ReplyStatus) (y : List Byte) (s : State) :
    (pushReply d g x y s).lif.messageQueue = s.lif.messageQueue ++ [.reply d g x y] := rfl
@[simp] theorem pushReply_lif_commandQueue (d g : Byte) (x : ReplyStatus) (y : List Byte) (s : State) :
    (pushReply d g x y s).lif.commandQueue = s.lif.commandQueue := rfl
@[simp] theorem pushReply_lif_cycle (d g : Byte) (x : ReplyStatus) (y : List Byte) (s : State) :
    (pushReply d g x y s).lif.cycle = s.lif.cycle := rfl
@[simp] theorem pushReply_lif_openCycle (d g : Byte) (x : ReplyStatus) (y : List Byte) (s : State) :
    (pushReply d g x y s).lif.openCycle = s.lif.openCycle := rfl

/-! ## setOutputRecord -/

@[simp] theorem setOutputRecord_lif (s : State) (o : OutIx) (r : OutputRecord) :
    (setOutputRecord s o r).lif = s.lif := rfl
@[simp] theorem setOutputRecord_sig (s : State) (o : OutIx) (r : OutputRecord) :
    (setOutputRecord s o r).sig = s.sig := rfl
@[simp] theorem setOutputRecord_mru (s : State) (o : OutIx) (r : OutputRecord) :
    (setOutputRecord s o r).mru = s.mru := rfl
@[simp] theorem setOutputRecord_tbs (s : State) (o : OutIx) (r : OutputRecord) :
    (setOutputRecord s o r).tbs = s.tbs := rfl
@[simp] theorem setOutputRecord_btk (s : State) (o : OutIx) (r : OutputRecord) :
    (setOutputRecord s o r).btk = s.btk := rfl
@[simp] theorem setOutputRecord_flx (s : State) (o : OutIx) (r : OutputRecord) :
    (setOutputRecord s o r).flx = s.flx := rfl
@[simp] theorem setOutputRecord_tle (s : State) (o : OutIx) (r : OutputRecord) :
    (setOutputRecord s o r).tle = s.tle := rfl
@[simp] theorem setOutputRecord_phm (s : State) (o : OutIx) (r : OutputRecord) :
    (setOutputRecord s o r).phm = s.phm := rfl
@[simp] theorem setOutputRecord_pot (s : State) (o : OutIx) (r : OutputRecord) :
    (setOutputRecord s o r).pot = s.pot := rfl
@[simp] theorem setOutputRecord_exm (s : State) (o : OutIx) (r : OutputRecord) :
    (setOutputRecord s o r).exm = s.exm := rfl
@[simp] theorem setOutputRecord_acu (s : State) (o : OutIx) (r : OutputRecord) :
    (setOutputRecord s o r).acu = s.acu := rfl
@[simp] theorem setOutputRecord_hld (s : State) (o : OutIx) (r : OutputRecord) :
    (setOutputRecord s o r).hld = s.hld := rfl
@[simp] theorem setOutputRecord_overrun (s : State) (o : OutIx) (r : OutputRecord) :
    (setOutputRecord s o r).overrun = s.overrun := rfl
@[simp] theorem setOutputRecord_pending (s : State) (o : OutIx) (r : OutputRecord) :
    (setOutputRecord s o r).pending = s.pending := rfl
@[simp] theorem setOutputRecord_out_operation (s : State) (o : OutIx) (r : OutputRecord) :
    (setOutputRecord s o r).out.operation = s.out.operation := rfl
@[simp] theorem setOutputRecord_out_records (s : State) (o : OutIx) (r : OutputRecord) :
    (setOutputRecord s o r).out.records = vset s.out.records o r := rfl

/-! ## setLoop -/

@[simp] theorem setLoop_lif (s : State) (l : LoopIx) (r : LoopRecord) : (setLoop s l r).lif = s.lif := rfl
@[simp] theorem setLoop_sig (s : State) (l : LoopIx) (r : LoopRecord) : (setLoop s l r).sig = s.sig := rfl
@[simp] theorem setLoop_out (s : State) (l : LoopIx) (r : LoopRecord) : (setLoop s l r).out = s.out := rfl
@[simp] theorem setLoop_mru (s : State) (l : LoopIx) (r : LoopRecord) : (setLoop s l r).mru = s.mru := rfl
@[simp] theorem setLoop_tbs (s : State) (l : LoopIx) (r : LoopRecord) : (setLoop s l r).tbs = s.tbs := rfl
@[simp] theorem setLoop_btk (s : State) (l : LoopIx) (r : LoopRecord) : (setLoop s l r).btk = s.btk := rfl
@[simp] theorem setLoop_flx (s : State) (l : LoopIx) (r : LoopRecord) : (setLoop s l r).flx = s.flx := rfl
@[simp] theorem setLoop_phm (s : State) (l : LoopIx) (r : LoopRecord) : (setLoop s l r).phm = s.phm := rfl
@[simp] theorem setLoop_pot (s : State) (l : LoopIx) (r : LoopRecord) : (setLoop s l r).pot = s.pot := rfl
@[simp] theorem setLoop_exm (s : State) (l : LoopIx) (r : LoopRecord) : (setLoop s l r).exm = s.exm := rfl
@[simp] theorem setLoop_acu (s : State) (l : LoopIx) (r : LoopRecord) : (setLoop s l r).acu = s.acu := rfl
@[simp] theorem setLoop_hld (s : State) (l : LoopIx) (r : LoopRecord) : (setLoop s l r).hld = s.hld := rfl
@[simp] theorem setLoop_overrun (s : State) (l : LoopIx) (r : LoopRecord) : (setLoop s l r).overrun = s.overrun := rfl
@[simp] theorem setLoop_pending (s : State) (l : LoopIx) (r : LoopRecord) : (setLoop s l r).pending = s.pending := rfl
@[simp] theorem setLoop_tle_loops (s : State) (l : LoopIx) (r : LoopRecord) :
    (setLoop s l r).tle.loops = vset s.tle.loops l r := rfl

/-! ## setAlarm -/

@[simp] theorem setAlarm_lif (s : State) (a : AlarmIx) (r : AlarmRecord) : (setAlarm s a r).lif = s.lif := rfl
@[simp] theorem setAlarm_sig (s : State) (a : AlarmIx) (r : AlarmRecord) : (setAlarm s a r).sig = s.sig := rfl
@[simp] theorem setAlarm_out (s : State) (a : AlarmIx) (r : AlarmRecord) : (setAlarm s a r).out = s.out := rfl
@[simp] theorem setAlarm_mru (s : State) (a : AlarmIx) (r : AlarmRecord) : (setAlarm s a r).mru = s.mru := rfl
@[simp] theorem setAlarm_tbs (s : State) (a : AlarmIx) (r : AlarmRecord) : (setAlarm s a r).tbs = s.tbs := rfl
@[simp] theorem setAlarm_btk (s : State) (a : AlarmIx) (r : AlarmRecord) : (setAlarm s a r).btk = s.btk := rfl
@[simp] theorem setAlarm_flx (s : State) (a : AlarmIx) (r : AlarmRecord) : (setAlarm s a r).flx = s.flx := rfl
@[simp] theorem setAlarm_tle (s : State) (a : AlarmIx) (r : AlarmRecord) : (setAlarm s a r).tle = s.tle := rfl
@[simp] theorem setAlarm_phm (s : State) (a : AlarmIx) (r : AlarmRecord) : (setAlarm s a r).phm = s.phm := rfl
@[simp] theorem setAlarm_pot (s : State) (a : AlarmIx) (r : AlarmRecord) : (setAlarm s a r).pot = s.pot := rfl
@[simp] theorem setAlarm_exm (s : State) (a : AlarmIx) (r : AlarmRecord) : (setAlarm s a r).exm = s.exm := rfl
@[simp] theorem setAlarm_hld (s : State) (a : AlarmIx) (r : AlarmRecord) : (setAlarm s a r).hld = s.hld := rfl
@[simp] theorem setAlarm_overrun (s : State) (a : AlarmIx) (r : AlarmRecord) :
    (setAlarm s a r).overrun = s.overrun := rfl
@[simp] theorem setAlarm_pending (s : State) (a : AlarmIx) (r : AlarmRecord) :
    (setAlarm s a r).pending = s.pending := rfl
@[simp] theorem setAlarm_acu_alarms (s : State) (a : AlarmIx) (r : AlarmRecord) :
    (setAlarm s a r).acu.alarms = vset s.acu.alarms a r := rfl
@[simp] theorem setAlarm_acu_groups (s : State) (a : AlarmIx) (r : AlarmRecord) :
    (setAlarm s a r).acu.groups = s.acu.groups := rfl
@[simp] theorem setAlarm_acu_a41Btk (s : State) (a : AlarmIx) (r : AlarmRecord) :
    (setAlarm s a r).acu.a41Btk = s.acu.a41Btk := rfl
@[simp] theorem setAlarm_acu_a41Hld (s : State) (a : AlarmIx) (r : AlarmRecord) :
    (setAlarm s a r).acu.a41Hld = s.acu.a41Hld := rfl

/-! ## setGroup -/

@[simp] theorem setGroup_lif (s : State) (g : Group) (r : GroupRecord) : (setGroup s g r).lif = s.lif := rfl
@[simp] theorem setGroup_sig (s : State) (g : Group) (r : GroupRecord) : (setGroup s g r).sig = s.sig := rfl
@[simp] theorem setGroup_out (s : State) (g : Group) (r : GroupRecord) : (setGroup s g r).out = s.out := rfl
@[simp] theorem setGroup_mru (s : State) (g : Group) (r : GroupRecord) : (setGroup s g r).mru = s.mru := rfl
@[simp] theorem setGroup_tbs (s : State) (g : Group) (r : GroupRecord) : (setGroup s g r).tbs = s.tbs := rfl
@[simp] theorem setGroup_btk (s : State) (g : Group) (r : GroupRecord) : (setGroup s g r).btk = s.btk := rfl
@[simp] theorem setGroup_flx (s : State) (g : Group) (r : GroupRecord) : (setGroup s g r).flx = s.flx := rfl
@[simp] theorem setGroup_tle (s : State) (g : Group) (r : GroupRecord) : (setGroup s g r).tle = s.tle := rfl
@[simp] theorem setGroup_phm (s : State) (g : Group) (r : GroupRecord) : (setGroup s g r).phm = s.phm := rfl
@[simp] theorem setGroup_pot (s : State) (g : Group) (r : GroupRecord) : (setGroup s g r).pot = s.pot := rfl
@[simp] theorem setGroup_exm (s : State) (g : Group) (r : GroupRecord) : (setGroup s g r).exm = s.exm := rfl
@[simp] theorem setGroup_hld (s : State) (g : Group) (r : GroupRecord) : (setGroup s g r).hld = s.hld := rfl
@[simp] theorem setGroup_overrun (s : State) (g : Group) (r : GroupRecord) :
    (setGroup s g r).overrun = s.overrun := rfl
@[simp] theorem setGroup_pending (s : State) (g : Group) (r : GroupRecord) :
    (setGroup s g r).pending = s.pending := rfl
@[simp] theorem setGroup_acu_groups (s : State) (g : Group) (r : GroupRecord) :
    (setGroup s g r).acu.groups = vset s.acu.groups (groupIx g) r := rfl
@[simp] theorem setGroup_acu_alarms (s : State) (g : Group) (r : GroupRecord) :
    (setGroup s g r).acu.alarms = s.acu.alarms := rfl

/-! ## setManualFlag -/

@[simp] theorem setManualFlag_lif (g : Group) (s : State) : (setManualFlag g s).lif = s.lif := rfl
@[simp] theorem setManualFlag_sig (g : Group) (s : State) : (setManualFlag g s).sig = s.sig := rfl
@[simp] theorem setManualFlag_out (g : Group) (s : State) : (setManualFlag g s).out = s.out := rfl
@[simp] theorem setManualFlag_mru (g : Group) (s : State) : (setManualFlag g s).mru = s.mru := rfl
@[simp] theorem setManualFlag_tbs (g : Group) (s : State) : (setManualFlag g s).tbs = s.tbs := rfl
@[simp] theorem setManualFlag_btk (g : Group) (s : State) : (setManualFlag g s).btk = s.btk := rfl
@[simp] theorem setManualFlag_flx (g : Group) (s : State) : (setManualFlag g s).flx = s.flx := rfl
@[simp] theorem setManualFlag_tle (g : Group) (s : State) : (setManualFlag g s).tle = s.tle := rfl
@[simp] theorem setManualFlag_phm (g : Group) (s : State) : (setManualFlag g s).phm = s.phm := rfl
@[simp] theorem setManualFlag_pot (g : Group) (s : State) : (setManualFlag g s).pot = s.pot := rfl
@[simp] theorem setManualFlag_exm (g : Group) (s : State) : (setManualFlag g s).exm = s.exm := rfl
@[simp] theorem setManualFlag_hld (g : Group) (s : State) : (setManualFlag g s).hld = s.hld := rfl
@[simp] theorem setManualFlag_overrun (g : Group) (s : State) : (setManualFlag g s).overrun = s.overrun := rfl
@[simp] theorem setManualFlag_pending (g : Group) (s : State) : (setManualFlag g s).pending = s.pending := rfl

/-! ## setFeeder -/

@[simp] theorem setFeeder_lif (s : State) (f : Feeder) : (setFeeder s f).lif = s.lif := rfl
@[simp] theorem setFeeder_sig (s : State) (f : Feeder) : (setFeeder s f).sig = s.sig := rfl
@[simp] theorem setFeeder_out (s : State) (f : Feeder) : (setFeeder s f).out = s.out := rfl
@[simp] theorem setFeeder_mru (s : State) (f : Feeder) : (setFeeder s f).mru = s.mru := rfl
@[simp] theorem setFeeder_tbs (s : State) (f : Feeder) : (setFeeder s f).tbs = s.tbs := rfl
@[simp] theorem setFeeder_btk (s : State) (f : Feeder) : (setFeeder s f).btk = s.btk := rfl
@[simp] theorem setFeeder_flx (s : State) (f : Feeder) : (setFeeder s f).flx = s.flx := rfl
@[simp] theorem setFeeder_tle (s : State) (f : Feeder) : (setFeeder s f).tle = s.tle := rfl
@[simp] theorem setFeeder_phm (s : State) (f : Feeder) : (setFeeder s f).phm = s.phm := rfl
@[simp] theorem setFeeder_exm (s : State) (f : Feeder) : (setFeeder s f).exm = s.exm := rfl
@[simp] theorem setFeeder_acu (s : State) (f : Feeder) : (setFeeder s f).acu = s.acu := rfl
@[simp] theorem setFeeder_hld (s : State) (f : Feeder) : (setFeeder s f).hld = s.hld := rfl
@[simp] theorem setFeeder_overrun (s : State) (f : Feeder) : (setFeeder s f).overrun = s.overrun := rfl
@[simp] theorem setFeeder_pending (s : State) (f : Feeder) : (setFeeder s f).pending = s.pending := rfl
@[simp] theorem setFeeder_pot_feeder (s : State) (f : Feeder) :
    (setFeeder s f).pot.feeder = f := rfl
@[simp] theorem setFeeder_pot_state (s : State) (f : Feeder) :
    (setFeeder s f).pot.state = s.pot.state := rfl
@[simp] theorem setFeeder_pot_level (s : State) (f : Feeder) :
    (setFeeder s f).pot.level = s.pot.level := rfl
@[simp] theorem setFeeder_pot_debt (s : State) (f : Feeder) :
    (setFeeder s f).pot.debt = s.pot.debt := rfl

/-! ## setLine -/

@[simp] theorem setLine_lif (s : State) (l : LineState) : (setLine s l).lif = s.lif := rfl
@[simp] theorem setLine_sig (s : State) (l : LineState) : (setLine s l).sig = s.sig := rfl
@[simp] theorem setLine_out (s : State) (l : LineState) : (setLine s l).out = s.out := rfl
@[simp] theorem setLine_tbs (s : State) (l : LineState) : (setLine s l).tbs = s.tbs := rfl
@[simp] theorem setLine_btk (s : State) (l : LineState) : (setLine s l).btk = s.btk := rfl
@[simp] theorem setLine_flx (s : State) (l : LineState) : (setLine s l).flx = s.flx := rfl
@[simp] theorem setLine_tle (s : State) (l : LineState) : (setLine s l).tle = s.tle := rfl
@[simp] theorem setLine_phm (s : State) (l : LineState) : (setLine s l).phm = s.phm := rfl
@[simp] theorem setLine_pot (s : State) (l : LineState) : (setLine s l).pot = s.pot := rfl
@[simp] theorem setLine_exm (s : State) (l : LineState) : (setLine s l).exm = s.exm := rfl
@[simp] theorem setLine_acu (s : State) (l : LineState) : (setLine s l).acu = s.acu := rfl
@[simp] theorem setLine_hld (s : State) (l : LineState) : (setLine s l).hld = s.hld := rfl
@[simp] theorem setLine_overrun (s : State) (l : LineState) : (setLine s l).overrun = s.overrun := rfl
@[simp] theorem setLine_pending (s : State) (l : LineState) : (setLine s l).pending = s.pending := rfl
@[simp] theorem setLine_mru_line (s : State) (l : LineState) :
    (setLine s l).mru.line = l := rfl
@[simp] theorem setLine_mru_configured (s : State) (l : LineState) :
    (setLine s l).mru.configured = s.mru.configured := rfl
@[simp] theorem setLine_mru_lineSpeed (s : State) (l : LineState) :
    (setLine s l).mru.lineSpeed = s.mru.lineSpeed := rfl
@[simp] theorem setLine_mru_nextSlot (s : State) (l : LineState) :
    (setLine s l).mru.nextSlot = s.mru.nextSlot := rfl
@[simp] theorem setLine_mru_staging (s : State) (l : LineState) :
    (setLine s l).mru.staging = s.mru.staging := rfl
@[simp] theorem setLine_mru_limitsLock (s : State) (l : LineState) :
    (setLine s l).mru.limitsLock = s.mru.limitsLock := rfl
@[simp] theorem setLine_mru_dropped (s : State) (l : LineState) :
    (setLine s l).mru.dropped = s.mru.dropped := rfl

/-! ## setStaging -/

@[simp] theorem setStaging_lif (s : State) (k : TableKind) (x : Option StagingBuffer) :
    (setStaging s k x).lif = s.lif := rfl
@[simp] theorem setStaging_sig (s : State) (k : TableKind) (x : Option StagingBuffer) :
    (setStaging s k x).sig = s.sig := rfl
@[simp] theorem setStaging_out (s : State) (k : TableKind) (x : Option StagingBuffer) :
    (setStaging s k x).out = s.out := rfl
@[simp] theorem setStaging_tbs (s : State) (k : TableKind) (x : Option StagingBuffer) :
    (setStaging s k x).tbs = s.tbs := rfl
@[simp] theorem setStaging_btk (s : State) (k : TableKind) (x : Option StagingBuffer) :
    (setStaging s k x).btk = s.btk := rfl
@[simp] theorem setStaging_flx (s : State) (k : TableKind) (x : Option StagingBuffer) :
    (setStaging s k x).flx = s.flx := rfl
@[simp] theorem setStaging_tle (s : State) (k : TableKind) (x : Option StagingBuffer) :
    (setStaging s k x).tle = s.tle := rfl
@[simp] theorem setStaging_phm (s : State) (k : TableKind) (x : Option StagingBuffer) :
    (setStaging s k x).phm = s.phm := rfl
@[simp] theorem setStaging_pot (s : State) (k : TableKind) (x : Option StagingBuffer) :
    (setStaging s k x).pot = s.pot := rfl
@[simp] theorem setStaging_exm (s : State) (k : TableKind) (x : Option StagingBuffer) :
    (setStaging s k x).exm = s.exm := rfl
@[simp] theorem setStaging_acu (s : State) (k : TableKind) (x : Option StagingBuffer) :
    (setStaging s k x).acu = s.acu := rfl
@[simp] theorem setStaging_hld (s : State) (k : TableKind) (x : Option StagingBuffer) :
    (setStaging s k x).hld = s.hld := rfl
@[simp] theorem setStaging_overrun (s : State) (k : TableKind) (x : Option StagingBuffer) :
    (setStaging s k x).overrun = s.overrun := rfl
@[simp] theorem setStaging_pending (s : State) (k : TableKind) (x : Option StagingBuffer) :
    (setStaging s k x).pending = s.pending := rfl
@[simp] theorem setStaging_mru_line (s : State) (k : TableKind) (x : Option StagingBuffer) :
    (setStaging s k x).mru.line = s.mru.line := rfl
@[simp] theorem setStaging_mru_configured (s : State) (k : TableKind) (x : Option StagingBuffer) :
    (setStaging s k x).mru.configured = s.mru.configured := rfl
@[simp] theorem setStaging_mru_lineSpeed (s : State) (k : TableKind) (x : Option StagingBuffer) :
    (setStaging s k x).mru.lineSpeed = s.mru.lineSpeed := rfl
@[simp] theorem setStaging_mru_nextSlot (s : State) (k : TableKind) (x : Option StagingBuffer) :
    (setStaging s k x).mru.nextSlot = s.mru.nextSlot := rfl
@[simp] theorem setStaging_mru_limitsLock (s : State) (k : TableKind) (x : Option StagingBuffer) :
    (setStaging s k x).mru.limitsLock = s.mru.limitsLock := rfl
@[simp] theorem setStaging_mru_staging (s : State) (k : TableKind) (x : Option StagingBuffer) :
    (setStaging s k x).mru.staging = setStagingOf s.mru.staging k x := rfl

/-! ## setSensorFilter -/

@[simp] theorem setSensorFilter_lif (s : State) (e : Bool) (f : SensorFilter) :
    (setSensorFilter s e f).lif = s.lif := rfl
@[simp] theorem setSensorFilter_sig (s : State) (e : Bool) (f : SensorFilter) :
    (setSensorFilter s e f).sig = s.sig := rfl
@[simp] theorem setSensorFilter_out (s : State) (e : Bool) (f : SensorFilter) :
    (setSensorFilter s e f).out = s.out := rfl
@[simp] theorem setSensorFilter_mru (s : State) (e : Bool) (f : SensorFilter) :
    (setSensorFilter s e f).mru = s.mru := rfl
@[simp] theorem setSensorFilter_tbs (s : State) (e : Bool) (f : SensorFilter) :
    (setSensorFilter s e f).tbs = s.tbs := rfl
@[simp] theorem setSensorFilter_flx (s : State) (e : Bool) (f : SensorFilter) :
    (setSensorFilter s e f).flx = s.flx := rfl
@[simp] theorem setSensorFilter_tle (s : State) (e : Bool) (f : SensorFilter) :
    (setSensorFilter s e f).tle = s.tle := rfl
@[simp] theorem setSensorFilter_phm (s : State) (e : Bool) (f : SensorFilter) :
    (setSensorFilter s e f).phm = s.phm := rfl
@[simp] theorem setSensorFilter_pot (s : State) (e : Bool) (f : SensorFilter) :
    (setSensorFilter s e f).pot = s.pot := rfl
@[simp] theorem setSensorFilter_exm (s : State) (e : Bool) (f : SensorFilter) :
    (setSensorFilter s e f).exm = s.exm := rfl
@[simp] theorem setSensorFilter_acu (s : State) (e : Bool) (f : SensorFilter) :
    (setSensorFilter s e f).acu = s.acu := rfl
@[simp] theorem setSensorFilter_hld (s : State) (e : Bool) (f : SensorFilter) :
    (setSensorFilter s e f).hld = s.hld := rfl
@[simp] theorem setSensorFilter_overrun (s : State) (e : Bool) (f : SensorFilter) :
    (setSensorFilter s e f).overrun = s.overrun := rfl
@[simp] theorem setSensorFilter_pending (s : State) (e : Bool) (f : SensorFilter) :
    (setSensorFilter s e f).pending = s.pending := rfl

/-! ## mapBoard -/

@[simp] theorem mapBoard_lif (s : State) (n : BoardNo) (f : Board → Board) : (mapBoard s n f).lif = s.lif := rfl
@[simp] theorem mapBoard_sig (s : State) (n : BoardNo) (f : Board → Board) : (mapBoard s n f).sig = s.sig := rfl
@[simp] theorem mapBoard_out (s : State) (n : BoardNo) (f : Board → Board) : (mapBoard s n f).out = s.out := rfl
@[simp] theorem mapBoard_mru (s : State) (n : BoardNo) (f : Board → Board) : (mapBoard s n f).mru = s.mru := rfl
@[simp] theorem mapBoard_tbs (s : State) (n : BoardNo) (f : Board → Board) : (mapBoard s n f).tbs = s.tbs := rfl
@[simp] theorem mapBoard_flx (s : State) (n : BoardNo) (f : Board → Board) : (mapBoard s n f).flx = s.flx := rfl
@[simp] theorem mapBoard_tle (s : State) (n : BoardNo) (f : Board → Board) : (mapBoard s n f).tle = s.tle := rfl
@[simp] theorem mapBoard_phm (s : State) (n : BoardNo) (f : Board → Board) : (mapBoard s n f).phm = s.phm := rfl
@[simp] theorem mapBoard_pot (s : State) (n : BoardNo) (f : Board → Board) : (mapBoard s n f).pot = s.pot := rfl
@[simp] theorem mapBoard_exm (s : State) (n : BoardNo) (f : Board → Board) : (mapBoard s n f).exm = s.exm := rfl
@[simp] theorem mapBoard_acu (s : State) (n : BoardNo) (f : Board → Board) : (mapBoard s n f).acu = s.acu := rfl
@[simp] theorem mapBoard_hld (s : State) (n : BoardNo) (f : Board → Board) : (mapBoard s n f).hld = s.hld := rfl
@[simp] theorem mapBoard_overrun (s : State) (n : BoardNo) (f : Board → Board) :
    (mapBoard s n f).overrun = s.overrun := rfl
@[simp] theorem mapBoard_pending (s : State) (n : BoardNo) (f : Board → Board) :
    (mapBoard s n f).pending = s.pending := rfl
@[simp] theorem mapBoard_btk_train (s : State) (n : BoardNo) (f : Board → Board) :
    (mapBoard s n f).btk.train = s.btk.train.map fun b => if b.number = n then f b else b := rfl
@[simp] theorem mapBoard_btk_position (s : State) (n : BoardNo) (f : Board → Board) :
    (mapBoard s n f).btk.position = s.btk.position := rfl
@[simp] theorem mapBoard_btk_v8 (s : State) (n : BoardNo) (f : Board → Board) :
    (mapBoard s n f).btk.v8 = s.btk.v8 := rfl
@[simp] theorem mapBoard_btk_history (s : State) (n : BoardNo) (f : Board → Board) :
    (mapBoard s n f).btk.history = s.btk.history := rfl
@[simp] theorem mapBoard_btk_exits (s : State) (n : BoardNo) (f : Board → Board) :
    (mapBoard s n f).btk.exits = s.btk.exits := rfl
@[simp] theorem mapBoard_btk_nextNumber (s : State) (n : BoardNo) (f : Board → Board) :
    (mapBoard s n f).btk.nextNumber = s.btk.nextNumber := rfl
@[simp] theorem mapBoard_btk_gap (s : State) (n : BoardNo) (f : Board → Board) :
    (mapBoard s n f).btk.gap = s.btk.gap := rfl

/-! ## mapSpray -/

@[simp] theorem mapSpray_lif (s : State) (n : BoardNo) (f : SprayRecord → SprayRecord) :
    (mapSpray s n f).lif = s.lif := rfl
@[simp] theorem mapSpray_sig (s : State) (n : BoardNo) (f : SprayRecord → SprayRecord) :
    (mapSpray s n f).sig = s.sig := rfl
@[simp] theorem mapSpray_out (s : State) (n : BoardNo) (f : SprayRecord → SprayRecord) :
    (mapSpray s n f).out = s.out := rfl
@[simp] theorem mapSpray_mru (s : State) (n : BoardNo) (f : SprayRecord → SprayRecord) :
    (mapSpray s n f).mru = s.mru := rfl
@[simp] theorem mapSpray_tbs (s : State) (n : BoardNo) (f : SprayRecord → SprayRecord) :
    (mapSpray s n f).tbs = s.tbs := rfl
@[simp] theorem mapSpray_btk (s : State) (n : BoardNo) (f : SprayRecord → SprayRecord) :
    (mapSpray s n f).btk = s.btk := rfl
@[simp] theorem mapSpray_tle (s : State) (n : BoardNo) (f : SprayRecord → SprayRecord) :
    (mapSpray s n f).tle = s.tle := rfl
@[simp] theorem mapSpray_phm (s : State) (n : BoardNo) (f : SprayRecord → SprayRecord) :
    (mapSpray s n f).phm = s.phm := rfl
@[simp] theorem mapSpray_pot (s : State) (n : BoardNo) (f : SprayRecord → SprayRecord) :
    (mapSpray s n f).pot = s.pot := rfl
@[simp] theorem mapSpray_exm (s : State) (n : BoardNo) (f : SprayRecord → SprayRecord) :
    (mapSpray s n f).exm = s.exm := rfl
@[simp] theorem mapSpray_acu (s : State) (n : BoardNo) (f : SprayRecord → SprayRecord) :
    (mapSpray s n f).acu = s.acu := rfl
@[simp] theorem mapSpray_hld (s : State) (n : BoardNo) (f : SprayRecord → SprayRecord) :
    (mapSpray s n f).hld = s.hld := rfl
@[simp] theorem mapSpray_overrun (s : State) (n : BoardNo) (f : SprayRecord → SprayRecord) :
    (mapSpray s n f).overrun = s.overrun := rfl
@[simp] theorem mapSpray_pending (s : State) (n : BoardNo) (f : SprayRecord → SprayRecord) :
    (mapSpray s n f).pending = s.pending := rfl
@[simp] theorem mapSpray_flx_sprays (s : State) (n : BoardNo) (f : SprayRecord → SprayRecord) :
    (mapSpray s n f).flx.sprays = s.flx.sprays.map fun r => if r.board = n then f r else r := rfl
@[simp] theorem mapSpray_flx_edges (s : State) (n : BoardNo) (f : SprayRecord → SprayRecord) :
    (mapSpray s n f).flx.edges = s.flx.edges := rfl
@[simp] theorem mapSpray_flx_nozzles (s : State) (n : BoardNo) (f : SprayRecord → SprayRecord) :
    (mapSpray s n f).flx.nozzles = s.flx.nozzles := rfl
@[simp] theorem mapSpray_flx_forcing (s : State) (n : BoardNo) (f : SprayRecord → SprayRecord) :
    (mapSpray s n f).flx.forcing = s.flx.forcing := rfl

/-! ## mapNozzle -/

@[simp] theorem mapNozzle_lif (s : State) (n : NozzleIx) (f : Nozzle → Nozzle) : (mapNozzle s n f).lif = s.lif := rfl
@[simp] theorem mapNozzle_sig (s : State) (n : NozzleIx) (f : Nozzle → Nozzle) : (mapNozzle s n f).sig = s.sig := rfl
@[simp] theorem mapNozzle_out (s : State) (n : NozzleIx) (f : Nozzle → Nozzle) : (mapNozzle s n f).out = s.out := rfl
@[simp] theorem mapNozzle_mru (s : State) (n : NozzleIx) (f : Nozzle → Nozzle) : (mapNozzle s n f).mru = s.mru := rfl
@[simp] theorem mapNozzle_tbs (s : State) (n : NozzleIx) (f : Nozzle → Nozzle) : (mapNozzle s n f).tbs = s.tbs := rfl
@[simp] theorem mapNozzle_btk (s : State) (n : NozzleIx) (f : Nozzle → Nozzle) : (mapNozzle s n f).btk = s.btk := rfl
@[simp] theorem mapNozzle_tle (s : State) (n : NozzleIx) (f : Nozzle → Nozzle) : (mapNozzle s n f).tle = s.tle := rfl
@[simp] theorem mapNozzle_phm (s : State) (n : NozzleIx) (f : Nozzle → Nozzle) : (mapNozzle s n f).phm = s.phm := rfl
@[simp] theorem mapNozzle_pot (s : State) (n : NozzleIx) (f : Nozzle → Nozzle) : (mapNozzle s n f).pot = s.pot := rfl
@[simp] theorem mapNozzle_exm (s : State) (n : NozzleIx) (f : Nozzle → Nozzle) : (mapNozzle s n f).exm = s.exm := rfl
@[simp] theorem mapNozzle_acu (s : State) (n : NozzleIx) (f : Nozzle → Nozzle) : (mapNozzle s n f).acu = s.acu := rfl
@[simp] theorem mapNozzle_hld (s : State) (n : NozzleIx) (f : Nozzle → Nozzle) : (mapNozzle s n f).hld = s.hld := rfl
@[simp] theorem mapNozzle_overrun (s : State) (n : NozzleIx) (f : Nozzle → Nozzle) :
    (mapNozzle s n f).overrun = s.overrun := rfl
@[simp] theorem mapNozzle_pending (s : State) (n : NozzleIx) (f : Nozzle → Nozzle) :
    (mapNozzle s n f).pending = s.pending := rfl
@[simp] theorem mapNozzle_flx_nozzles (s : State) (n : NozzleIx) (f : Nozzle → Nozzle) :
    (mapNozzle s n f).flx.nozzles = vset s.flx.nozzles n (f s.flx.nozzles[n]) := rfl
@[simp] theorem mapNozzle_flx_edges (s : State) (n : NozzleIx) (f : Nozzle → Nozzle) :
    (mapNozzle s n f).flx.edges = s.flx.edges := rfl
@[simp] theorem mapNozzle_flx_sprays (s : State) (n : NozzleIx) (f : Nozzle → Nozzle) :
    (mapNozzle s n f).flx.sprays = s.flx.sprays := rfl

/-! ## mapWaveFlags -/

@[simp] theorem mapWaveFlags_lif (s : State) (n : BoardNo) (w : Wave) (f : WaveFlags → WaveFlags) :
    (mapWaveFlags s n w f).lif = s.lif := rfl
@[simp] theorem mapWaveFlags_sig (s : State) (n : BoardNo) (w : Wave) (f : WaveFlags → WaveFlags) :
    (mapWaveFlags s n w f).sig = s.sig := rfl
@[simp] theorem mapWaveFlags_out (s : State) (n : BoardNo) (w : Wave) (f : WaveFlags → WaveFlags) :
    (mapWaveFlags s n w f).out = s.out := rfl
@[simp] theorem mapWaveFlags_mru (s : State) (n : BoardNo) (w : Wave) (f : WaveFlags → WaveFlags) :
    (mapWaveFlags s n w f).mru = s.mru := rfl
@[simp] theorem mapWaveFlags_tbs (s : State) (n : BoardNo) (w : Wave) (f : WaveFlags → WaveFlags) :
    (mapWaveFlags s n w f).tbs = s.tbs := rfl
@[simp] theorem mapWaveFlags_btk (s : State) (n : BoardNo) (w : Wave) (f : WaveFlags → WaveFlags) :
    (mapWaveFlags s n w f).btk = s.btk := rfl
@[simp] theorem mapWaveFlags_flx (s : State) (n : BoardNo) (w : Wave) (f : WaveFlags → WaveFlags) :
    (mapWaveFlags s n w f).flx = s.flx := rfl
@[simp] theorem mapWaveFlags_tle (s : State) (n : BoardNo) (w : Wave) (f : WaveFlags → WaveFlags) :
    (mapWaveFlags s n w f).tle = s.tle := rfl
@[simp] theorem mapWaveFlags_phm (s : State) (n : BoardNo) (w : Wave) (f : WaveFlags → WaveFlags) :
    (mapWaveFlags s n w f).phm = s.phm := rfl
@[simp] theorem mapWaveFlags_exm (s : State) (n : BoardNo) (w : Wave) (f : WaveFlags → WaveFlags) :
    (mapWaveFlags s n w f).exm = s.exm := rfl
@[simp] theorem mapWaveFlags_acu (s : State) (n : BoardNo) (w : Wave) (f : WaveFlags → WaveFlags) :
    (mapWaveFlags s n w f).acu = s.acu := rfl
@[simp] theorem mapWaveFlags_hld (s : State) (n : BoardNo) (w : Wave) (f : WaveFlags → WaveFlags) :
    (mapWaveFlags s n w f).hld = s.hld := rfl
@[simp] theorem mapWaveFlags_overrun (s : State) (n : BoardNo) (w : Wave) (f : WaveFlags → WaveFlags) :
    (mapWaveFlags s n w f).overrun = s.overrun := rfl
@[simp] theorem mapWaveFlags_pending (s : State) (n : BoardNo) (w : Wave) (f : WaveFlags → WaveFlags) :
    (mapWaveFlags s n w f).pending = s.pending := rfl

/-! ## writeFlux -/

@[simp] theorem writeFlux_lif (n : BoardNo) (f : FluxStatus) (s : State) : (writeFlux n f s).lif = s.lif := rfl
@[simp] theorem writeFlux_sig (n : BoardNo) (f : FluxStatus) (s : State) : (writeFlux n f s).sig = s.sig := rfl
@[simp] theorem writeFlux_out (n : BoardNo) (f : FluxStatus) (s : State) : (writeFlux n f s).out = s.out := rfl
@[simp] theorem writeFlux_mru (n : BoardNo) (f : FluxStatus) (s : State) : (writeFlux n f s).mru = s.mru := rfl
@[simp] theorem writeFlux_tbs (n : BoardNo) (f : FluxStatus) (s : State) : (writeFlux n f s).tbs = s.tbs := rfl
@[simp] theorem writeFlux_flx (n : BoardNo) (f : FluxStatus) (s : State) : (writeFlux n f s).flx = s.flx := rfl
@[simp] theorem writeFlux_tle (n : BoardNo) (f : FluxStatus) (s : State) : (writeFlux n f s).tle = s.tle := rfl
@[simp] theorem writeFlux_phm (n : BoardNo) (f : FluxStatus) (s : State) : (writeFlux n f s).phm = s.phm := rfl
@[simp] theorem writeFlux_pot (n : BoardNo) (f : FluxStatus) (s : State) : (writeFlux n f s).pot = s.pot := rfl
@[simp] theorem writeFlux_exm (n : BoardNo) (f : FluxStatus) (s : State) : (writeFlux n f s).exm = s.exm := rfl
@[simp] theorem writeFlux_acu (n : BoardNo) (f : FluxStatus) (s : State) : (writeFlux n f s).acu = s.acu := rfl
@[simp] theorem writeFlux_hld (n : BoardNo) (f : FluxStatus) (s : State) : (writeFlux n f s).hld = s.hld := rfl
@[simp] theorem writeFlux_overrun (n : BoardNo) (f : FluxStatus) (s : State) :
    (writeFlux n f s).overrun = s.overrun := rfl
@[simp] theorem writeFlux_pending (n : BoardNo) (f : FluxStatus) (s : State) :
    (writeFlux n f s).pending = s.pending := rfl

/-! ## addEdge -/

@[simp] theorem addEdge_lif (e : Edge) (s : State) : (addEdge e s).lif = s.lif := rfl
@[simp] theorem addEdge_sig (e : Edge) (s : State) : (addEdge e s).sig = s.sig := rfl
@[simp] theorem addEdge_out (e : Edge) (s : State) : (addEdge e s).out = s.out := rfl
@[simp] theorem addEdge_mru (e : Edge) (s : State) : (addEdge e s).mru = s.mru := rfl
@[simp] theorem addEdge_tbs (e : Edge) (s : State) : (addEdge e s).tbs = s.tbs := rfl
@[simp] theorem addEdge_btk (e : Edge) (s : State) : (addEdge e s).btk = s.btk := rfl
@[simp] theorem addEdge_tle (e : Edge) (s : State) : (addEdge e s).tle = s.tle := rfl
@[simp] theorem addEdge_phm (e : Edge) (s : State) : (addEdge e s).phm = s.phm := rfl
@[simp] theorem addEdge_pot (e : Edge) (s : State) : (addEdge e s).pot = s.pot := rfl
@[simp] theorem addEdge_exm (e : Edge) (s : State) : (addEdge e s).exm = s.exm := rfl
@[simp] theorem addEdge_acu (e : Edge) (s : State) : (addEdge e s).acu = s.acu := rfl
@[simp] theorem addEdge_hld (e : Edge) (s : State) : (addEdge e s).hld = s.hld := rfl
@[simp] theorem addEdge_overrun (e : Edge) (s : State) : (addEdge e s).overrun = s.overrun := rfl
@[simp] theorem addEdge_pending (e : Edge) (s : State) : (addEdge e s).pending = s.pending := rfl

/-! ## dropEdges -/

@[simp] theorem dropEdges_lif (p : Edge → Bool) (s : State) : (dropEdges p s).lif = s.lif := rfl
@[simp] theorem dropEdges_sig (p : Edge → Bool) (s : State) : (dropEdges p s).sig = s.sig := rfl
@[simp] theorem dropEdges_out (p : Edge → Bool) (s : State) : (dropEdges p s).out = s.out := rfl
@[simp] theorem dropEdges_mru (p : Edge → Bool) (s : State) : (dropEdges p s).mru = s.mru := rfl
@[simp] theorem dropEdges_tbs (p : Edge → Bool) (s : State) : (dropEdges p s).tbs = s.tbs := rfl
@[simp] theorem dropEdges_btk (p : Edge → Bool) (s : State) : (dropEdges p s).btk = s.btk := rfl
@[simp] theorem dropEdges_tle (p : Edge → Bool) (s : State) : (dropEdges p s).tle = s.tle := rfl
@[simp] theorem dropEdges_phm (p : Edge → Bool) (s : State) : (dropEdges p s).phm = s.phm := rfl
@[simp] theorem dropEdges_pot (p : Edge → Bool) (s : State) : (dropEdges p s).pot = s.pot := rfl
@[simp] theorem dropEdges_exm (p : Edge → Bool) (s : State) : (dropEdges p s).exm = s.exm := rfl
@[simp] theorem dropEdges_acu (p : Edge → Bool) (s : State) : (dropEdges p s).acu = s.acu := rfl
@[simp] theorem dropEdges_hld (p : Edge → Bool) (s : State) : (dropEdges p s).hld = s.hld := rfl
@[simp] theorem dropEdges_overrun (p : Edge → Bool) (s : State) : (dropEdges p s).overrun = s.overrun := rfl
@[simp] theorem dropEdges_pending (p : Edge → Bool) (s : State) : (dropEdges p s).pending = s.pending := rfl

/-! ## decideArmed -/

@[simp] theorem decideArmed_lif (c : CaptureState) (s : State) : (decideArmed c s).lif = s.lif := rfl
@[simp] theorem decideArmed_sig (c : CaptureState) (s : State) : (decideArmed c s).sig = s.sig := rfl
@[simp] theorem decideArmed_out (c : CaptureState) (s : State) : (decideArmed c s).out = s.out := rfl
@[simp] theorem decideArmed_mru (c : CaptureState) (s : State) : (decideArmed c s).mru = s.mru := rfl
@[simp] theorem decideArmed_tbs (c : CaptureState) (s : State) : (decideArmed c s).tbs = s.tbs := rfl
@[simp] theorem decideArmed_btk (c : CaptureState) (s : State) : (decideArmed c s).btk = s.btk := rfl
@[simp] theorem decideArmed_flx (c : CaptureState) (s : State) : (decideArmed c s).flx = s.flx := rfl
@[simp] theorem decideArmed_tle (c : CaptureState) (s : State) : (decideArmed c s).tle = s.tle := rfl
@[simp] theorem decideArmed_pot (c : CaptureState) (s : State) : (decideArmed c s).pot = s.pot := rfl
@[simp] theorem decideArmed_exm (c : CaptureState) (s : State) : (decideArmed c s).exm = s.exm := rfl
@[simp] theorem decideArmed_acu (c : CaptureState) (s : State) : (decideArmed c s).acu = s.acu := rfl
@[simp] theorem decideArmed_hld (c : CaptureState) (s : State) : (decideArmed c s).hld = s.hld := rfl
@[simp] theorem decideArmed_overrun (c : CaptureState) (s : State) : (decideArmed c s).overrun = s.overrun := rfl
@[simp] theorem decideArmed_pending (c : CaptureState) (s : State) : (decideArmed c s).pending = s.pending := rfl

/-! ## releaseManual -/

@[simp] theorem releaseManual_lif (s : State) : (releaseManual s).lif = s.lif := rfl
@[simp] theorem releaseManual_sig (s : State) : (releaseManual s).sig = s.sig := rfl
@[simp] theorem releaseManual_mru (s : State) : (releaseManual s).mru = s.mru := rfl
@[simp] theorem releaseManual_tbs (s : State) : (releaseManual s).tbs = s.tbs := rfl
@[simp] theorem releaseManual_btk (s : State) : (releaseManual s).btk = s.btk := rfl
@[simp] theorem releaseManual_flx (s : State) : (releaseManual s).flx = s.flx := rfl
@[simp] theorem releaseManual_tle (s : State) : (releaseManual s).tle = s.tle := rfl
@[simp] theorem releaseManual_phm (s : State) : (releaseManual s).phm = s.phm := rfl
@[simp] theorem releaseManual_pot (s : State) : (releaseManual s).pot = s.pot := rfl
@[simp] theorem releaseManual_exm (s : State) : (releaseManual s).exm = s.exm := rfl
@[simp] theorem releaseManual_acu (s : State) : (releaseManual s).acu = s.acu := rfl
@[simp] theorem releaseManual_hld (s : State) : (releaseManual s).hld = s.hld := rfl
@[simp] theorem releaseManual_overrun (s : State) : (releaseManual s).overrun = s.overrun := rfl
@[simp] theorem releaseManual_pending (s : State) : (releaseManual s).pending = s.pending := rfl

/-! ## setPump -/

@[simp] theorem setPump_lif (s : State) (w : Wave) (x : Pump) : (setPump s w x).lif = s.lif := by cases w <;> rfl
@[simp] theorem setPump_sig (s : State) (w : Wave) (x : Pump) : (setPump s w x).sig = s.sig := by cases w <;> rfl
@[simp] theorem setPump_out (s : State) (w : Wave) (x : Pump) : (setPump s w x).out = s.out := by cases w <;> rfl
@[simp] theorem setPump_mru (s : State) (w : Wave) (x : Pump) : (setPump s w x).mru = s.mru := by cases w <;> rfl
@[simp] theorem setPump_tbs (s : State) (w : Wave) (x : Pump) : (setPump s w x).tbs = s.tbs := by cases w <;> rfl
@[simp] theorem setPump_btk (s : State) (w : Wave) (x : Pump) : (setPump s w x).btk = s.btk := by cases w <;> rfl
@[simp] theorem setPump_flx (s : State) (w : Wave) (x : Pump) : (setPump s w x).flx = s.flx := by cases w <;> rfl
@[simp] theorem setPump_tle (s : State) (w : Wave) (x : Pump) : (setPump s w x).tle = s.tle := by cases w <;> rfl
@[simp] theorem setPump_phm (s : State) (w : Wave) (x : Pump) : (setPump s w x).phm = s.phm := by cases w <;> rfl
@[simp] theorem setPump_exm (s : State) (w : Wave) (x : Pump) : (setPump s w x).exm = s.exm := by cases w <;> rfl
@[simp] theorem setPump_acu (s : State) (w : Wave) (x : Pump) : (setPump s w x).acu = s.acu := by cases w <;> rfl
@[simp] theorem setPump_hld (s : State) (w : Wave) (x : Pump) : (setPump s w x).hld = s.hld := by cases w <;> rfl
@[simp] theorem setPump_overrun (s : State) (w : Wave) (x : Pump) :
    (setPump s w x).overrun = s.overrun := by cases w <;> rfl
@[simp] theorem setPump_pending (s : State) (w : Wave) (x : Pump) :
    (setPump s w x).pending = s.pending := by cases w <;> rfl

/-! ## setDuct -/

@[simp] theorem setDuct_lif (s : State) (d : Duct) (x : DuctRecord) :
    (setDuct s d x).lif = s.lif := by cases d <;> rfl
@[simp] theorem setDuct_sig (s : State) (d : Duct) (x : DuctRecord) :
    (setDuct s d x).sig = s.sig := by cases d <;> rfl
@[simp] theorem setDuct_out (s : State) (d : Duct) (x : DuctRecord) :
    (setDuct s d x).out = s.out := by cases d <;> rfl
@[simp] theorem setDuct_mru (s : State) (d : Duct) (x : DuctRecord) :
    (setDuct s d x).mru = s.mru := by cases d <;> rfl
@[simp] theorem setDuct_tbs (s : State) (d : Duct) (x : DuctRecord) :
    (setDuct s d x).tbs = s.tbs := by cases d <;> rfl
@[simp] theorem setDuct_btk (s : State) (d : Duct) (x : DuctRecord) :
    (setDuct s d x).btk = s.btk := by cases d <;> rfl
@[simp] theorem setDuct_flx (s : State) (d : Duct) (x : DuctRecord) :
    (setDuct s d x).flx = s.flx := by cases d <;> rfl
@[simp] theorem setDuct_tle (s : State) (d : Duct) (x : DuctRecord) :
    (setDuct s d x).tle = s.tle := by cases d <;> rfl
@[simp] theorem setDuct_phm (s : State) (d : Duct) (x : DuctRecord) :
    (setDuct s d x).phm = s.phm := by cases d <;> rfl
@[simp] theorem setDuct_pot (s : State) (d : Duct) (x : DuctRecord) :
    (setDuct s d x).pot = s.pot := by cases d <;> rfl
@[simp] theorem setDuct_acu (s : State) (d : Duct) (x : DuctRecord) :
    (setDuct s d x).acu = s.acu := by cases d <;> rfl
@[simp] theorem setDuct_hld (s : State) (d : Duct) (x : DuctRecord) :
    (setDuct s d x).hld = s.hld := by cases d <;> rfl
@[simp] theorem setDuct_overrun (s : State) (d : Duct) (x : DuctRecord) :
    (setDuct s d x).overrun = s.overrun := by cases d <;> rfl
@[simp] theorem setDuct_pending (s : State) (d : Duct) (x : DuctRecord) :
    (setDuct s d x).pending = s.pending := by cases d <;> rfl

@[simp] theorem setPump_same (s : State) (w : Wave) (x : Pump) : pumpOf (setPump s w x).pot w = x := by cases w <;> rfl
@[simp] theorem setDuct_same (s : State) (d : Duct) (x : DuctRecord) : ductOf (setDuct s d x).exm d = x := by cases d <;> rfl

end Sys2Proof.Machine
end

