-- ==== Sys2Proof/Laws/Touch.lean ====
section
/-! SUPPORT. Which blocks each hand-over can change: for every hand-over a list of blocks, and the proof that it leaves every
other block as it is. -/

namespace Sys2Proof.Machine

/-- The fields of the state. -/
inductive Block where
  | lif | sig | out | mru | tbs | btk | flx | tle | phm | pot | exm | acu | hld | overrun | pending
  deriving DecidableEq, Repr

/-- The block is the same in both states. -/
def sameBlock (b : Block) (s t : State) : Prop :=
  match b with
  | .lif => t.lif = s.lif
  | .sig => t.sig = s.sig
  | .out => t.out = s.out
  | .mru => t.mru = s.mru
  | .tbs => t.tbs = s.tbs
  | .btk => t.btk = s.btk
  | .flx => t.flx = s.flx
  | .tle => t.tle = s.tle
  | .phm => t.phm = s.phm
  | .pot => t.pot = s.pot
  | .exm => t.exm = s.exm
  | .acu => t.acu = s.acu
  | .hld => t.hld = s.hld
  | .overrun => t.overrun = s.overrun
  | .pending => t.pending = s.pending

/-- From `s` to `t` only the listed blocks change. -/
structure Touches (bs : List Block) (s t : State) : Prop where
  same : ∀ b, b ∉ bs → sameBlock b s t

theorem Touches.refl (bs : List Block) (s : State) : Touches bs s s := ⟨fun b _ => by cases b <;> rfl⟩

theorem Touches.trans {bs : List Block} {s t u : State} (h : Touches bs s t) (k : Touches bs t u) : Touches bs s u := by
  constructor
  intro b hb
  have h1 := h.same b hb
  have h2 := k.same b hb
  cases b <;> exact Eq.trans h2 h1

theorem Touches.mono {bs cs : List Block} {s t : State} (h : Touches bs s t) (sub : bs ⊆ cs) : Touches cs s t :=
  ⟨fun b hb => h.same b fun hm => hb (sub hm)⟩

theorem Touches.foldl {α : Type} {bs : List Block} {f : State → α → State} (h : ∀ s x, Touches bs s (f s x)) :
    ∀ (l : List α) (s : State), Touches bs s (l.foldl f s)
  | [], s => .refl bs s
  | x :: l, s => (h s x).trans (Touches.foldl h l (f s x))

theorem Touches.ite {bs : List Block} {s t u : State} {p : Prop} [Decidable p] (h : Touches bs s t) (k : Touches bs s u) :
    Touches bs s (if p then t else u) := by split <;> assumption


/-! ## The operations -/

theorem handCommand_touches (o : OutIx) (s : State) : Touches [.lif] s (handCommand o s) := by
  unfold handCommand
  (repeat' split) <;> (constructor; intro b hb; cases b <;> first | exact absurd (by decide) hb | rfl)

theorem formPure_touches (o : OutIx) (s : State) : Touches [.lif, .out] s (formPure o s) := by
  unfold formPure
  extract_lets r v
  split
  · exact .refl _ _
  · refine Touches.trans ?_ ((handCommand_touches o _).mono (by decide))
    refine Touches.trans (t := if (isValve o && v == 0) = true then { s with lif := withdraw o s.lif } else s) (Touches.ite ?_ (.refl _ s)) ?_
    all_goals (constructor; intro b hb; cases b <;> first | exact absurd (by decide) hb | rfl)

theorem takeTimed_touches (c : TimedCell) (s : State) : Touches [.lif, .flx] s (takeTimed c s) := by
  unfold takeTimed countLateEdges
  (repeat' split) <;> (constructor; intro b hb; cases b <;> first | exact absurd (by decide) hb | rfl)

theorem timedEdge_touches (n : NozzleIx) (x : Bool) (duty delay : Nat) (s : State) : Touches [.lif, .out, .flx] s (timedEdge n x duty delay s) := by
  unfold timedEdge
  extract_lets o s1 v r s2
  have h1 : Touches [.lif, .out, .flx] s s1 := by
    refine Touches.ite ((takeTimed_touches _ s).mono (by decide)) (.refl _ s)
  have h2 : Touches [.lif, .out, .flx] s1 s2 := by constructor; intro b hb; cases b <;> first | exact absurd (by decide) hb | rfl
  refine (h1.trans h2).trans (Touches.ite ?_ ((formPure_touches o s2).mono (by decide)))
  constructor; intro b hb; cases b <;> first | exact absurd (by decide) hb | rfl

theorem captureHeld_touches (g : Group) (s : State) : Touches [.out] s (captureHeld g s) := by
  refine Touches.foldl (fun t o => ?_) _ _
  constructor; intro b hb; cases b <;> first | exact absurd (by decide) hb | rfl

theorem handOperation_touches (op : FeederOperation) (s : State) : Touches [.out, .lif] s (handOperation op s) := by
  unfold handOperation
  extract_lets o x t
  have h : Touches [.out, .lif] s t := by constructor; intro b hb; cases b <;> first | exact absurd (by decide) hb | rfl
  refine h.trans (Touches.ite ?_ (.refl _ t))
  constructor; intro b hb; cases b <;> first | exact absurd (by decide) hb | rfl

theorem handLastOperation_touches (s : State) : Touches [.out, .lif] s (handLastOperation s) := by
  unfold handLastOperation
  split
  · exact handOperation_touches ..
  · exact .refl _ s

theorem startFeed_touches (s : State) : Touches [.pot, .out, .lif] s (startFeed s) := by
  unfold startFeed
  refine Touches.trans (t := setFeeder s _) ?_ ((handOperation_touches ..).mono (by decide))
  constructor; intro b hb; cases b <;> first | exact absurd (by decide) hb | rfl

theorem withdrawn_touches (o : OutIx) (s : State) : Touches [.lif] s ({ s with lif := withdraw o s.lif }) := by
  unfold withdraw
  constructor; intro b hb; cases b <;> first | exact absurd (by decide) hb | rfl

theorem setPump_touches (s : State) (w : Wave) (x : Pump) : Touches [.pot] s (setPump s w x) := by
  unfold setPump
  (repeat' split) <;> (constructor; intro b hb; cases b <;> first | exact absurd (by decide) hb | rfl)

theorem govern_touches (w : Wave) (s : State) : Touches [.pot] s (governWave w s) := by
  unfold governWave
  dsimp only
  refine Touches.trans (setPump_touches s w { pumpOf s.pot w with governing := waveGoverning s w }) ?_
  split <;> (constructor; intro b hb; cases b <;> first | exact absurd (by decide) hb | rfl)

theorem setDuct_touches (s : State) (d : Duct) (x : DuctRecord) : Touches [.exm] s (setDuct s d x) := by
  unfold setDuct
  (repeat' split) <;> (constructor; intro b hb; cases b <;> first | exact absurd (by decide) hb | rfl)

theorem accrueWave_touches (w : Wave) (ms : Nat) (s : State) : Touches [.btk] s (accrueWave w ms s) := by
  unfold accrueWave
  dsimp only
  (repeat' split) <;> (constructor; intro b hb; cases b <;> first | exact absurd (by decide) hb | rfl)

theorem enterWindow_touches (w : Wave) (s : State) : Touches [.pot] s ((enterWindow w s).1) := by
  refine Touches.foldl (fun t b => ?_) _ _
  constructor; intro b hb; cases b <;> first | exact absurd (by decide) hb | rfl

theorem contactFlags_touches (s : State) : Touches [.pot] s (contactFlags s) := by
  refine Touches.foldl (fun t b => ?_) _ _
  constructor; intro b hb; cases b <;> first | exact absurd (by decide) hb | rfl

theorem applyEdge_touches (s : State) (e : Edge) : Touches [.flx, .btk] s (applyEdge s e) := by
  unfold applyEdge
  (repeat' split) <;> (constructor; intro b hb; cases b <;> first | exact absurd (by decide) hb | rfl)

theorem planChange_touches (before : State) (delay : Nat) (n : NozzleIx) (s : State) : Touches [.flx] s (planChange before delay n s) := by
  unfold planChange
  (repeat' split) <;> (constructor; intro b hb; cases b <;> first | exact absurd (by decide) hb | rfl)

theorem handValve_touches (before : State) (delay : Nat) (n : NozzleIx) (s : State) : Touches [.lif, .out, .flx] s (handValve before delay n s) := by
  unfold handValve
  exact .ite (.refl _ s) (timedEdge_touches ..)

theorem applyGroup_touches (s : State) (g : Nat × List Edge) : Touches [.flx, .btk, .lif, .out] s (applyGroup s g) := by
  unfold applyGroup
  refine Touches.trans (Touches.foldl (fun t e => (applyEdge_touches t e).mono (by decide)) _ _) (Touches.foldl (fun t n => ?_) _ _)
  exact ((handValve_touches ..).mono (by decide)).trans ((planChange_touches ..).mono (by decide))

theorem closeRuns_touches (gone : List Edge) (s : State) : Touches [.flx] s (closeRuns gone s) := by
  refine Touches.foldl (fun t e => Touches.ite ?_ (.refl _ t)) _ _
  constructor; intro b hb; cases b <;> first | exact absurd (by decide) hb | rfl

theorem takeEdges_touches (v8 : Int) (s : State) : Touches [.flx, .btk, .lif, .out] s (takeEdges v8 s) := by
  unfold takeEdges
  extract_lets taken late groups t
  have h : Touches [.flx, .btk, .lif, .out] s t := by constructor; intro b hb; cases b <;> first | exact absurd (by decide) hb | rfl
  exact (h.trans (Touches.foldl applyGroup_touches groups t)).trans ((closeRuns_touches ..).mono (by decide))

theorem accountNozzle_touches (d : Nat) (s : State) (n : NozzleIx) : Touches [.flx] s (accountNozzle d s n) := by
  refine Touches.foldl (fun t p => ?_) _ _
  split <;> (constructor; intro b hb; cases b <;> first | exact absurd (by decide) hb | rfl)

theorem writeDoses_touches (s : State) : Touches [.btk] s (writeDoses s) := by
  refine Touches.foldl (fun t p => ?_) _ _
  constructor; intro b hb; cases b <;> first | exact absurd (by decide) hb | rfl

theorem clipSegment_touches (b : Board) (m : FieldMap) (k : Int) (g : Segment) (s : State) : Touches [.flx] s (clipSegment b m k g s) := by
  unfold clipSegment addEdge dropEdges mapSpray
  dsimp only
  (repeat' split) <;> (constructor; intro b hb; cases b <;> first | exact absurd (by decide) hb | rfl)

theorem beginForcing_touches (s : State) : Touches [.flx] s ((beginForcing s).1) := by
  unfold beginForcing
  constructor; intro b hb; cases b <;> first | exact absurd (by decide) hb | rfl

theorem computeLoop_touches (l : LoopIx) (i : SigIx) (s : State) : Touches [.tle] s ((computeLoop l i s).1) := by
  unfold computeLoop
  constructor; intro b hb; cases b <;> first | exact absurd (by decide) hb | rfl

theorem invalidArrival_touches (l : LoopIx) (s : State) : Touches [.tle] s ((invalidArrival l s).1) := by
  unfold invalidArrival
  dsimp only
  (repeat' split) <;> (constructor; intro b hb; cases b <;> first | exact absurd (by decide) hb | rfl)

theorem newEpisode_touches (c : Cause) (s : State) : Touches [.hld, .btk] s ((newEpisode c s).1) := by
  unfold newEpisode
  constructor; intro b hb; cases b <;> first | exact absurd (by decide) hb | rfl

theorem setLevel_touches (w : List Int) (l : Option Int) (s : State) : Touches [.pot] s ((setLevel w l s).1) := by
  unfold setLevel
  (repeat' split) <;> (constructor; intro b hb; cases b <;> first | exact absurd (by decide) hb | rfl)

theorem giveDuctCondition_touches (d : Duct) (c : DuctCondition) (s : State) : Touches [.exm] s ((giveDuctCondition d c s).1) := by
  unfold giveDuctCondition
  dsimp only
  split
  · exact .refl _ _
  · exact setDuct_touches ..

/-! ## The hand-overs -/

theorem closeLostCycle_touches (s : State) : Touches [.lif] s (closeLostCycle s).1 := by
  unfold closeLostCycle
  (repeat' split) <;> (constructor; intro b hb; cases b <;> first | exact absurd (by decide) hb | rfl)

theorem beginCycle_touches (s : State) : Touches [.lif, .flx] s (beginCycle s).1 := by
  unfold beginCycle
  constructor; intro b hb; cases b <;> first | exact absurd (by decide) hb | rfl

theorem blockComplete_touches (s : State) : Touches [.lif] s (blockComplete s).1 := by
  unfold blockComplete
  constructor; intro b hb; cases b <;> first | exact absurd (by decide) hb | rfl

theorem giveLoopLost_touches (s : State) : Touches [] s (giveLoopLost s).1 := by
  exact .refl _ _

theorem giveSignalStale_touches (s : State) : Touches [] s (giveSignalStale s).1 := by
  exact .refl _ _

theorem staleDucts_touches (s : State) : Touches [] s (staleDucts s).1 := by
  exact .refl _ _

theorem refresh_touches (s : State) : Touches [.lif] s (refresh s).1 := by
  unfold refresh
  split
  · exact .refl _ _
  · split
    · exact .refl _ _
    · split
      · exact .refl _ _
      · exact handCommand_touches _ s

theorem encoderGap_touches (s : State) : Touches [.btk, .pot, .hld] s (encoderGap s).1 := by
  unfold encoderGap
  constructor; intro b hb; cases b <;> first | exact absurd (by decide) hb | rfl

theorem samplePosition_touches (src : Byte) (channel : Nat) (code : Nat) (value : Word16) (s : State) : Touches [.sig] s (samplePosition src channel code value s).1 := by
  unfold samplePosition
  (repeat' split) <;> (constructor; intro b hb; cases b <;> first | exact absurd (by decide) hb | rfl)

theorem setAutomatic_touches (o : OutIx) (v : Nat) (s : State) : Touches [.lif, .out] s (setAutomatic o v s).1 := by
  refine Touches.trans (t := setOutputRecord s o _) ?_ (formPure_touches o _)
  constructor; intro b hb; cases b <;> first | exact absurd (by decide) hb | rfl

theorem formDelivered_touches (o : OutIx) (s : State) : Touches [.lif, .out] s (formDelivered o s).1 := by
  exact formPure_touches o s

theorem handDelivered_touches (o : OutIx) (s : State) : Touches [.lif, .out] s (handDelivered o s).1 := by
  unfold handDelivered
  dsimp only
  split
  · exact (handLastOperation_touches s).mono (by decide)
  · split
    · exact (formPure_touches o s).trans ((handCommand_touches o _).mono (by decide))
    · exact formPure_touches o s

theorem directClose_touches (n : NozzleIx) (s : State) : Touches [.lif, .out] s (directClose n s).1 := by
  refine Touches.trans (t := setOutputRecord { s with lif := withdraw (valveOutput n) s.lif } (valveOutput n) _) ?_ (formPure_touches (valveOutput n) _)
  constructor; intro b hb; cases b <;> first | exact absurd (by decide) hb | rfl

theorem takeCondition_touches (a : AlarmIx) (value : Bool) (evaluation : Bool) (s : State) : Touches [.acu] s (takeCondition a value evaluation s).1 := by
  unfold takeCondition
  extract_lets e r
  split
  · exact .refl _ _
  · constructor; intro b hb; cases b <;> first | exact absurd (by decide) hb | rfl

theorem takeA41Btk_touches (evaluation : Bool) (s : State) : Touches [.acu] s (takeA41Btk evaluation s).1 := by
  unfold takeA41Btk
  constructor; intro b hb; cases b <;> first | exact absurd (by decide) hb | rfl

theorem takeA41Hld_touches (s : State) : Touches [.acu] s (takeA41Hld s).1 := by
  unfold takeA41Hld
  constructor; intro b hb; cases b <;> first | exact absurd (by decide) hb | rfl

theorem takeEvent_touches (a : AlarmIx) (s : State) : Touches [.acu] s (takeEvent a s).1 := by
  unfold takeEvent
  extract_lets e r
  split
  · exact .refl _ _
  · constructor; intro b hb; cases b <;> first | exact absurd (by decide) hb | rfl

theorem activateGroup_touches (g : Group) (cause : Cause) (s : State) : Touches [.acu, .out] s (activateGroup g cause s).1 := by
  unfold activateGroup
  extract_lets r
  split
  · exact .refl _ _
  · refine ((captureHeld_touches g s).mono (by decide)).trans ?_
    constructor; intro b hb; cases b <;> first | exact absurd (by decide) hb | rfl

theorem deactivateGroup_touches (g : Group) (s : State) : Touches [.acu] s (deactivateGroup g s).1 := by
  unfold deactivateGroup
  (repeat' split) <;> (constructor; intro b hb; cases b <;> first | exact absurd (by decide) hb | rfl)

theorem restartAlarms_touches (s : State) : Touches [.acu] s (restartAlarms s).1 := by
  unfold restartAlarms
  dsimp only
  constructor; intro b hb; cases b <;> first | exact absurd (by decide) hb | rfl

theorem restartGroup_touches (g : Group) (s : State) : Touches [] s (restartGroup g s).1 := by
  exact .refl _ _

theorem encoder_touches (status : SampleStatus) (s : State) : Touches [.btk] s (encoder status s).1 := by
  unfold encoder
  (repeat' split) <;> (constructor; intro b hb; cases b <;> first | exact absurd (by decide) hb | rfl)

theorem boardSensor_touches (exit : Bool) (status : SampleStatus) (s : State) : Touches [.btk] s (boardSensor exit status s).1 := by
  unfold boardSensor
  (repeat' split) <;> (constructor; intro b hb; cases b <;> first | exact absurd (by decide) hb | rfl)

theorem boardSensorSilent_touches (exit : Bool) (s : State) : Touches [.btk] s (boardSensorSilent exit s).1 := by
  unfold boardSensorSilent
  constructor; intro b hb; cases b <;> first | exact absurd (by decide) hb | rfl

theorem entryLead_touches (captured : Word32) (s : State) : Touches [.btk, .tbs] s (entryLead captured s).1 := by
  unfold entryLead
  (repeat' split) <;> (constructor; intro b hb; cases b <;> first | exact absurd (by decide) hb | rfl)

theorem entryTail_touches (captured : Word32) (s : State) : Touches [.btk] s (entryTail captured s).1 := by
  unfold entryTail
  dsimp only
  split
  · split <;> (constructor; intro b hb; cases b <;> first | exact absurd (by decide) hb | rfl)
  · constructor; intro b hb; cases b <;> first | exact absurd (by decide) hb | rfl

theorem exitLead_touches (captured : Word32) (s : State) : Touches [.btk] s (exitLead captured s).1 := by
  unfold exitLead
  dsimp only
  (repeat' split) <;> (constructor; intro b hb; cases b <;> first | exact absurd (by decide) hb | rfl)

theorem exitTail_touches (s : State) : Touches [.btk] s (exitTail s).1 := by
  unfold exitTail
  (repeat' split) <;> (constructor; intro b hb; cases b <;> first | exact absurd (by decide) hb | rfl)

theorem missingTest_touches (s : State) : Touches [] s (missingTest s).1 := by
  unfold missingTest
  split <;> exact .refl _ _

theorem retire_touches (lost : Bool) (s : State) : Touches [.btk, .tbs, .lif, .mru] s (retire lost s).1 := by
  unfold retire pushReport countDropped
  (repeat' split) <;> (constructor; intro b hb; cases b <;> first | exact absurd (by decide) hb | rfl | (simp only [sameBlock]; split <;> rfl))

theorem entryBlocked_touches (evaluation : Bool) (s : State) : Touches [] s (entryBlocked evaluation s).1 := by
  exact .refl _ _

theorem admission_touches (s : State) : Touches [.btk] s (admission s).1 := by
  unfold admission
  constructor; intro b hb; cases b <;> first | exact absurd (by decide) hb | rfl

theorem conveyor_touches (s : State) : Touches [] s (conveyor s).1 := by
  exact .refl _ _

theorem noMotion_touches (s : State) : Touches [.btk] s (noMotion s).1 := by
  unfold noMotion
  (repeat' split) <;> (constructor; intro b hb; cases b <;> first | exact absurd (by decide) hb | rfl)

theorem writeDefect_touches (n : BoardNo) (d : Defect) (s : State) : Touches [.btk] s (writeDefect n d s).1 := by
  unfold writeDefect
  (repeat' split) <;> (constructor; intro b hb; cases b <;> first | exact absurd (by decide) hb | rfl)

theorem writeDisposition_touches (n : BoardNo) (d : Disposition) (s : State) : Touches [.btk] s (writeDisposition n d s).1 := by
  unfold writeDisposition
  (repeat' split) <;> (constructor; intro b hb; cases b <;> first | exact absurd (by decide) hb | rfl)

theorem dispositionTold_touches (n : BoardNo) (s : State) : Touches [] s (dispositionTold n s).1 := by
  exact .refl _ _

theorem flxNewRecord_touches (n : BoardNo) (s : State) : Touches [.flx, .btk] s (flxNewRecord n s).1 := by
  unfold flxNewRecord
  extract_lets
  split
  · exact .refl _ _
  · split
    · constructor; intro b hb; cases b <;> first | exact absurd (by decide) hb | rfl
    · split
      · constructor; intro b hb; cases b <;> first | exact absurd (by decide) hb | rfl
      · refine Touches.trans ?_ (Touches.foldl (fun t k => ?_) _ _) <;> (constructor; intro b hb; cases b <;> first | exact absurd (by decide) hb | rfl)

theorem flxLength_touches (n : BoardNo) (s : State) : Touches [.flx, .btk] s (flxLength n s).1 := by
  unfold flxLength
  split
  · split
    · extract_lets had t
      have h : Touches [.flx, .btk] s t := Touches.foldl (fun t g => (clipSegment_touches ..).mono (by decide)) _ _
      split
      · split
        · refine h.trans ?_; constructor; intro b hb; cases b <;> first | exact absurd (by decide) hb | rfl
        · exact h
      · split
        · refine h.trans ?_; constructor; intro b hb; cases b <;> first | exact absurd (by decide) hb | rfl
        · exact h
    · exact .refl _ _
  · exact .refl _ _

theorem flxRework_touches (n : BoardNo) (s : State) : Touches [.flx, .btk] s (flxRework n s).1 := by
  unfold flxRework
  (repeat' split) <;> (constructor; intro b hb; cases b <;> first | exact absurd (by decide) hb | rfl)

theorem flxRemoved_touches (n : BoardNo) (s : State) : Touches [.flx] s (flxRemoved n s).1 := by
  unfold flxRemoved
  refine Touches.trans (t := deriveNozzles _) ?_ (Touches.foldl (fun t k => Touches.ite ?_ (.refl _ t)) _ _)
  all_goals (constructor; intro b hb; cases b <;> first | exact absurd (by decide) hb | rfl)

theorem flxForcing_touches (s : State) : Touches [.flx] s (flxForcing s).1 := by
  unfold flxForcing
  extract_lets v
  split
  · exact beginForcing_touches s
  · constructor; intro b hb; cases b <;> first | exact absurd (by decide) hb | rfl

theorem flxSample_touches (s : State) : Touches [] s (flxSample s).1 := by
  unfold flxSample
  split <;> exact .refl _ _

theorem flxAccount_touches (s : State) : Touches [.flx, .btk] s (flxAccount s).1 := by
  unfold flxAccount
  extract_lets stamp t
  have h : Touches [.flx, .btk] s t := by
    show Touches _ s (match s.flx.lastAccounted with | none => s | some last => _)
    split
    · exact .refl _ _
    · exact (Touches.foldl (fun t n => (accountNozzle_touches ..).mono (by decide)) _ _).trans
        ((writeDoses_touches _).mono (by decide))
  refine h.trans ?_
  constructor; intro b hb; cases b <;> first | exact absurd (by decide) hb | rfl

theorem flxRunEnds_touches (s : State) : Touches [] s (flxRunEnds s).1 := by
  exact .refl _ _

theorem flxRunEnd_touches (n : BoardNo) (s : State) : Touches [.flx, .btk] s (flxRunEnd n s).1 := by
  unfold flxRunEnd
  split
  · split
    · extract_lets t dose
      split <;> (constructor; intro b hb; cases b <;> first | exact absurd (by decide) hb | rfl)
    · exact .refl _ _
  · exact .refl _ _

theorem flxEndingCloses_touches (s : State) : Touches [.flx, .lif, .out] s (flxEndingCloses s).1 := by
  unfold flxEndingCloses
  refine Touches.trans (t := deriveNozzles _) ?_ (Touches.foldl (fun t n => ?_) _ _)
  · constructor; intro b hb; cases b <;> first | exact absurd (by decide) hb | rfl
  refine ((planChange_touches ..).mono (by decide)).trans (Touches.ite ?_ (.refl _ _))
  refine Touches.trans (t := mapNozzle _ n _) ?_ ((timedEdge_touches ..).mono (by decide))
  constructor; intro b hb; cases b <;> first | exact absurd (by decide) hb | rfl

theorem flxTakeEdges_touches (s : State) : Touches [.flx, .btk, .lif, .out] s (flxTakeEdges s).1 := by
  unfold flxTakeEdges
  split
  · exact .refl _ _
  · split
    · exact .refl _ _
    · split
      · exact takeEdges_touches _ s
      · exact .refl _ _

theorem flxConsume_touches (s : State) : Touches [.flx] s (flxConsume s).1 := by
  unfold flxConsume
  split
  · split
    · exact .refl _ _
    · rename_i e _
      have h : Touches [.flx] s (closeRuns [e] { s with flx := { s.flx with edges := s.flx.edges.erase e } }) := by
        refine Touches.trans (t := { s with flx := _ }) ?_ (closeRuns_touches ..)
        constructor; intro b hb; cases b <;> first | exact absurd (by decide) hb | rfl
      dsimp only
      split
      · refine h.trans ?_
        constructor; intro b hb; cases b <;> first | exact absurd (by decide) hb | rfl
      · exact h
  · exact .refl _ _

theorem fluxTank_touches (s : State) : Touches [.flx] s (fluxTank s).1 := by
  unfold fluxTank
  constructor; intro b hb; cases b <;> first | exact absurd (by decide) hb | rfl

theorem loopArrival_touches (l : LoopIx) (i : SigIx) (status : SampleStatus) (s : State) : Touches [.tle] s (loopArrival l i status s).1 := by
  unfold loopArrival ownArrival otherArrival
  (repeat' split) <;> first
    | exact .refl _ _
    | exact computeLoop_touches l i s
    | exact invalidArrival_touches l s
    | (constructor; intro b hb; cases b <;> first | exact absurd (by decide) hb | rfl)

theorem loopSilent_touches (l : LoopIx) (i : SigIx) (s : State) : Touches [.tle] s (loopSilent l i s).1 := by
  unfold loopSilent
  (repeat' split) <;> (constructor; intro b hb; cases b <;> first | exact absurd (by decide) hb | rfl)

theorem tleGroup_touches (g : Group) (s : State) : Touches [.tle] s (tleGroup g s).1 := by
  unfold tleGroup
  split
  · refine Touches.foldl (fun t l => ?_) _ _
    constructor; intro b hb; cases b <;> first | exact absurd (by decide) hb | rfl
  · exact .refl _ _

theorem tleConditions_touches (l : LoopIx) (s : State) : Touches [] s (tleConditions l s).1 := by
  exact .refl _ _

theorem tleRestart_touches (s : State) : Touches [] s (tleRestart s).1 := by
  exact .refl _ _

theorem phmNewRecord_touches (n : BoardNo) (s : State) : Touches [.phm] s (phmNewRecord n s).1 := by
  unfold phmNewRecord
  constructor; intro b hb; cases b <;> first | exact absurd (by decide) hb | rfl

theorem phmRemoved_touches (n : BoardNo) (s : State) : Touches [.phm] s (phmRemoved n s).1 := by
  unfold phmRemoved
  constructor; intro b hb; cases b <;> first | exact absurd (by decide) hb | rfl

theorem phmDecide_touches (s : State) : Touches [.phm] s (phmDecide s).1 := by
  unfold phmDecide
  constructor; intro b hb; cases b <;> first | exact absurd (by decide) hb | rfl

theorem phmArm_touches (s : State) : Touches [.phm] s (phmArm s).1 := by
  unfold phmArm
  (repeat' split) <;> (constructor; intro b hb; cases b <;> first | exact absurd (by decide) hb | rfl)

theorem phmPhase_touches (s : State) : Touches [.phm] s (phmPhase s).1 := by
  unfold phmPhase
  constructor; intro b hb; cases b <;> first | exact absurd (by decide) hb | rfl

theorem pyrometer_touches (status : SampleStatus) (s : State) : Touches [.phm, .btk] s (pyrometer status s).1 := by
  unfold pyrometer armedUnknown
  split
  · have h (x : Int) : Touches [.phm, .btk] s ((armedBoards s).foldl (fun s n =>
        mapBoard s n fun b => { b with topside := some x }) s) := Touches.foldl (fun t n => by constructor; intro b hb; cases b <;> first | exact absurd (by decide) hb | rfl) _ _
    dsimp only
    generalize hy : List.foldl _ _ _ = y
    refine Touches.trans (hy ▸ h _) ?_
    constructor; intro b hb; cases b <;> first | exact absurd (by decide) hb | rfl
  · constructor; intro b hb; cases b <;> first | exact absurd (by decide) hb | rfl

theorem armedUnknown_touches (s : State) : Touches [.phm] s (armedUnknown s).1 := by
  unfold armedUnknown
  constructor; intro b hb; cases b <;> first | exact absurd (by decide) hb | rfl

theorem potTemperature_touches (s : State) : Touches [.pot] s (potTemperature s).1 := by
  unfold potTemperature potActs
  (repeat' split) <;> (constructor; intro b hb; cases b <;> first | exact absurd (by decide) hb | rfl)

theorem potEvaluate_touches (why : PotEvent) (s : State) : Touches [.pot] s (potEvaluate why s).1 := by
  unfold potEvaluate potActs
  (repeat' split) <;> (constructor; intro b hb; cases b <;> first | exact absurd (by decide) hb | rfl)

theorem potChanged_touches (old : PotState) (s : State) : Touches [] s (potChanged old s).1 := by
  exact .refl _ _

theorem potAlarm_touches (set : Bool) (s : State) : Touches [.pot] s (potAlarm set s).1 := by
  unfold potAlarm potActs
  (repeat' split) <;> (constructor; intro b hb; cases b <;> first | exact absurd (by decide) hb | rfl)

theorem potGroup_touches (g : Group) (s : State) : Touches [.pot, .out, .lif] s (potGroup g s).1 := by
  unfold potGroup potActs
  split
  · exact .refl _ _
  · split
    · exact .refl _ _
    · exact .refl _ _
    · split
      · split
        · refine Touches.trans (t := handOperation ⟨.abort, 0, s.pot.feeder.number⟩ s)
            ((handOperation_touches _ s).mono (by decide)) ?_
          constructor; intro b hb; cases b <;> first | exact absurd (by decide) hb | rfl
        · exact .refl _ _
      · exact .refl _ _
    · exact .refl _ _
    · exact .refl _ _
    · exact .refl _ _

theorem potLine_touches (s : State) : Touches [] s (potLine s).1 := by
  unfold potLine potActs
  split <;> exact .refl _ _

theorem potLeavesUnconfigured_touches (s : State) : Touches [.pot] s (potLeavesUnconfigured s).1 := by
  unfold potLeavesUnconfigured
  constructor; intro b hb; cases b <;> first | exact absurd (by decide) hb | rfl

theorem setbackTimer_touches (s : State) : Touches [.pot] s (setbackTimer s).1 := by
  unfold setbackTimer potActs
  (repeat' split) <;> (constructor; intro b hb; cases b <;> first | exact absurd (by decide) hb | rfl)

theorem potNewRecord_touches (n : BoardNo) (s : State) : Touches [.pot] s (potNewRecord n s).1 := by
  unfold potNewRecord potActs
  (repeat' split) <;> (constructor; intro b hb; cases b <;> first | exact absurd (by decide) hb | rfl)

theorem potRemoved_touches (n : BoardNo) (s : State) : Touches [.pot] s (potRemoved n s).1 := by
  unfold potRemoved potActs
  (repeat' split) <;> (constructor; intro b hb; cases b <;> first | exact absurd (by decide) hb | rfl)

theorem potRecord_touches (s : State) : Touches [] s (potRecord s).1 := by
  unfold potRecord potActs
  split <;> exact .refl _ _

theorem potSample_touches (s : State) : Touches [] s (potSample s).1 := by
  unfold potSample potActs
  split <;> exact .refl _ _

theorem potGoverning_touches (s : State) : Touches [.pot] s (potGoverning s).1 := by
  unfold potGoverning potActs
  split
  · exact .refl _ _
  · exact (govern_touches .chip s).trans (govern_touches .laminar _)

theorem potWindows_touches (s : State) : Touches [.pot] s (potWindows s).1 := by
  unfold potWindows potActs
  split
  · exact .refl _ _
  · exact (enterWindow_touches .chip s).trans (enterWindow_touches .laminar _)

theorem potContact_touches (s : State) : Touches [.pot, .btk] s (potContact s).1 := by
  unfold potContact potActs
  split
  · exact .refl _ _
  · extract_lets stamp t
    have h : Touches [.pot, .btk] s t := by
      show Touches _ s (match s.pot.lastEncoder with | none => s | some last => _)
      split
      · exact .refl _ _
      · exact ((accrueWave_touches ..).mono (by decide)).trans ((accrueWave_touches ..).mono (by decide))
    refine h.trans ?_
    constructor; intro b hb; cases b <;> first | exact absurd (by decide) hb | rfl

theorem potStatuses_touches (atSample : Bool) (s : State) : Touches [.pot, .btk] s (potStatuses atSample s).1 := by
  unfold potStatuses potActs
  split
  · exact .refl _ _
  · dsimp only
    have h (x : Btk) : Touches [.pot, .btk] s (contactFlags { s with btk := x }) :=
      Touches.trans (by constructor; intro b hb; cases b <;> first | exact absurd (by decide) hb | rfl) ((contactFlags_touches _).mono (by decide))
    generalize hy : contactFlags _ = y
    refine Touches.trans (hy ▸ h _) ?_
    constructor; intro b hb; cases b <;> first | exact absurd (by decide) hb | rfl

theorem pumpCommand_touches (w : Wave) (s : State) : Touches [] s (pumpCommand w s).1 := by
  unfold pumpCommand potActs
  split <;> exact .refl _ _

theorem releasePumps_touches (s : State) : Touches [.out] s (releasePumps s).1 := by
  unfold releasePumps
  constructor; intro b hb; cases b <;> first | exact absurd (by decide) hb | rfl

theorem potNotReadyTest_touches (s : State) : Touches [] s (potNotReadyTest s).1 := by
  exact .refl _ _

theorem pumpDelivered_touches (w : Wave) (s : State) : Touches [.pot] s (pumpDelivered w s).1 := by
  unfold pumpDelivered potActs
  split
  · exact .refl _ _
  · exact setPump_touches ..

theorem pumpFeedback_touches (w : Wave) (status : SampleStatus) (s : State) : Touches [.pot] s (pumpFeedback w status s).1 := by
  unfold pumpFeedback potActs
  split
  · exact .refl _ _
  · exact setPump_touches ..

theorem pumpFeedbackSilent_touches (w : Wave) (s : State) : Touches [.pot] s (pumpFeedbackSilent w s).1 := by
  unfold pumpFeedbackSilent potActs
  split
  · exact .refl _ _
  · exact setPump_touches ..

theorem pumpFault_touches (w : Wave) (evaluation : Bool) (s : State) : Touches [.pot] s (pumpFault w evaluation s).1 := by
  exact setPump_touches ..

theorem levelArrival_touches (status : SampleStatus) (s : State) : Touches [.pot] s (levelArrival status s).1 := by
  unfold levelArrival potActs
  (repeat' split) <;> first | exact .refl _ _ | exact setLevel_touches ..

theorem levelSilent_touches (s : State) : Touches [.pot] s (levelSilent s).1 := by
  unfold levelSilent potActs
  split
  · exact .refl _ _
  · exact setLevel_touches ..

theorem levelConditions_touches (evaluation : Bool) (s : State) : Touches [] s (levelConditions evaluation s).1 := by
  exact .refl _ _

theorem feedEvaluate_touches (s : State) : Touches [.pot, .out, .lif] s (feedEvaluate s).1 := by
  exact Touches.ite (startFeed_touches s) (.refl _ s)

theorem feedFaulted_touches (s : State) : Touches [.pot] s (feedFaulted s).1 := by
  unfold feedFaulted
  constructor; intro b hb; cases b <;> first | exact absurd (by decide) hb | rfl

theorem settleOver_touches (s : State) : Touches [.pot] s (settleOver s).1 := by
  unfold settleOver
  (repeat' split) <;> (constructor; intro b hb; cases b <;> first | exact absurd (by decide) hb | rfl)

theorem settleFinish_touches (s : State) : Touches [.pot] s (settleFinish s).1 := by
  unfold settleFinish
  extract_lets t
  split <;> (constructor; intro b hb; cases b <;> first | exact absurd (by decide) hb | rfl)

theorem feederRelease_touches (s : State) : Touches [.pot] s (feederRelease s).1 := by
  unfold feederRelease potActs
  (repeat' split) <;> (constructor; intro b hb; cases b <;> first | exact absurd (by decide) hb | rfl)

theorem feederRestart_touches (s : State) : Touches [.pot, .out, .lif] s (feederRestart s).1 := by
  unfold feederRestart
  dsimp only
  split
  · refine Touches.trans (t := handOperation ⟨.abort, 0, s.pot.feeder.number⟩ s)
      ((handOperation_touches _ s).mono (by decide)) ?_
    constructor; intro b hb; cases b <;> first | exact absurd (by decide) hb | rfl
  · constructor; intro b hb; cases b <;> first | exact absurd (by decide) hb | rfl
  · exact .refl _ _
  · exact .refl _ _

theorem duct1Demand_touches (s : State) : Touches [.exm] s (duct1Demand s).1 := by
  unfold duct1Demand
  constructor; intro b hb; cases b <;> first | exact absurd (by decide) hb | rfl

theorem fanCommands_touches (s : State) : Touches [] s (fanCommands s).1 := by
  exact .refl _ _

theorem fanCommand_touches (d : Duct) (s : State) : Touches [.exm] s (fanCommand d s).1 := by
  unfold fanCommand
  extract_lets r v
  split
  · exact .refl _ _
  · exact setDuct_touches ..

theorem pumpReported_touches (w : Wave) (s : State) : Touches [.exm] s (pumpReported w s).1 := by
  unfold pumpReported
  (repeat' split) <;> (constructor; intro b hb; cases b <;> first | exact absurd (by decide) hb | rfl)

theorem fanReported_touches (d : Duct) (s : State) : Touches [.exm] s (fanReported d s).1 := by
  exact setDuct_touches ..

theorem fanGraceOver_touches (d : Duct) (s : State) : Touches [.exm] s (fanGraceOver d s).1 := by
  unfold fanGraceOver
  split
  · exact setDuct_touches ..
  · exact .refl _ _

theorem ductConditions_touches (d : Duct) (s : State) : Touches [] s (ductConditions d s).1 := by
  exact .refl _ _

theorem ductSignal_touches (i : SigIx) (s : State) : Touches [.exm] s (ductSignal i s).1 := by
  unfold ductSignal
  split
  · exact giveDuctCondition_touches ..
  · exact .refl _ _

theorem flame_touches (seen : Bool) (s : State) : Touches [.exm] s (flame seen s).1 := by
  unfold flame
  constructor; intro b hb; cases b <;> first | exact absurd (by decide) hb | rfl

theorem exmLeavesUnconfigured_touches (s : State) : Touches [.exm] s (exmLeavesUnconfigured s).1 := by
  unfold exmLeavesUnconfigured
  constructor; intro b hb; cases b <;> first | exact absurd (by decide) hb | rfl

theorem holdCause_touches (c : Cause) (s : State) : Touches [.hld, .btk] s (holdCause c s).1 := by
  unfold holdCause
  (repeat' split) <;> (constructor; intro b hb; cases b <;> first | exact absurd (by decide) hb | rfl)

theorem phaseTold_touches (s : State) : Touches [] s (phaseTold s).1 := by
  exact .refl _ _

theorem hldEncoder_touches (s : State) : Touches [.hld] s (hldEncoder s).1 := by
  unfold hldEncoder
  (repeat' split) <;> (constructor; intro b hb; cases b <;> first | exact absurd (by decide) hb | rfl)

theorem reachHeld_touches (s : State) : Touches [.hld] s (reachHeld s).1 := by
  unfold reachHeld
  (repeat' split) <;> (constructor; intro b hb; cases b <;> first | exact absurd (by decide) hb | rfl)

theorem heldBoards_touches (s : State) : Touches [.hld] s (heldBoards s).1 := by
  unfold heldBoards
  constructor; intro b hb; cases b <;> first | exact absurd (by decide) hb | rfl

theorem holdLine_touches (n : BoardNo) (s : State) : Touches [.hld] s (holdLine n s).1 := by
  unfold holdLine
  (repeat' split) <;> (constructor; intro b hb; cases b <;> first | exact absurd (by decide) hb | rfl)

theorem lineTold_touches (old : LineState) (s : State) : Touches [] s (lineTold old s).1 := by
  exact .refl _ _

theorem drainingTest_touches (s : State) : Touches [.mru] s (drainingTest s).1 := by
  unfold drainingTest
  (repeat' split) <;> (constructor; intro b hb; cases b <;> first | exact absurd (by decide) hb | rfl)

theorem configuredTest_touches (s : State) : Touches [.mru] s (configuredTest s).1 := by
  unfold configuredTest
  (repeat' split) <;> (constructor; intro b hb; cases b <;> first | exact absurd (by decide) hb | rfl)

/-- The blocks that a hand-over can change. -/
def touched : Task → List Block
  | .closeLostCycle | .blockComplete | .refresh => [.lif]
  | .beginCycle => [.lif, .flx]
  | .giveLoopLost | .giveSignalStale | .staleDucts | .restartGroup _ | .missingTest | .entryBlocked _ | .conveyor
  | .dispositionTold _ | .flxSample | .flxRunEnds | .tleConditions _ | .tleRestart | .potChanged _ | .potLine
  | .potRecord | .potSample | .pumpCommand _ | .potNotReadyTest | .levelConditions _ | .fanCommands
  | .ductConditions _ | .phaseTold | .lineTold _ => []
  | .loopDown | .encoderSilent => [.btk, .pot, .hld]
  | .samplePosition _ _ _ _ => [.sig]
  | .setAutomatic _ _ | .formDelivered _ | .handDelivered _ | .directClose _ => [.lif, .out]
  | .condition _ _ _ | .a41Btk _ | .a41Hld | .event _ | .deactivate _ | .restartAlarms => [.acu]
  | .activate _ _ => [.acu, .out]
  | .encoder _ | .boardSensor _ _ | .boardSensorSilent _ | .entryTail _ | .exitLead _ | .exitTail | .admission
  | .noMotion | .defect _ _ | .disposition _ _ => [.btk]
  | .entryLead _ => [.btk, .tbs]
  | .retire _ => [.btk, .tbs, .lif, .mru]
  | .flxNewRecord _ | .flxLength _ | .flxRework _ | .flxAccount | .flxRunEnd _ => [.flx, .btk]
  | .flxRemoved _ | .flxForcing | .flxConsume | .fluxTank => [.flx]
  | .flxEndingCloses => [.flx, .lif, .out]
  | .flxTakeEdges => [.flx, .btk, .lif, .out]
  | .loopArrival _ _ _ | .loopSilent _ _ | .tleGroup _ => [.tle]
  | .phmNewRecord _ | .phmRemoved _ | .phmDecide | .phmArm | .phmPhase | .pyrometerSilent => [.phm]
  | .pyrometer _ => [.phm, .btk]
  | .potTemperature | .potEvaluate _ | .potAlarm _ | .potLeavesUnconfigured | .setbackTimer | .potNewRecord _
  | .potRemoved _ | .potGoverning | .potWindows | .pumpDelivered _ | .pumpFeedback _ _ | .pumpFeedbackSilent _
  | .pumpFault _ _ | .levelArrival _ | .levelSilent | .feedFaulted | .settleOver | .settleFinish | .feederRelease => [.pot]
  | .potGroup _ | .feedEvaluate | .feederRestart => [.pot, .out, .lif]
  | .potContact | .potStatuses _ => [.pot, .btk]
  | .releasePumps => [.out]
  | .duct1Demand | .fanCommand _ | .pumpReported _ | .fanReported _ | .fanGraceOver _ | .ductSignal _ | .flame _
  | .exmLeavesUnconfigured => [.exm]
  | .holdCause _ => [.hld, .btk]
  | .hldEncoder | .reachHeld | .heldBoards | .holdLine _ => [.hld]
  | .drainingTest | .configuredTest => [.mru]

/-- A hand-over leaves every block as it is but those it can change. -/
theorem handle_touches (t : Task) (s : State) : Touches (touched t) s (handle t s).1 :=
  match t with
  | .closeLostCycle => closeLostCycle_touches s
  | .beginCycle => beginCycle_touches s
  | .blockComplete => blockComplete_touches s
  | .giveLoopLost => giveLoopLost_touches s
  | .giveSignalStale => giveSignalStale_touches s
  | .staleDucts => staleDucts_touches s
  | .refresh => refresh_touches s
  | .loopDown => encoderGap_touches s
  | .samplePosition src channel code value => samplePosition_touches src channel code value s
  | .setAutomatic o v => setAutomatic_touches o v s
  | .formDelivered o => formDelivered_touches o s
  | .handDelivered o => handDelivered_touches o s
  | .directClose n => directClose_touches n s
  | .condition a value evaluation => takeCondition_touches a value evaluation s
  | .a41Btk evaluation => takeA41Btk_touches evaluation s
  | .a41Hld => takeA41Hld_touches s
  | .event a => takeEvent_touches a s
  | .activate g cause => activateGroup_touches g cause s
  | .deactivate g => deactivateGroup_touches g s
  | .restartAlarms => restartAlarms_touches s
  | .restartGroup g => restartGroup_touches g s
  | .encoder status => encoder_touches status s
  | .encoderSilent => encoderGap_touches s
  | .boardSensor exit status => boardSensor_touches exit status s
  | .boardSensorSilent exit => boardSensorSilent_touches exit s
  | .entryLead captured => entryLead_touches captured s
  | .entryTail captured => entryTail_touches captured s
  | .exitLead captured => exitLead_touches captured s
  | .exitTail => exitTail_touches s
  | .missingTest => missingTest_touches s
  | .retire lost => retire_touches lost s
  | .entryBlocked evaluation => entryBlocked_touches evaluation s
  | .admission => admission_touches s
  | .conveyor => conveyor_touches s
  | .noMotion => noMotion_touches s
  | .defect n d => writeDefect_touches n d s
  | .disposition n d => writeDisposition_touches n d s
  | .dispositionTold n => dispositionTold_touches n s
  | .flxNewRecord n => flxNewRecord_touches n s
  | .flxLength n => flxLength_touches n s
  | .flxRework n => flxRework_touches n s
  | .flxRemoved n => flxRemoved_touches n s
  | .flxForcing => flxForcing_touches s
  | .flxSample => flxSample_touches s
  | .flxAccount => flxAccount_touches s
  | .flxRunEnds => flxRunEnds_touches s
  | .flxRunEnd n => flxRunEnd_touches n s
  | .flxEndingCloses => flxEndingCloses_touches s
  | .flxTakeEdges => flxTakeEdges_touches s
  | .flxConsume => flxConsume_touches s
  | .fluxTank => fluxTank_touches s
  | .loopArrival l i status => loopArrival_touches l i status s
  | .loopSilent l i => loopSilent_touches l i s
  | .tleGroup g => tleGroup_touches g s
  | .tleConditions l => tleConditions_touches l s
  | .tleRestart => tleRestart_touches s
  | .phmNewRecord n => phmNewRecord_touches n s
  | .phmRemoved n => phmRemoved_touches n s
  | .phmDecide => phmDecide_touches s
  | .phmArm => phmArm_touches s
  | .phmPhase => phmPhase_touches s
  | .pyrometer status => pyrometer_touches status s
  | .pyrometerSilent => armedUnknown_touches s
  | .potTemperature => potTemperature_touches s
  | .potEvaluate why => potEvaluate_touches why s
  | .potChanged old => potChanged_touches old s
  | .potAlarm set => potAlarm_touches set s
  | .potGroup g => potGroup_touches g s
  | .potLine => potLine_touches s
  | .potLeavesUnconfigured => potLeavesUnconfigured_touches s
  | .setbackTimer => setbackTimer_touches s
  | .potNewRecord n => potNewRecord_touches n s
  | .potRemoved n => potRemoved_touches n s
  | .potRecord => potRecord_touches s
  | .potSample => potSample_touches s
  | .potGoverning => potGoverning_touches s
  | .potWindows => potWindows_touches s
  | .potContact => potContact_touches s
  | .potStatuses atSample => potStatuses_touches atSample s
  | .pumpCommand w => pumpCommand_touches w s
  | .releasePumps => releasePumps_touches s
  | .potNotReadyTest => potNotReadyTest_touches s
  | .pumpDelivered w => pumpDelivered_touches w s
  | .pumpFeedback w status => pumpFeedback_touches w status s
  | .pumpFeedbackSilent w => pumpFeedbackSilent_touches w s
  | .pumpFault w evaluation => pumpFault_touches w evaluation s
  | .levelArrival status => levelArrival_touches status s
  | .levelSilent => levelSilent_touches s
  | .levelConditions evaluation => levelConditions_touches evaluation s
  | .feedEvaluate => feedEvaluate_touches s
  | .feedFaulted => feedFaulted_touches s
  | .settleOver => settleOver_touches s
  | .settleFinish => settleFinish_touches s
  | .feederRelease => feederRelease_touches s
  | .feederRestart => feederRestart_touches s
  | .duct1Demand => duct1Demand_touches s
  | .fanCommands => fanCommands_touches s
  | .fanCommand d => fanCommand_touches d s
  | .pumpReported w => pumpReported_touches w s
  | .fanReported d => fanReported_touches d s
  | .fanGraceOver d => fanGraceOver_touches d s
  | .ductConditions d => ductConditions_touches d s
  | .ductSignal i => ductSignal_touches i s
  | .flame seen => flame_touches seen s
  | .exmLeavesUnconfigured => exmLeavesUnconfigured_touches s
  | .holdCause c => holdCause_touches c s
  | .phaseTold => phaseTold_touches s
  | .hldEncoder => hldEncoder_touches s
  | .reachHeld => reachHeld_touches s
  | .heldBoards => heldBoards_touches s
  | .holdLine n => holdLine_touches n s
  | .lineTold old => lineTold_touches old s
  | .drainingTest => drainingTest_touches s
  | .configuredTest => configuredTest_touches s

end Sys2Proof.Machine
end

