-- ==== Sys2Proof/Laws/Cascade.lean ====
section
/-! SUPPORT. Carrying out an event: what `settle` and `run` do with the hand-overs, the induction over them, and the hand-overs
that no arrival, expiry or cycle start is among. -/

namespace Sys2Proof.Machine

/-! ## Taking hand-overs one by one -/

@[simp] theorem settle_nil (n : Nat) (s : State) : settle n [] s = s := by cases n <;> rfl

theorem settle_cons (n : Nat) (t : Task) (ts : List Task) (s : State) :
    settle (n + 1) (t :: ts) s = settle n ((handle t s).2 ++ ts) (handle t s).1 := rfl

@[simp] theorem run_nil (s : State) : run s [] = s := settle_nil _ s

theorem run_cons (s : State) (t : Task) (ts : List Task) :
    run s (t :: ts) = settle 4294967295 ((handle t s).2 ++ ts) (handle t s).1 := settle_cons 4294967295 t ts s

/-- What every hand-over keeps, an event keeps. -/
theorem settle_keeps {P : State → Prop} {Q : Task → Prop}
    (keeps : ∀ t s, Q t → P s → P (handle t s).1)
    (emits : ∀ t s, Q t → P s → ∀ u ∈ (handle t s).2, Q u)
    (mark : ∀ s, P s → P { s with overrun := true }) :
    ∀ (n : Nat) (ts : List Task) (s : State), (∀ t ∈ ts, Q t) → P s → P (settle n ts s)
  | n, [], s, _, h => by simpa using h
  | 0, _ :: _, s, _, h => mark s h
  | n + 1, t :: ts, s, hq, h => by
    have hts : ∀ u ∈ (handle t s).2 ++ ts, Q u := by
      intro u hu
      rcases List.mem_append.mp hu with hu | hu
      · exact emits t s (hq t (List.mem_cons_self ..)) h u hu
      · exact hq u (List.mem_cons_of_mem _ hu)
    exact settle_keeps keeps emits mark n _ _ hts (keeps t s (hq t (List.mem_cons_self ..)) h)

/-- What every hand-over keeps, an event keeps, whatever hand-overs it begins with. -/
theorem run_keeps {P : State → Prop} (keeps : ∀ t s, P s → P (handle t s).1)
    (mark : ∀ s, P s → P { s with overrun := true }) (s : State) (ts : List Task) (h : P s) : P (run s ts) :=
  settle_keeps (Q := fun _ => True) (fun t s _ => keeps t s) (fun _ _ _ _ _ _ => trivial) mark _ ts s
    (fun _ _ => trivial) h

/-! ## Hand-overs that follow from other hand-overs alone -/

/-- The hand-over is no cycle start, no arrival of a cell or of a signal, no stale notice and no edge of a board sensor, and
none of the steps that only those make. -/
def quiet : Task → Bool
  | .setAutomatic _ _ | .formDelivered _ | .handDelivered _ | .directClose _ | .condition _ _ _ | .a41Btk _ | .a41Hld
  | .event _ | .activate _ _ | .deactivate _ | .restartAlarms | .restartGroup _ | .entryBlocked _ | .admission | .conveyor
  | .noMotion | .defect _ _ | .disposition _ _ | .dispositionTold _ | .flxRework _ | .flxForcing | .tleGroup _
  | .tleConditions _ | .tleRestart | .phmDecide | .phmPhase | .potEvaluate _ | .potChanged _ | .potAlarm _ | .potGroup _
  | .potLine | .potLeavesUnconfigured | .setbackTimer | .potGoverning | .pumpCommand _ | .releasePumps | .potNotReadyTest
  | .pumpDelivered _ | .pumpFault _ _ | .levelConditions _ | .feedEvaluate | .feedFaulted | .settleOver | .settleFinish
  | .feederRelease | .feederRestart | .duct1Demand | .fanCommands | .fanCommand _ | .pumpReported _ | .fanReported _
  | .fanGraceOver _ | .ductConditions _ | .ductSignal _ | .flame _ | .exmLeavesUnconfigured | .holdCause _ | .phaseTold
  | .holdLine _ | .lineTold _ | .drainingTest | .configuredTest => true
  | .closeLostCycle | .beginCycle | .blockComplete | .giveLoopLost | .giveSignalStale | .staleDucts | .refresh | .loopDown
  | .samplePosition _ _ _ _ | .encoder _ | .encoderSilent | .boardSensor _ _ | .boardSensorSilent _ | .entryLead _
  | .entryTail _ | .exitLead _ | .exitTail | .missingTest | .retire _ | .flxNewRecord _ | .flxLength _ | .flxRemoved _
  | .flxSample | .flxAccount | .flxRunEnds | .flxRunEnd _ | .flxEndingCloses | .flxTakeEdges | .flxConsume | .fluxTank
  | .loopArrival _ _ _ | .loopSilent _ _ | .phmNewRecord _ | .phmRemoved _ | .phmArm | .pyrometer _ | .pyrometerSilent
  | .potTemperature | .potNewRecord _ | .potRemoved _ | .potRecord | .potSample | .potWindows | .potContact
  | .potStatuses _ | .pumpFeedback _ _ | .pumpFeedbackSilent _ | .levelArrival _ | .levelSilent | .hldEncoder | .reachHeld
  | .heldBoards => false

theorem all_quiet_map {α : Type} (f : α → Task) (h : ∀ x, quiet (f x) = true) (l : List α) :
    (l.map f).all quiet = true := by
  rw [List.all_map]
  exact List.all_eq_true.mpr fun x _ => h x

theorem all_quiet_append {l m : List Task} (h : l.all quiet = true) (k : m.all quiet = true) :
    (l ++ m).all quiet = true := by rw [List.all_append, h, k]; rfl

theorem all_quiet_flatMap {α : Type} (f : α → List Task) (h : ∀ x, (f x).all quiet = true) (l : List α) :
    (l.flatMap f).all quiet = true := by
  rw [List.all_flatMap]
  exact List.all_eq_true.mpr fun x _ => h x

theorem deliveredReports_quiet (o : OutIx) : (deliveredReports o).all quiet = true := by
  unfold deliveredReports
  (repeat' split) <;> rfl

theorem formDelivered_quiet (o : OutIx) (s : State) : (formDelivered o s).2.all quiet = true := by
  unfold formDelivered
  dsimp only
  split
  · rfl
  · exact deliveredReports_quiet o

theorem potTold_quiet (a : AlarmIx) (set : Bool) : (potTold a set).all quiet = true := by
  unfold potTold
  split <;> rfl

theorem raiseTasks_quiet (links : BitVec 8) (a : AlarmIx) (x : AlarmState) :
    (raiseTasks links a x).all quiet = true := by
  unfold raiseTasks
  refine all_quiet_append (all_quiet_append (all_quiet_append ?_ (all_quiet_map _ (fun _ => rfl) _)) ?_) (potTold_quiet a _)
  all_goals split <;> rfl

theorem clearTasks_quiet (links : BitVec 8) (a : AlarmIx) : (clearTasks links a).all quiet = true := by
  unfold clearTasks
  refine all_quiet_append ?_ (potTold_quiet a _)
  split <;> rfl

theorem changeTasks_quiet (links : BitVec 8) (a : AlarmIx) (x y : AlarmState) :
    (changeTasks links a x y).all quiet = true := by
  unfold changeTasks
  (repeat' split) <;> first
    | exact raiseTasks_quiet links a x
    | exact clearTasks_quiet links a
    | exact potTold_quiet a _
    | rfl

theorem groupTold_quiet (g : Group) : (groupTold g).all quiet = true := by cases g <;> rfl

theorem setAutomatic_quiet (o : OutIx) (v : Nat) (s : State) : (setAutomatic o v s).2.all quiet = true := by
  exact formDelivered_quiet _ _

theorem handDelivered_quiet (o : OutIx) (s : State) : (handDelivered o s).2.all quiet = true := by
  unfold handDelivered
  dsimp only
  (repeat' split) <;> first | exact deliveredReports_quiet _ | rfl

theorem directClose_quiet (n : NozzleIx) (s : State) : (directClose n s).2.all quiet = true := by
  exact formDelivered_quiet _ _

theorem takeCondition_quiet (a : AlarmIx) (value : Bool) (evaluation : Bool) (s : State) : (takeCondition a value evaluation s).2.all quiet = true := by
  unfold takeCondition
  dsimp only
  split
  · rfl
  · exact changeTasks_quiet _ _ _ _

theorem takeA41Btk_quiet (evaluation : Bool) (s : State) : (takeA41Btk evaluation s).2.all quiet = true := by
  rfl

theorem takeA41Hld_quiet (s : State) : (takeA41Hld s).2.all quiet = true := by
  rfl

theorem takeEvent_quiet (a : AlarmIx) (s : State) : (takeEvent a s).2.all quiet = true := by
  unfold takeEvent
  dsimp only
  split
  · rfl
  · exact raiseTasks_quiet _ _ _

theorem activateGroup_quiet (g : Group) (cause : Cause) (s : State) : (activateGroup g cause s).2.all quiet = true := by
  unfold activateGroup
  dsimp only
  split
  · rfl
  · exact all_quiet_append (all_quiet_map _ (fun _ => rfl) _) (groupTold_quiet g)

theorem deactivateGroup_quiet (g : Group) (s : State) : (deactivateGroup g s).2.all quiet = true := by
  unfold deactivateGroup
  split
  · exact all_quiet_append (all_quiet_map _ (fun _ => rfl) _) (groupTold_quiet g)
  · rfl

theorem restartAlarms_quiet (s : State) : (restartAlarms s).2.all quiet = true := by
  exact all_quiet_flatMap _ (fun a => clearTasks_quiet _ a) _

theorem restartGroup_quiet (g : Group) (s : State) : (restartGroup g s).2.all quiet = true := by
  unfold restartGroup
  dsimp only
  (repeat' split) <;> rfl

theorem entryBlocked_quiet (evaluation : Bool) (s : State) : (entryBlocked evaluation s).2.all quiet = true := by
  rfl

theorem admission_quiet (s : State) : (admission s).2.all quiet = true := by
  unfold admission
  dsimp only
  (repeat' split) <;> rfl

theorem conveyor_quiet (s : State) : (conveyor s).2.all quiet = true := by
  rfl

theorem noMotion_quiet (s : State) : (noMotion s).2.all quiet = true := by
  unfold noMotion
  dsimp only
  (repeat' split) <;> rfl

theorem writeDefect_quiet (n : BoardNo) (d : Defect) (s : State) : (writeDefect n d s).2.all quiet = true := by
  unfold writeDefect
  (repeat' split) <;> rfl

theorem writeDisposition_quiet (n : BoardNo) (d : Disposition) (s : State) : (writeDisposition n d s).2.all quiet = true := by
  unfold writeDisposition
  (repeat' split) <;> rfl

theorem dispositionTold_quiet (n : BoardNo) (s : State) : (dispositionTold n s).2.all quiet = true := by
  unfold dispositionTold
  refine all_quiet_append ?_ rfl
  (repeat' split) <;> rfl

theorem flxRework_quiet (n : BoardNo) (s : State) : (flxRework n s).2.all quiet = true := by
  unfold flxRework
  dsimp only
  (repeat' split) <;> rfl

theorem flxForcing_quiet (s : State) : (flxForcing s).2.all quiet = true := by
  unfold flxForcing beginForcing
  dsimp only
  split
  · exact all_quiet_append (all_quiet_map _ (fun _ => rfl) _) (all_quiet_map _ (fun _ => rfl) _)
  · rfl

theorem tleGroup_quiet (g : Group) (s : State) : (tleGroup g s).2.all quiet = true := by
  unfold tleGroup
  split
  · exact all_quiet_map _ (fun _ => rfl) _
  · rfl

theorem tleConditions_quiet (l : LoopIx) (s : State) : (tleConditions l s).2.all quiet = true := by
  rfl

theorem tleRestart_quiet (s : State) : (tleRestart s).2.all quiet = true := by
  exact all_quiet_map _ (fun _ => rfl) _

theorem phmDecide_quiet (s : State) : (phmDecide s).2.all quiet = true := by
  rfl

theorem phmPhase_quiet (s : State) : (phmPhase s).2.all quiet = true := by
  rfl

theorem potEvaluate_quiet (why : PotEvent) (s : State) : (potEvaluate why s).2.all quiet = true := by
  unfold potEvaluate potActs
  dsimp only
  (repeat' split) <;> rfl

theorem potChanged_quiet (old : PotState) (s : State) : (potChanged old s).2.all quiet = true := by
  unfold potChanged
  dsimp only
  refine all_quiet_append (all_quiet_append rfl ?_) rfl
  split <;> rfl

theorem potAlarm_quiet (set : Bool) (s : State) : (potAlarm set s).2.all quiet = true := by
  unfold potAlarm potActs
  dsimp only
  (repeat' split) <;> rfl

theorem potGroup_quiet (g : Group) (s : State) : (potGroup g s).2.all quiet = true := by
  unfold potGroup potActs
  dsimp only
  (repeat' split) <;> rfl

theorem potLine_quiet (s : State) : (potLine s).2.all quiet = true := by
  unfold potLine potActs
  (repeat' split) <;> rfl

theorem potLeavesUnconfigured_quiet (s : State) : (potLeavesUnconfigured s).2.all quiet = true := by
  rfl

theorem setbackTimer_quiet (s : State) : (setbackTimer s).2.all quiet = true := by
  unfold setbackTimer potActs
  dsimp only
  (repeat' split) <;> rfl

theorem potGoverning_quiet (s : State) : (potGoverning s).2.all quiet = true := by
  unfold potGoverning potActs
  (repeat' split) <;> rfl

theorem pumpCommand_quiet (w : Wave) (s : State) : (pumpCommand w s).2.all quiet = true := by
  unfold pumpCommand potActs
  (repeat' split) <;> rfl

theorem releasePumps_quiet (s : State) : (releasePumps s).2.all quiet = true := by
  rfl

theorem potNotReadyTest_quiet (s : State) : (potNotReadyTest s).2.all quiet = true := by
  unfold potNotReadyTest
  dsimp only
  (repeat' split) <;> rfl

theorem pumpDelivered_quiet (w : Wave) (s : State) : (pumpDelivered w s).2.all quiet = true := by
  unfold pumpDelivered potActs
  dsimp only
  (repeat' split) <;> rfl

theorem pumpFault_quiet (w : Wave) (evaluation : Bool) (s : State) : (pumpFault w evaluation s).2.all quiet = true := by
  rfl

theorem levelConditions_quiet (evaluation : Bool) (s : State) : (levelConditions evaluation s).2.all quiet = true := by
  rfl

theorem feedEvaluate_quiet (s : State) : (feedEvaluate s).2.all quiet = true := by
  unfold feedEvaluate
  dsimp only
  rfl

theorem feedFaulted_quiet (s : State) : (feedFaulted s).2.all quiet = true := by
  rfl

theorem settleOver_quiet (s : State) : (settleOver s).2.all quiet = true := by
  unfold settleOver
  split
  · refine all_quiet_append ?_ rfl
    split <;> rfl
  · rfl

theorem settleFinish_quiet (s : State) : (settleFinish s).2.all quiet = true := by
  unfold settleFinish
  dsimp only
  (repeat' split) <;> rfl

theorem feederRelease_quiet (s : State) : (feederRelease s).2.all quiet = true := by
  unfold feederRelease potActs
  dsimp only
  (repeat' split) <;> rfl

theorem feederRestart_quiet (s : State) : (feederRestart s).2.all quiet = true := by
  unfold feederRestart
  dsimp only
  (repeat' split) <;> rfl

theorem duct1Demand_quiet (s : State) : (duct1Demand s).2.all quiet = true := by
  rfl

theorem fanCommands_quiet (s : State) : (fanCommands s).2.all quiet = true := by
  rfl

theorem fanCommand_quiet (d : Duct) (s : State) : (fanCommand d s).2.all quiet = true := by
  unfold fanCommand
  dsimp only
  (repeat' split) <;> rfl

theorem pumpReported_quiet (w : Wave) (s : State) : (pumpReported w s).2.all quiet = true := by
  unfold pumpReported
  dsimp only
  rfl

theorem fanReported_quiet (d : Duct) (s : State) : (fanReported d s).2.all quiet = true := by
  unfold fanReported
  dsimp only
  split <;> rfl

theorem fanGraceOver_quiet (d : Duct) (s : State) : (fanGraceOver d s).2.all quiet = true := by
  unfold fanGraceOver
  dsimp only
  (repeat' split) <;> rfl

theorem ductConditions_quiet (d : Duct) (s : State) : (ductConditions d s).2.all quiet = true := by
  rfl

theorem ductSignal_quiet (i : SigIx) (s : State) : (ductSignal i s).2.all quiet = true := by
  unfold ductSignal giveDuctCondition
  dsimp only
  (repeat' split) <;> rfl

theorem flame_quiet (seen : Bool) (s : State) : (flame seen s).2.all quiet = true := by
  rfl

theorem exmLeavesUnconfigured_quiet (s : State) : (exmLeavesUnconfigured s).2.all quiet = true := by
  rfl

theorem holdCause_quiet (c : Cause) (s : State) : (holdCause c s).2.all quiet = true := by
  unfold holdCause newEpisode
  (repeat' split) <;> first | rfl | exact all_quiet_append (all_quiet_map _ (fun _ => rfl) _) rfl

theorem phaseTold_quiet (s : State) : (phaseTold s).2.all quiet = true := by
  unfold phaseTold
  refine all_quiet_append rfl ?_
  split <;> rfl

theorem holdLine_quiet (n : BoardNo) (s : State) : (holdLine n s).2.all quiet = true := by
  unfold holdLine
  dsimp only
  (repeat' split) <;> rfl

theorem lineTold_quiet (old : LineState) (s : State) : (lineTold old s).2.all quiet = true := by
  unfold lineTold
  refine all_quiet_append (all_quiet_append (all_quiet_append rfl ?_) rfl) ?_
  all_goals split <;> rfl

theorem drainingTest_quiet (s : State) : (drainingTest s).2.all quiet = true := by
  unfold drainingTest
  (repeat' split) <;> rfl

theorem configuredTest_quiet (s : State) : (configuredTest s).2.all quiet = true := by
  unfold configuredTest
  (repeat' split) <;> rfl

/-- A hand-over that follows from other hand-overs alone makes only such hand-overs. -/
theorem handle_quiet (t : Task) (s : State) (h : quiet t = true) : (handle t s).2.all quiet = true := by
  cases t
  case setAutomatic o v => exact setAutomatic_quiet o v s
  case formDelivered o => exact formDelivered_quiet o s
  case handDelivered o => exact handDelivered_quiet o s
  case directClose n => exact directClose_quiet n s
  case condition a value evaluation => exact takeCondition_quiet a value evaluation s
  case a41Btk evaluation => exact takeA41Btk_quiet evaluation s
  case a41Hld => exact takeA41Hld_quiet s
  case event a => exact takeEvent_quiet a s
  case activate g cause => exact activateGroup_quiet g cause s
  case deactivate g => exact deactivateGroup_quiet g s
  case restartAlarms => exact restartAlarms_quiet s
  case restartGroup g => exact restartGroup_quiet g s
  case entryBlocked evaluation => exact entryBlocked_quiet evaluation s
  case admission => exact admission_quiet s
  case conveyor => exact conveyor_quiet s
  case noMotion => exact noMotion_quiet s
  case defect n d => exact writeDefect_quiet n d s
  case disposition n d => exact writeDisposition_quiet n d s
  case dispositionTold n => exact dispositionTold_quiet n s
  case flxRework n => exact flxRework_quiet n s
  case flxForcing => exact flxForcing_quiet s
  case tleGroup g => exact tleGroup_quiet g s
  case tleConditions l => exact tleConditions_quiet l s
  case tleRestart => exact tleRestart_quiet s
  case phmDecide => exact phmDecide_quiet s
  case phmPhase => exact phmPhase_quiet s
  case potEvaluate why => exact potEvaluate_quiet why s
  case potChanged old => exact potChanged_quiet old s
  case potAlarm set => exact potAlarm_quiet set s
  case potGroup g => exact potGroup_quiet g s
  case potLine => exact potLine_quiet s
  case potLeavesUnconfigured => exact potLeavesUnconfigured_quiet s
  case setbackTimer => exact setbackTimer_quiet s
  case potGoverning => exact potGoverning_quiet s
  case pumpCommand w => exact pumpCommand_quiet w s
  case releasePumps => exact releasePumps_quiet s
  case potNotReadyTest => exact potNotReadyTest_quiet s
  case pumpDelivered w => exact pumpDelivered_quiet w s
  case pumpFault w evaluation => exact pumpFault_quiet w evaluation s
  case levelConditions evaluation => exact levelConditions_quiet evaluation s
  case feedEvaluate => exact feedEvaluate_quiet s
  case feedFaulted => exact feedFaulted_quiet s
  case settleOver => exact settleOver_quiet s
  case settleFinish => exact settleFinish_quiet s
  case feederRelease => exact feederRelease_quiet s
  case feederRestart => exact feederRestart_quiet s
  case duct1Demand => exact duct1Demand_quiet s
  case fanCommands => exact fanCommands_quiet s
  case fanCommand d => exact fanCommand_quiet d s
  case pumpReported w => exact pumpReported_quiet w s
  case fanReported d => exact fanReported_quiet d s
  case fanGraceOver d => exact fanGraceOver_quiet d s
  case ductConditions d => exact ductConditions_quiet d s
  case ductSignal i => exact ductSignal_quiet i s
  case flame seen => exact flame_quiet seen s
  case exmLeavesUnconfigured => exact exmLeavesUnconfigured_quiet s
  case holdCause c => exact holdCause_quiet c s
  case phaseTold => exact phaseTold_quiet s
  case holdLine n => exact holdLine_quiet n s
  case lineTold old => exact lineTold_quiet old s
  case drainingTest => exact drainingTest_quiet s
  case configuredTest => exact configuredTest_quiet s
  all_goals cases h

end Sys2Proof.Machine
end

