-- ==== Sys2Proof/Laws/Quiet.lean ====
section
/-! SUPPORT. What hand-overs that follow from other hand-overs alone leave undisturbed. -/

namespace Sys2Proof.Machine

/-! ## The relation -/

theorem Undisturbed.refl (s : State) : Undisturbed s s := by simp [Undisturbed]

theorem Undisturbed.trans {s t u : State} (h : Undisturbed s t) (k : Undisturbed t u) : Undisturbed s u := by
  unfold Undisturbed at *
  obtain ⟨h1, h2, h3, h4, h5, h6, h7, h8, h9, h10, h11, h12, h13, h14⟩ := h
  obtain ⟨k1, k2, k3, k4, k5, k6, k7, k8, k9, k10, k11, k12, k13, k14⟩ := k
  refine ⟨k1.trans h1, k2.trans h2, k3.trans h3, ?_, ?_, ?_, k7.trans h7, k8.trans h8, k9.trans h9, k10.trans h10,
    k11.trans h11, k12.trans h12, k13.trans h13, k14.trans h14⟩
  · rw [k4, h4]
  · rw [k5, h5]
  · rw [k6, h6]

/-- The blocks that an undisturbed state may differ in freely. -/
def freeBlocks : List Block := [.out, .tle, .exm, .acu, .hld, .overrun]

/-- Being among them can be evaluated. -/
theorem subset_of_all (bs : List Block) (h : (bs.all fun b => freeBlocks.contains b) = true) : ∀ b ∈ bs, b ∈ freeBlocks :=
  fun b hb => by simpa using List.all_eq_true.mp h b hb

theorem Touches.undisturbed {s t : State} (h : Touches freeBlocks s t) : Undisturbed s t := by
  have h1 := h.same .sig (by decide)
  have h2 := h.same .tbs (by decide)
  have h3 := h.same .pending (by decide)
  have h4 := h.same .lif (by decide)
  have h5 := h.same .mru (by decide)
  have h6 := h.same .btk (by decide)
  have h7 := h.same .pot (by decide)
  have h8 := h.same .phm (by decide)
  have h9 := h.same .flx (by decide)
  simp only [sameBlock] at *
  simp [Undisturbed, *]

/-! ## LIF -/

/-- LIF changes in its command stores alone. -/
def StoresOnly (l m : Lif) : Prop :=
  m = { l with commandQueue := m.commandQueue, carryList := m.carryList, deferredSet := m.deferredSet }

theorem takeCommand_stores (c : CommandCell) (l : Lif) : StoresOnly l (takeCommand c l) := by
  unfold takeCommand StoresOnly
  (repeat' split) <;> rfl

theorem withdraw_stores (o : OutIx) (l : Lif) : StoresOnly l (withdraw o l) := rfl

theorem handCommand_stores (o : OutIx) (s : State) : StoresOnly s.lif (handCommand o s).lif := by
  unfold handCommand
  split
  · exact takeCommand_stores ..
  · rfl

theorem StoresOnly.trans {l m n : Lif} (h : StoresOnly l m) (k : StoresOnly m n) : StoresOnly l n := by
  unfold StoresOnly at *
  rw [k, h]

theorem formPure_stores (o : OutIx) (s : State) : StoresOnly s.lif (formPure o s).lif := by
  unfold formPure
  dsimp only
  split
  · rfl
  · split
    · exact (withdraw_stores o s.lif).trans (handCommand_stores ..)
    · exact handCommand_stores ..

theorem handOperation_stores (op : FeederOperation) (s : State) : StoresOnly s.lif (handOperation op s).lif := by
  unfold handOperation
  dsimp only
  split
  · exact takeCommand_stores ..
  · rfl

/-- LIF's command stores and OUT change at most. -/
theorem undisturbed_of_stores {s t : State} (h : Touches [.lif, .out] s t) (k : StoresOnly s.lif t.lif) :
    Undisturbed s t := by
  have h1 := h.same .sig (by decide)
  have h2 := h.same .tbs (by decide)
  have h3 := h.same .pending (by decide)
  have h5 := h.same .mru (by decide)
  have h6 := h.same .btk (by decide)
  have h7 := h.same .pot (by decide)
  have h8 := h.same .phm (by decide)
  have h9 := h.same .flx (by decide)
  simp only [sameBlock] at *
  refine ⟨h1, h2, h3, ?_, by simp [h5], by simp [h6], by simp [h6], by simp [h7], by simp [h7], by simp [h7], by simp [h8],
    by simp [h9], by simp [h9], by simp [h9]⟩
  rw [k]

/-! ## BTK -/

theorem mapBoard_identity (s : State) (n : BoardNo) (f : Board → Board) (h : ∀ b, identity (f b) = identity b) :
    (mapBoard s n f).btk.train.map identity = s.btk.train.map identity := by
  simp only [mapBoard_btk_train, List.map_map]
  refine List.map_congr_left fun b _ => ?_
  simp only [Function.comp]
  split
  · exact h b
  · rfl

/-- A change of a record that keeps its identity. -/
theorem mapBoard_undisturbed (s : State) (n : BoardNo) (f : Board → Board) (h : ∀ b, identity (f b) = identity b) :
    Undisturbed s (mapBoard s n f) :=
  ⟨rfl, rfl, rfl, rfl, rfl, rfl, mapBoard_identity s n f h, rfl, rfl, rfl, rfl, rfl, rfl, rfl⟩

theorem newEpisode_identity (c : Cause) (s : State) :
    (newEpisode c s).1.btk.train.map identity = s.btk.train.map identity := by
  simp only [newEpisode, List.map_map]
  refine List.map_congr_left fun b _ => ?_
  simp only [Function.comp, capturedBoard]
  split <;> rfl

/-! ## The hand-overs -/

theorem noMotion_undisturbed (s : State) : Undisturbed s (noMotion s).1 := by
  unfold noMotion
  (repeat' split) <;> exact ⟨rfl, rfl, rfl, rfl, rfl, rfl, rfl, rfl, rfl, rfl, rfl, rfl, rfl, rfl⟩

theorem writeDefect_undisturbed (n : BoardNo) (d : Defect) (s : State) : Undisturbed s (writeDefect n d s).1 := by
  unfold writeDefect
  split
  · exact .refl s
  · exact mapBoard_undisturbed s n _ fun _ => rfl

theorem writeDisposition_undisturbed (n : BoardNo) (d : Disposition) (s : State) :
    Undisturbed s (writeDisposition n d s).1 := by
  unfold writeDisposition
  split
  · exact .refl s
  · exact mapBoard_undisturbed s n _ fun _ => rfl

theorem flxRework_undisturbed (n : BoardNo) (s : State) : Undisturbed s (flxRework n s).1 := by
  unfold flxRework writeFlux
  dsimp only
  have h (x : FluxStatus) (u : State) (hu : u.btk = s.btk) (hs : Undisturbed s u) :
      Undisturbed s (mapBoard u n fun b => { b with flux := x }) :=
    hs.trans (mapBoard_undisturbed u n _ fun _ => rfl)
  split
  · exact h _ _ rfl ⟨rfl, rfl, rfl, rfl, rfl, rfl, rfl, rfl, rfl, rfl, rfl, rfl, rfl, rfl⟩
  · exact h _ _ rfl ⟨rfl, rfl, rfl, rfl, rfl, rfl, rfl, rfl, rfl, rfl, rfl, rfl, rfl, rfl⟩
  all_goals exact .refl s

theorem flxForcing_undisturbed (s : State) : Undisturbed s (flxForcing s).1 := by
  unfold flxForcing
  dsimp only
  split <;> exact ⟨rfl, rfl, rfl, rfl, rfl, rfl, rfl, rfl, rfl, rfl, rfl, rfl, rfl, rfl⟩

theorem holdCause_undisturbed (c : Cause) (s : State) : Undisturbed s (holdCause c s).1 := by
  unfold holdCause
  split
  · split
    all_goals first
      | exact ⟨rfl, rfl, rfl, rfl, rfl, rfl, newEpisode_identity c s, rfl, rfl, rfl, rfl, rfl, rfl, rfl⟩
      | exact ⟨rfl, rfl, rfl, rfl, rfl, rfl, rfl, rfl, rfl, rfl, rfl, rfl, rfl, rfl⟩
  · exact .refl s

theorem governWave_undisturbed (w : Wave) (s : State) : Undisturbed s (governWave w s) := by
  unfold governWave
  dsimp only
  cases w <;> split <;> exact ⟨rfl, rfl, rfl, rfl, rfl, rfl, rfl, rfl, rfl, rfl, rfl, rfl, rfl, rfl⟩

theorem setPump_undisturbed (s : State) (w : Wave) (x : Pump) : Undisturbed s (setPump s w x) := by
  cases w <;> exact ⟨rfl, rfl, rfl, rfl, rfl, rfl, rfl, rfl, rfl, rfl, rfl, rfl, rfl, rfl⟩

theorem setFeeder_undisturbed (s : State) (f : Feeder) : Undisturbed s (setFeeder s f) :=
  ⟨rfl, rfl, rfl, rfl, rfl, rfl, rfl, rfl, rfl, rfl, rfl, rfl, rfl, rfl⟩

theorem handOperation_undisturbed (op : FeederOperation) (s : State) : Undisturbed s (handOperation op s) :=
  undisturbed_of_stores ((handOperation_touches op s).mono (by decide)) (handOperation_stores op s)

theorem handLastOperation_undisturbed (s : State) : Undisturbed s (handLastOperation s) := by
  unfold handLastOperation
  split
  · exact handOperation_undisturbed ..
  · exact .refl s

theorem handOperation_feeder_undisturbed (op : FeederOperation) (f : Feeder) (s : State) :
    Undisturbed s { handOperation op s with pot := { s.pot with feeder := f } } := by
  have hp := (handOperation_touches op s).same .pot (by decide)
  simp only [sameBlock] at hp
  rw [← hp]
  exact (handOperation_undisturbed op s).trans (setFeeder_undisturbed _ f)

theorem formPure_undisturbed (o : OutIx) (s : State) : Undisturbed s (formPure o s) :=
  undisturbed_of_stores (formPure_touches o s) (formPure_stores o s)

theorem setOutputRecord_undisturbed (s : State) (o : OutIx) (r : OutputRecord) : Undisturbed s (setOutputRecord s o r) :=
  ⟨rfl, rfl, rfl, rfl, rfl, rfl, rfl, rfl, rfl, rfl, rfl, rfl, rfl, rfl⟩

theorem startFeed_undisturbed (s : State) : Undisturbed s (startFeed s) :=
  (setFeeder_undisturbed s _).trans (handOperation_undisturbed _ _)

/-- A hand-over that follows from other hand-overs alone leaves the rest undisturbed. -/
theorem handle_undisturbed (t : Task) (s : State) (h : quiet t = true) : Undisturbed s (handle t s).1 := by
  have all := handle_touches t s
  cases t
  case setAutomatic o v => exact (setOutputRecord_undisturbed s o _).trans (formPure_undisturbed o _)
  case formDelivered o => exact formPure_undisturbed o s
  case handDelivered o =>
    simp only [handle, handDelivered]
    (repeat' split) <;> first
      | exact handLastOperation_undisturbed s
      | exact formPure_undisturbed o s
      | exact (formPure_undisturbed o s).trans
          (undisturbed_of_stores ((handCommand_touches o _).mono (by decide)) (handCommand_stores o _))
  case directClose n =>
    refine Undisturbed.trans (t := { s with lif := withdraw (valveOutput n) s.lif }) ?_
      ((setOutputRecord_undisturbed _ _ _).trans (formPure_undisturbed _ _))
    exact ⟨rfl, rfl, rfl, rfl, rfl, rfl, rfl, rfl, rfl, rfl, rfl, rfl, rfl, rfl⟩
  case admission => exact ⟨rfl, rfl, rfl, rfl, rfl, rfl, rfl, rfl, rfl, rfl, rfl, rfl, rfl, rfl⟩
  case noMotion => exact noMotion_undisturbed s
  case defect n d => exact writeDefect_undisturbed n d s
  case disposition n d => exact writeDisposition_undisturbed n d s
  case flxRework n => exact flxRework_undisturbed n s
  case flxForcing => exact flxForcing_undisturbed s
  case phmDecide => exact ⟨rfl, rfl, rfl, rfl, rfl, rfl, rfl, rfl, rfl, rfl, rfl, rfl, rfl, rfl⟩
  case phmPhase => exact ⟨rfl, rfl, rfl, rfl, rfl, rfl, rfl, rfl, rfl, rfl, rfl, rfl, rfl, rfl⟩
  case potEvaluate why =>
    simp only [handle, potEvaluate, potActs]
    (repeat' split) <;> exact ⟨rfl, rfl, rfl, rfl, rfl, rfl, rfl, rfl, rfl, rfl, rfl, rfl, rfl, rfl⟩
  case potAlarm set =>
    simp only [handle, potAlarm, potActs]
    (repeat' split) <;> exact ⟨rfl, rfl, rfl, rfl, rfl, rfl, rfl, rfl, rfl, rfl, rfl, rfl, rfl, rfl⟩
  case potGroup g =>
    simp only [handle, potGroup, potActs]
    (repeat' split) <;> first
      | exact ⟨rfl, rfl, rfl, rfl, rfl, rfl, rfl, rfl, rfl, rfl, rfl, rfl, rfl, rfl⟩
      | exact handOperation_feeder_undisturbed _ _ s
  case potLeavesUnconfigured => exact ⟨rfl, rfl, rfl, rfl, rfl, rfl, rfl, rfl, rfl, rfl, rfl, rfl, rfl, rfl⟩
  case setbackTimer =>
    simp only [handle, setbackTimer, potActs]
    (repeat' split) <;> exact ⟨rfl, rfl, rfl, rfl, rfl, rfl, rfl, rfl, rfl, rfl, rfl, rfl, rfl, rfl⟩
  case potGoverning =>
    simp only [handle, potGoverning, potActs]
    split
    · exact .refl s
    · exact (governWave_undisturbed .chip s).trans (governWave_undisturbed .laminar _)
  case pumpDelivered w =>
    simp only [handle, pumpDelivered, potActs]
    split
    · exact .refl s
    · exact setPump_undisturbed ..
  case pumpFault w e => exact setPump_undisturbed ..
  case feedEvaluate =>
    simp only [handle, feedEvaluate]
    split
    · exact startFeed_undisturbed s
    · exact .refl s
  case feedFaulted => exact setFeeder_undisturbed ..
  case settleOver =>
    simp only [handle, settleOver]
    split
    · exact setFeeder_undisturbed ..
    · exact .refl s
  case settleFinish =>
    simp only [handle, settleFinish]
    split <;> exact ⟨rfl, rfl, rfl, rfl, rfl, rfl, rfl, rfl, rfl, rfl, rfl, rfl, rfl, rfl⟩
  case feederRelease =>
    simp only [handle, feederRelease, potActs]
    (repeat' split) <;> exact ⟨rfl, rfl, rfl, rfl, rfl, rfl, rfl, rfl, rfl, rfl, rfl, rfl, rfl, rfl⟩
  case feederRestart =>
    simp only [handle, feederRestart]
    split <;> first
      | exact ⟨rfl, rfl, rfl, rfl, rfl, rfl, rfl, rfl, rfl, rfl, rfl, rfl, rfl, rfl⟩
      | exact (handOperation_undisturbed _ s).trans (setFeeder_undisturbed _ _)
  case holdCause c => exact holdCause_undisturbed c s
  case drainingTest =>
    simp only [handle, drainingTest]
    split <;> exact ⟨rfl, rfl, rfl, rfl, rfl, rfl, rfl, rfl, rfl, rfl, rfl, rfl, rfl, rfl⟩
  case configuredTest =>
    simp only [handle, configuredTest]
    split <;> exact ⟨rfl, rfl, rfl, rfl, rfl, rfl, rfl, rfl, rfl, rfl, rfl, rfl, rfl, rfl⟩
  all_goals first
    | exact Touches.undisturbed (all.mono (by intro b hb; revert b; exact subset_of_all _ rfl))
    | exact nomatch h

/-- What every such hand-over keeps, an event of such hand-overs keeps. -/
theorem run_quiet {P : State → Prop} (keeps : ∀ t s, quiet t = true → P s → P (handle t s).1)
    (mark : ∀ s, P s → P { s with overrun := true }) (s : State) (ts : List Task) (hq : ts.all quiet = true) (h : P s) :
    P (run s ts) :=
  settle_keeps (Q := fun t => quiet t = true) keeps
    (fun t s hq _ => List.all_eq_true.mp (handle_quiet t s hq)) mark _ ts s (List.all_eq_true.mp hq) h

/-- The consequences of a hand-over leave the rest undisturbed. -/
theorem run_undisturbed (s : State) (ts : List Task) (hq : ts.all quiet = true) : Undisturbed s (run s ts) :=
  run_quiet (P := Undisturbed s) (fun t u ht h => h.trans (handle_undisturbed t u ht))
    (fun u h => h.trans (Touches.undisturbed ⟨fun b hb => by cases b <;> first | exact absurd (by decide) hb | rfl⟩))
    s ts hq (.refl s)

end Sys2Proof.Machine
end

