-- ==== Sys2Proof/Laws/Operations.lean ====
section
/-! SUPPORT. What the shared operations can do: a REQUEST from the tests to the reply, events whose hand-overs come in two parts, the
arithmetic of 00_scope.md 4, field maps, banks and staging buffers. -/

namespace Sys2Proof.Machine

/-! ## Requests (R4, R11, R30) -/

theorem answer_refuse (r : ReqCell) (status : ReplyStatus) (s : State) :
    answer r (refuse status s) = pushReply r.src r.tag status noData s := by simp [answer, refuse]

theorem answer_taken (r : ReqCell) (data : State → List Byte) (s : State) :
    answer r (taken data s) = pushReply r.src r.tag .ok (data s) s := by simp [answer, taken]

/-- A request that is accepted is decided by its owner's rule. -/
theorem serve_accepted {code : Word16} {r : ReqCell} {s : State} (d : ReqCell → State → Decision) (h : accepted code r s) :
    serve code r d s = answer r (d r s) := by
  obtain ⟨hv, hroom, hlo, hhi, hsend⟩ := h
  have h0 : ¬(code = 0 ∨ 23 < code.toNat) := by
    rintro (rfl | h)
    · exact absurd hlo (by decide)
    · omega
  have h1 : ¬messageRoom ≤ s.lif.messageQueue.length := by omega
  simp only [serve, hv, ↓reduceIte, if_neg h1, decideRequest, if_neg h0, hsend]

/-- R30, row 1. -/
theorem serve_unknown {code : Word16} {r : ReqCell} {s : State} (d : ReqCell → State → Decision)
    (hv : verdict s.lif.openCycle (requestRaw code r) = .toMru) (hroom : s.lif.messageQueue.length < messageRoom)
    (hc : code = 0 ∨ 23 < code.toNat) : serve code r d s = pushReply r.src r.tag .unknownRequest noData s := by
  have h1 : ¬messageRoom ≤ s.lif.messageQueue.length := by omega
  simp only [serve, hv, ↓reduceIte, if_neg h1, decideRequest, if_pos hc, answer_refuse]

/-- R30, row 2, and R31. -/
theorem serve_notPermitted {code : Word16} {r : ReqCell} {s : State} (d : ReqCell → State → Decision)
    (hv : verdict s.lif.openCycle (requestRaw code r) = .toMru) (hroom : s.lif.messageQueue.length < messageRoom)
    (hc : ¬(code = 0 ∨ 23 < code.toNat)) (hs : maySend (sourceOf s r.src) code = false) :
    serve code r d s = pushReply r.src r.tag .notPermitted noData s := by
  have h1 : ¬messageRoom ≤ s.lif.messageQueue.length := by omega
  simp only [serve, hv, ↓reduceIte, if_neg h1, decideRequest, if_neg hc, hs, Bool.false_eq_true, answer_refuse]

/-- R11: with no free place in the message queue. -/
theorem serve_full {code : Word16} {r : ReqCell} {s : State} (d : ReqCell → State → Decision)
    (hv : verdict s.lif.openCycle (requestRaw code r) = .toMru) (hfull : messageRoom ≤ s.lif.messageQueue.length) :
    serve code r d s = countDropped s := by
  simp only [serve, hv, ↓reduceIte, if_pos hfull]

/-- R4: a REQUEST cell that its tests discard. -/
theorem serve_discarded {code : Word16} {r : ReqCell} {s : State} (d : ReqCell → State → Decision)
    (hv : verdict s.lif.openCycle (requestRaw code r) ≠ .toMru) :
    serve code r d s = countDiscard (verdict s.lif.openCycle (requestRaw code r)) s := by
  simp only [serve, if_neg hv]

/-- An answer leaves undisturbed what its hand-overs and its own effect leave, but for the reply itself. -/
theorem answer_undisturbed (r : ReqCell) (d : Decision) (s : State) (h : Undisturbed s d.state) (hq : d.tasks.all quiet = true) :
    ∃ t, answer r d = pushReply r.src r.tag d.status (d.data t) t ∧ Undisturbed s t :=
  ⟨run d.state d.tasks, rfl, h.trans (run_undisturbed _ _ hq)⟩

/-! ## Events in two parts -/

/-- Of hand-overs in two parts, the first is carried out, with all that follows from it, before the second; or the event is given
up within the first part. `P` is kept by every hand-over that `Q` holds of, and those make only such hand-overs. -/
theorem settle_append {P : State → Prop} {Q : Task → Prop} (keeps : ∀ t s, Q t → P s → P (handle t s).1)
    (emits : ∀ t s, Q t → P s → ∀ u ∈ (handle t s).2, Q u) :
    ∀ (n : Nat) (a b : List Task) (s : State), (∀ t ∈ a, Q t) → P s →
      (∃ m u, m ≤ n ∧ P u ∧ settle n (a ++ b) s = settle m b u) ∨ ∃ u, P u ∧ settle n (a ++ b) s = { u with overrun := true }
  | n, [], b, s, _, h => .inl ⟨n, s, le_refl n, h, rfl⟩
  | 0, _ :: _, _, s, _, h => .inr ⟨s, h, rfl⟩
  | n + 1, t :: a, b, s, hq, h => by
    have hts : ∀ u ∈ (handle t s).2 ++ a, Q u := by
      intro u hu
      rcases List.mem_append.mp hu with hu | hu
      · exact emits t s (hq t (List.mem_cons_self ..)) h u hu
      · exact hq u (List.mem_cons_of_mem _ hu)
    have step : settle (n + 1) ((t :: a) ++ b) s = settle n (((handle t s).2 ++ a) ++ b) (handle t s).1 := by
      rw [List.cons_append, settle_cons, List.append_assoc]
    rcases settle_append keeps emits n _ b _ hts (keeps t s (hq t (List.mem_cons_self ..)) h) with ⟨m, u, hm, hu, e⟩ | ⟨u, hu, e⟩
    · exact .inl ⟨m, u, Nat.le_succ_of_le hm, hu, step.trans e⟩
    · exact .inr ⟨u, hu, step.trans e⟩

/-- The mark and the queue of waiting commands are in no hand-over's list. -/
theorem not_touched (t : Task) : Block.overrun ∉ touched t ∧ Block.pending ∉ touched t := by
  have h : (touched t).contains .overrun = false ∧ (touched t).contains .pending = false := by cases t <;> exact ⟨rfl, rfl⟩
  exact ⟨fun k => by simp [k] at h, fun k => by simp [k] at h⟩

/-- No hand-over clears the mark of an event that was given up, nor sets it. -/
theorem handle_overrun (t : Task) (s : State) : (handle t s).1.overrun = s.overrun :=
  (handle_touches t s).same .overrun (not_touched t).1

/-- No hand-over changes the queue of waiting commands. -/
theorem handle_pending (t : Task) (s : State) : (handle t s).1.pending = s.pending :=
  (handle_touches t s).same .pending (not_touched t).2

/-- The mark stays once it is set. -/
theorem run_overrun (s : State) (ts : List Task) (h : s.overrun = true) : (run s ts).overrun = true :=
  run_keeps (P := fun u => u.overrun = true) (fun t u hu => (handle_overrun t u).trans hu) (fun _ _ => rfl) s ts h

/-- No event changes the queue of waiting commands. -/
theorem run_pending (s : State) (ts : List Task) : (run s ts).pending = s.pending :=
  run_keeps (P := fun u => u.pending = s.pending) (fun t u hu => (handle_pending t u).trans hu) (fun _ h => h) s ts rfl

/-! ## Arithmetic (00_scope.md 4) -/

theorem clamp_bounds {lo hi : Int} (x : Int) (h : lo ≤ hi) : lo ≤ clamp lo hi x ∧ clamp lo hi x ≤ hi := by
  unfold clamp
  split
  · omega
  · split <;> omega

theorem clamp_eq {lo hi : Int} (x : Int) (h : lo ≤ hi) : clamp lo hi x = max lo (min hi x) := by
  unfold clamp
  split
  · omega
  · split <;> omega

theorem clamp_of_mem {lo hi x : Int} (h : lo ≤ x) (k : x ≤ hi) : clamp lo hi x = x := by
  unfold clamp
  split
  · omega
  · split <;> omega

theorem satAdd_le (top n k : Nat) : satAdd top n k ≤ top := Nat.min_le_left ..

/-! ## Field maps (R46) -/

theorem lookupField_putField_same (m : FieldMap) (item field : Nat) (v : Int) :
    lookupField (putField m item field v) item field = some v := by
  induction m with
  | nil => simp [putField, lookupField]
  | cons e m ih =>
    obtain ⟨i, f, w⟩ := e
    simp only [putField]
    split
    · simp [lookupField]
    · split
      · simp [lookupField]
      · next h _ => simpa [lookupField, h] using ih

theorem lookupField_putField_other (m : FieldMap) {item field i f : Nat} (v : Int) (h : ¬(item = i ∧ field = f)) :
    lookupField (putField m item field v) i f = lookupField m i f := by
  induction m with
  | nil => simp [putField, lookupField, h]
  | cons e m ih =>
    obtain ⟨a, b, w⟩ := e
    simp only [putField]
    split
    · next hab =>
      obtain ⟨rfl, rfl⟩ := hab
      simp [lookupField, h]
    · split
      · simp [lookupField, h]
      · by_cases k : a = i ∧ b = f
        · simp [lookupField, k]
        · simp only [lookupField, if_neg k, ih]

/-- A map that is in order stays in order. -/
theorem putField_sorted (m : FieldMap) (item field : Nat) (v : Int) (h : SortedFields m) : SortedFields (putField m item field v) := by
  induction m with
  | nil => simp [putField, SortedFields]
  | cons e m ih =>
    obtain ⟨i, f, w⟩ := e
    unfold SortedFields at h ih ⊢
    rw [List.pairwise_cons] at h
    simp only [putField]
    split
    · next hif =>
      obtain ⟨rfl, rfl⟩ := hif
      exact List.pairwise_cons.mpr ⟨fun x hx => h.1 x hx, h.2⟩
    · split
      · next hlt =>
        refine List.pairwise_cons.mpr ⟨fun x hx => ?_, List.pairwise_cons.mpr h⟩
        rcases List.mem_cons.mp hx with rfl | hx
        · exact hlt
        · have := h.1 x hx
          simp only at this ⊢
          omega
      · next hne hge =>
        refine List.pairwise_cons.mpr ⟨fun x hx => ?_, ih h.2⟩
        have key : ∀ l : FieldMap, x ∈ putField l item field v → x = (item, field, v) ∨ x ∈ l := by
          intro l
          induction l with
          | nil => simp [putField]
          | cons e l ihl =>
            obtain ⟨a, b, c⟩ := e
            simp only [putField]
            split
            · intro hx
              rcases List.mem_cons.mp hx with rfl | hx
              · exact .inl rfl
              · exact .inr (List.mem_cons_of_mem _ hx)
            · split
              · intro hx
                rcases List.mem_cons.mp hx with rfl | hx
                · exact .inl rfl
                · exact .inr hx
              · intro hx
                rcases List.mem_cons.mp hx with rfl | hx
                · exact .inr (List.mem_cons_self ..)
                · rcases ihl hx with rfl | hx
                  · exact .inl rfl
                  · exact .inr (List.mem_cons_of_mem _ hx)
        rcases key m hx with rfl | hx
        · simp only
          omega
        · exact h.1 x hx

/-! ## Staging buffers and banks (04 4.2, R60) -/

@[simp] theorem stagingOf_setStagingOf (b : StagingBuffers) (k : TableKind) (x : Option StagingBuffer) :
    stagingOf (setStagingOf b k x) k = x := by cases k <;> rfl

theorem stagingOf_setStagingOf_other (b : StagingBuffers) {k j : TableKind} (x : Option StagingBuffer) (h : j ≠ k) :
    stagingOf (setStagingOf b k x) j = stagingOf b j := by
  cases k <;> cases j <;> first | rfl | exact absurd rfl h

@[simp] theorem slotBank_setSlotBank (sl : Slot) (bank : BankId) (x : Bank) : slotBank (setSlotBank sl bank x) bank = x := by
  cases bank <;> rfl

@[simp] theorem slotBank_setSlotBank_other (sl : Slot) (bank : BankId) (x : Bank) :
    slotBank (setSlotBank sl bank x) (otherBank bank) = slotBank sl (otherBank bank) := by cases bank <;> rfl

@[simp] theorem setSlotBank_pointer (sl : Slot) (bank : BankId) (x : Bank) : (setSlotBank sl bank x).pointer = sl.pointer := by
  cases bank <;> rfl

@[simp] theorem otherBank_otherBank (bank : BankId) : otherBank (otherBank bank) = bank := by cases bank <;> rfl

theorem otherBank_ne (bank : BankId) : otherBank bank ≠ bank := by cases bank <;> decide

/-! ## LIF's stores (R9, R10) -/

/-- A queued cell stays of its kind and output, whatever COMMAND it takes (R9, row 1). -/
@[simp] theorem isCommandOf_coalesce (c : CommandCell) (q : QueuedCell) (o : OutIx) :
    isCommandOf o (coalesce c q) = isCommandOf o q := by
  cases q with
  | timed d => rfl
  | command d =>
    by_cases h : d.output = c.output
    · simp [coalesce, isCommandOf, h]
    · simp [coalesce, h]

/-- A queued COMMAND of the same output takes the new payload and keeps its DEST (R9, row 1; log entry 11). -/
theorem coalesce_same {c d : CommandCell} (h : d.output = c.output) :
    coalesce c (.command d) = .command { c with dest := d.dest } := by simp [coalesce, h]

theorem coalesce_other {c : CommandCell} {q : QueuedCell} (h : isCommandOf c.output q = false) : coalesce c q = q := by
  cases q with
  | timed d => rfl
  | command d =>
    have : d.output ≠ c.output := by simpa [isCommandOf] using h
    simp [coalesce, this]

/-- The command queue grows by at most the one cell that finds room (R9). -/
theorem takeCommand_length (c : CommandCell) (l : Lif) (h : l.commandQueue.length ≤ 32) :
    (takeCommand c l).commandQueue.length ≤ 32 := by
  unfold takeCommand
  split
  · simpa using h
  · split
    · exact h
    · split
      · simp only [List.length_append, List.length_singleton]
        omega
      · exact h

/-- A COMMAND touches nothing of LIF but the command queue and the deferred set (R9). -/
theorem takeCommand_eq (c : CommandCell) (l : Lif) :
    takeCommand c l = { l with commandQueue := (takeCommand c l).commandQueue, deferredSet := (takeCommand c l).deferredSet } := by
  unfold takeCommand
  repeat' split
  all_goals rfl

/-- A carry list holds the cell that was put in it (R10). -/
theorem mem_putCarried (c : TimedCell) (l : List TimedCell) : c ∈ putCarried c l := by
  induction l with
  | nil => simp [putCarried]
  | cons d ds ih =>
    unfold putCarried
    split
    · simp
    · exact List.mem_cons_of_mem _ ih

/-- A carry list grows by at most one cell (R10). -/
theorem putCarried_length (c : TimedCell) (l : List TimedCell) : (putCarried c l).length ≤ l.length + 1 := by
  induction l with
  | nil => simp [putCarried]
  | cons d ds ih =>
    unfold putCarried
    split
    · simp
    · simpa using ih

/-! ## The feeder's operations, the pot's alarms, the still count and the wave status (R28, R140, R149, R189) -/

/-- An operation is recorded as it was handed, whether its output is committed or not (R28). -/
@[simp] theorem handOperation_operation (op : FeederOperation) (s : State) : (handOperation op s).out.operation = some op := by
  unfold handOperation
  dsimp only
  split <;> rfl

/-- An OUTPUT commit keeps the record of the last operation (R22, R28). -/
@[simp] theorem handLastOperation_operation (s : State) : (handLastOperation s).out.operation = s.out.operation := by
  unfold handLastOperation
  split
  · next h => rw [handOperation_operation, h]
  · rfl

/-- What POT makes of a notice of its alarms (R140): nothing, FAULT, or COLD from FAULT. -/
theorem potAlarm_cases (set : Bool) (s : State) :
    (potAlarm set s).1 = s
    ∨ ((set = true ∨ anyPotAlarmSet s = true) ∧ s.pot.state ≠ .fault
        ∧ potAlarm set s = ({ s with pot := { s.pot with state := .fault, meltTimer := none, setbackTimer := none } },
            [.potChanged s.pot.state, .potAlarm false]))
    ∨ (anyPotAlarmSet s = false ∧ s.pot.state = .fault
        ∧ potAlarm set s = ({ s with pot := { s.pot with state := .cold } }, [.potChanged .fault, .potEvaluate .plain])) := by
  unfold potAlarm potActs
  by_cases hi : potIdle s = true
  · exact .inl (by simp [hi])
  · by_cases hf : s.pot.state = .fault
    · by_cases ha : anyPotAlarmSet s = true
      · exact .inl (by simp [hi, hf, ha])
      · exact .inr (.inr (by simp [hi, hf, ha]))
    · by_cases hs : (set || anyPotAlarmSet s) = true
      · exact .inr (.inl ⟨by simpa using hs, hf, by simp [hi, hf, hs]⟩)
      · exact .inl (by simp [hi, hf, hs])

/-- The still count starts again at a gap in STOPPING alone (R189). -/
@[simp] theorem encoderGap_stillCount (s : State) :
    (encoderGap s).1.hld.stillCount = if s.hld.phase = .stopping then 0 else s.hld.stillCount := rfl

/-- A final wave status stays (R149). -/
theorem nextWaveStatus_final {s : State} {b : Board} (atSample : Bool) (h : b.wave = .done ∨ b.wave = .lowered) :
    nextWaveStatus s atSample b = b.wave := by simp [nextWaveStatus, h]

/-- A record whose length is absent keeps PENDING (R149; log entry 41). -/
theorem nextWaveStatus_absent {s : State} {b : Board} (atSample : Bool) (h : b.length = none) (hd : b.wave ≠ .done)
    (hl : b.wave ≠ .lowered) : nextWaveStatus s atSample b = .pending := by simp [nextWaveStatus, h, hd, hl]

end Sys2Proof.Machine
end

