-- ==== Sys2Proof/Tests/Slice0.lean ====
section
/-! SUPPORT. The model's own tests: ill-formed commands are refused, one or two small tests for each command with values worked
out from the manual (its worked figures where it gives some), and for each statement with hypotheses a witness that meets them. -/

namespace Sys2Proof.Tests

open Sys2Proof.Machine

set_option Elab.async false

/-! ## Helpers -/

/-- Operand bytes of a REQUEST, the unused ones 0. -/
def operandBytes (l : List Nat) : BitVec 64 := BitVec.ofNat 64 (packBytes (l ++ List.replicate (8 - l.length) 0))

/-- A REQUEST cell with its CHECK. -/
def reqFrom (src : Byte) (code : Nat) (l : List Nat) : ReqCell :=
  let r : ReqCell := { dest := 0, src := src, tag := 7, operands := operandBytes l, check := 0 }
  { r with check := checkOf (requestRaw (BitVec.ofNat 16 code) r) }

/-- A REQUEST cell from node 1. -/
def req (code : Nat) (l : List Nat) : ReqCell := reqFrom 1 code l

/-- The operands of STAGE: table, index, item, field and a 32-bit value. -/
def stageOf (table index item field : Nat) (v : Int) : ReqCell :=
  req 1 ([table, index, item, field] ++ bytes4 (BitVec.ofInt 32 v).toNat)

/-- A SAMPLE cell from node 2 with its CHECK. -/
def smp (sequence statuses : Byte) (a b c d : Word16) : SampleCell :=
  let x : SampleCell := { dest := 0, src := 2, tag := 0, sequence := sequence, statuses := statuses, value0 := a,
                          value1 := b, value2 := c, value3 := d, check := 0 }
  { x with check := checkOf (sampleRaw x) }

/-- A COMPLETION cell with its CHECK. -/
def comp (src number result : Byte) (quantity : Word16) : CompletionCell :=
  let x : CompletionCell := { dest := 0, src := src, tag := 0, number := number, result := result, quantity := quantity,
                              unused := 0, check := 0 }
  { x with check := checkOf (completionRaw x) }

/-- A CYCLE_END cell with its CHECK. -/
def cycEnd (cycle : Word32) : CycleEndCell :=
  let x : CycleEndCell := { dest := 63, src := 0, tag := 0, cycle := cycle, unused := 0, check := 0 }
  { x with check := checkOf (cycleEndRaw x) }

/-- The state after a command. -/
def after (c : Instr) (s : State) : State :=
  match exec c s with
  | .next t => t
  | .fault _ => s
  | .refused _ => s

/-- The status and the data of the last reply. -/
def replyOf (s : State) : Option (ReplyStatus × List Nat) :=
  match s.lif.messageQueue.getLast? with
  | some (.reply _ _ status data) => some (status, data.map (·.toNat))
  | some (.reportPart1 _ _) => none
  | some (.reportPart2 _ _) => none
  | none => none

/-- S9, S10, S11 and S13 at node 2: channel 0 the encoder, 4 the entry sensor, 8 the solder distance, 12 to 14 the pot's own
sensors' substitute; the feeder O21 at node 3. -/
def channelTable : FieldMap :=
  [(1, 1, 1), (1, 2, 2), (1, 3, 16), (1, 4, 100), (10, 1, 1), (10, 2, 2), (10, 4, 100), (11, 1, 1), (11, 2, 2), (11, 3, 4), (11, 4, 100)]

/-- A state in cycle 1, open, with the six tables in the configured set; the line controller is node 1 and the panel node 9. -/
def base (l : LineState) : State :=
  { State.reset with
    lif := { Lif.reset with openCycle := true, cycle := 1 },
    mru := { State.reset.mru with line := l, configured := ⟨true, true, true, true, true, true⟩ },
    tbs := { State.reset.tbs with
      channel := channelTable, output := [(21, 1, 3), (21, 3, 10000)],
      line := [(0, 1, 1500), (0, 2, 1), (0, 3, 9), (0, 9, 60000), (0, 15, 2000), (0, 16, 3000), (0, 17, 50), (0, 19, 3000), (0, 20, 4), (0, 21, 10)] } }

/-- A board record, planned, in slot 0's bank A, at this lead. -/
def board (n : BoardNo) (lead : Word32) : Board :=
  { number := n, bank := some (0, .a), lead := lead, length := some 20000, unplanned := false, disposition := .goOn,
    flux := .pending, dose := 0, topside := none, wave := .pending, chipMs := 0, laminarMs := 0, defects := 0, holds := 0,
    lossMark := false, exitMatched := false }

/-- A state with one board in the train. -/
def withBoard (s : State) (b : Board) : State :=
  { s with btk := { s.btk with train := [b], nextNumber := b.number + 1 },
           tbs := { s.tbs with slots := vset s.tbs.slots 0 { s.tbs.slots[(0 : SlotIx)] with bankA := ⟨true, [(0, 1, 301)], 1⟩ } } }

/-- A state with an alarm's state set. -/
def withAlarm (s : State) (a : AlarmIx) (x : AlarmState) : State :=
  setAlarm s a { s.acu.alarms[a] with state := x }

/-- A state with an alarm's programmable entry set. -/
def withEntry (s : State) (a : AlarmIx) (e : AlarmEntry) : State :=
  { s with tbs := { s.tbs with alarms := vset s.tbs.alarms a e } }

/-- A hold record with these lines and this lock. -/
def holdRecord (lock : LockState) (lines : List BoardLine) : HoldRecord :=
  { episode := 5, primary := .request 1, later := [], notListed := 0, entryPosition := 0, stopPosition := none, lock := lock,
    lines := lines }

/-- RUN in a hold phase, with a record. -/
def holding (phase : HoldPhase) (lock : LockState) : State :=
  { base .run with hld := { Hld.reset with phase := phase, episode := 5, record := some (holdRecord lock []) } }

/-- The pot in a state, above the liquidus. -/
def potIn (s : State) (x : PotState) : State := { s with pot := { s.pot with state := x, temperature := some 2500 } }

/-- The feeder in a state, with operation 17 in flight and level before 1230. -/
def feederIn (s : State) (x : FeederState) (level : Option Int) : State :=
  { s with pot := { s.pot with level := level, feeder := { s.pot.feeder with
      state := x, number := 17, levelBefore := some 1230, feedTimer := some 1 } } }

/-! ## CHECK and the cell formats -/

/-- R5: "For the nine ASCII bytes "123456789" this computation yields 29B1h." -/
theorem test_crc_check_value : crc16 [49, 50, 51, 52, 53, 54, 55, 56, 57] = 0x29B1 := by decide +kernel

/-- 01 1.8: bytes 4 to 7 of CYCLE_START are the cycle number, byte 4 the most significant. -/
theorem test_cell_bytes : cellBytes (ownCell 63 1 0 (bytes4 0x01020304)) = [63, 0, 1, 0, 1, 2, 3, 4, 0, 0, 0, 0, 0, 0] := by
  decide +kernel

/-! ## Ill-formed commands are refused -/

theorem test_illFormed_badSource : illFormed (.start (reqFrom 63 7 [])) = some .badSource := by decide +kernel
theorem test_illFormed_badDestination : illFormed (.sample { smp 0 0 0 0 0 0 with dest := 64 }) = some .badDestination := by
  decide +kernel
theorem test_illFormed_badTag : illFormed (.sample { smp 0 0 0 0 0 0 with tag := 1 }) = some .badTag := by decide +kernel
theorem test_illFormed_unusedByte : illFormed (.completion { comp 3 1 0 50 with unused := 1 }) = some .unusedByte := by
  decide +kernel
theorem test_illFormed_badCheck : illFormed (.start { req 7 [] with check := 0 }) = some .badCheck := by decide +kernel
theorem test_illFormed_knownCode : illFormed (.unknownRequest 7 (req 7 [])) = some .knownCode := by decide +kernel
theorem test_illFormed_foreignCycleEnd : illFormed (.cycleEnd { cycEnd 1 with src := 4 }) = some .foreignCycleEnd := by
  decide +kernel
theorem test_illFormed_notDiscarded : illFormed (.cellDiscarded (cycleEndRaw (cycEnd 1))) = some .notDiscarded := by
  decide +kernel
theorem test_wellFormed_stage : wellFormed (.stage (stageOf 3 0 0 1 1500)) = true := by decide +kernel

/-! ## The loop's commands -/

/-- R13: after power-on reset the loop is STARTING and the forcing flag is set (R104). -/
theorem test_powerOnReset : (after .powerOnReset (base .run)).lif.loopState = .starting
    ∧ (after .powerOnReset (base .run)).flx.forcing = true ∧ (after .powerOnReset (base .run)).mru.line = .unconfigured := by
  decide +kernel

/-- R6: the eighth lost cycle in a row takes the loop from UP to DOWN; A0 goes to LATCHED or ACTIVE at that event (R7). -/
theorem test_cycleStart_eighth_lost :
    let s := { base .standby with lif := { (base .standby).lif with loopState := .up, consecutiveLost := 7 } }
    (after .cycleStart s).lif.loopState = .down ∧ alarmSet (after .cycleStart s) (A 0) = true := by decide +kernel

/-- R1: a cycle start counts the cycle and wraps. -/
theorem test_cycleStart_wraps :
    (after .cycleStart { base .standby with lif := { (base .standby).lif with cycle := 0xFFFFFFFF } }).lif.cycle = 0 := by
  decide +kernel

/-- R8: at least the threshold of check errors (10) in a block raises A1. -/
theorem test_block_at_threshold :
    let s := { base .standby with lif := { (base .standby).lif with blockErrors := 10 } }
    (after .degradationBlockComplete s).lif.lastBlockErrors = 10
    ∧ ((after .degradationBlockComplete s).acu.alarms[A 1]).state = .active := by decide +kernel

/-- R8: one fewer does not. -/
theorem test_block_below_threshold :
    let s := { base .standby with lif := { (base .standby).lif with blockErrors := 9 } }
    ((after .degradationBlockComplete s).acu.alarms[A 1]).state = .clear := by decide +kernel

/-- R6: the fourth complete cycle in a row takes the loop from STARTING to UP. -/
theorem test_cycleEnd_fourth :
    let s := { base .standby with lif := { (base .standby).lif with consecutiveComplete := 3 } }
    (after (.cycleEnd (cycEnd 1)) s).lif.loopState = .up ∧ (after (.cycleEnd (cycEnd 1)) s).lif.openCycle = false := by
  decide +kernel

/-- R3: a CYCLE_END of another cycle is a late cell. -/
theorem test_cycleEnd_late : (after (.cycleEnd (cycEnd 2)) (base .standby)).lif.lateCells = 1 := by decide +kernel

/-- R4: a cell whose CHECK does not match counts in the total and in the block. -/
theorem test_cellDiscarded_check :
    let t := after (.cellDiscarded { requestRaw 7 (req 7 []) with check := 0 }) (base .standby)
    t.lif.checkErrors = 1 ∧ t.lif.blockErrors = 1 ∧ t.mru.line = .standby := by decide +kernel

/-- R4: with no open cycle the cell is late. -/
theorem test_cellDiscarded_late :
    (after (.cellDiscarded (sampleRaw (smp 0 0 5 0 0 0))) State.reset).lif.lateCells = 1 := by decide +kernel

/-- Worked figures of 05: "With the reference count 65530 and a new count of 4 ... The position advances by 10 track units." -/
theorem test_sample_encoder :
    let s := { base .standby with btk := { Btk.reset with reference := some 65530, position := 100 } }
    (after (.sample (smp 0 0 4 0 0 0)) s).btk.position = 110 := by decide +kernel

/-- R16, R17: the status bits of position 0 are the two most significant (01 1.8); an OPEN sample counts as non-GOOD. -/
theorem test_sample_open_wire :
    ((after (.sample (smp 0 0x40 4 0 0 0)) (base .standby)).sig[S 10]).status = some .openWire
    ∧ ((after (.sample (smp 0 0x40 4 0 0 0)) (base .standby)).sig[S 10]).nonGood = 1 := by decide +kernel

/-- R154: DONE of the operation in flight begins the settling with the quantity delivered. -/
theorem test_completion_done :
    let t := after (.completion (comp 3 17 0 48)) (feederIn (base .run) .feeding (some 1230))
    t.pot.feeder.state = .settling ∧ t.pot.feeder.delivered = 48 ∧ t.pot.feeder.settleTimer = some 3000 := by decide +kernel

/-- R154: a completion of another operation number is counted and nothing else. -/
theorem test_completion_ignored :
    let t := after (.completion (comp 3 16 0 48)) (feederIn (base .run) .feeding (some 1230))
    t.pot.feeder.state = .feeding ∧ t.pot.ignored = 1 := by decide +kernel

/-! ## Timer expiries -/

/-- R18: the signal goes STALE and keeps its last GOOD value. -/
theorem test_stale_expiry :
    let s := after (.sample (smp 0 0 4 0 0 0)) (base .standby)
    ((after (.staleTimerExpiry (S 10)) s).sig[S 10]).freshness = .stale
    ∧ ((after (.staleTimerExpiry (S 10)) s).sig[S 10]).lastGood = some 4 := by decide +kernel

/-- R85, R185: no motion raises A41, which begins a hold; the hold stops the timer, so the condition ends and A41 is LATCHED. -/
theorem test_noMotion_expiry :
    let s := { base .run with btk := { Btk.reset with noMotionTimer := some 2000 } }
    ((after .noMotionTimerExpiry s).acu.alarms[A 41]).state = .latched ∧ (after .noMotionTimerExpiry s).hld.phase = .stopping := by
  decide +kernel

/-- R138: the melt dwell over, the pot is MOLTEN (its loops are not at their setpoints, so not READY). -/
theorem test_meltDwell_expiry :
    let s := potIn { base .standby with pot := { Pot.reset with meltTimer := some 1000 } } .melting
    (after .meltDwellExpiry s).pot.state = .molten := by decide +kernel

/-- R141: the setback delay over, a MOLTEN pot goes to SETBACK. -/
theorem test_setback_expiry :
    let s := potIn { base .standby with pot := { Pot.reset with setbackTimer := some 60000 } } .molten
    (after .setbackTimerExpiry s).pot.state = .setback := by decide +kernel

/-- R146, R171: a pump commanded above 0 and not at speed has the fault; A25 has delay 10, so it goes to PENDING. -/
theorem test_pumpGrace_expiry :
    let s := setOutputRecord { base .run with pot := { Pot.reset with chip := { Pump.reset with grace := some 1000 } } } (O 17)
      { automatic := 400, manual := none, held := 0, delivered := 400 }
    (after (.pumpGraceExpiry .chip) s).pot.chip.fault = true
    ∧ ((after (.pumpGraceExpiry .chip) s).acu.alarms[A 25]).state = .pending := by decide +kernel

/-- R155: the feed timer over, A24 is raised (HARD, event: LATCHED) and the feeder is FAULTED. -/
theorem test_feedTimer_expiry :
    let t := after .feedTimerExpiry (feederIn (base .run) .feeding (some 1230))
    (t.acu.alarms[A 24]).state = .latched ∧ t.pot.feeder.state = .faulted := by decide +kernel

/-- Worked figures of 9.5: expected 20, rise 11: 22 is not below 20, the feed is effective; a debt of 120 becomes 70. -/
def settling (level : Int) : State :=
  let s := feederIn (base .standby) .settling (some level)
  { s with pot := { s.pot with debt := 120, feeder := { s.pot.feeder with
      feedTimer := none, settleTimer := some 3000, delivered := 50, ineffective := 1 } } }

theorem test_settle_effective : (after .settleTimerExpiry (settling 1241)).pot.feeder.ineffective = 0
    ∧ (after .settleTimerExpiry (settling 1241)).pot.debt = 70 := by decide +kernel

/-- The same figures: a median of 1236 is ineffective, A23 goes LATCHED and the count increments. -/
theorem test_settle_ineffective : (after .settleTimerExpiry (settling 1236)).pot.feeder.ineffective = 2
    ∧ (after .settleTimerExpiry (settling 1236)).pot.debt = 70
    ∧ ((after .settleTimerExpiry (settling 1236)).acu.alarms[A 23]).state = .latched := by decide +kernel

/-- R163, R164: the grace over, a fan commanded above 0 with a STALE feedback has the fan fault. -/
theorem test_fanGrace_expiry :
    let s := { base .standby with
      exm := { State.reset.exm with duct1 := { DuctRecord.reset with grace := some 4000, fanDelivered := 300 } },
      sig := vset State.reset.sig (S 21) { SignalRecord.reset with freshness := .stale, status := some .good } }
    (after (.fanGraceExpiry .one) s).exm.duct1.grace = none := by decide +kernel

/-- R190: the stop timer over with v8 absent, the phase is HELD. -/
theorem test_stopTimer_expiry :
    let s := { holding .stopping .locked with hld := { (holding .stopping .locked).hld with stopTimer := some 2000 } }
    (after .stopTimerExpiry s).hld.phase = .held := by decide +kernel

/-- R190, R185: the resume timer over, A41 begins the next episode. -/
theorem test_resumeTimer_expiry :
    let s := { holding .resuming .acknowledged with hld := { (holding .resuming .acknowledged).hld with resumeTimer := some 3000 } }
    (after .resumeTimerExpiry s).hld.phase = .stopping ∧ (after .resumeTimerExpiry s).hld.episode = 6 := by decide +kernel

/-! ## Table requests -/

/-- R47: the reply of STAGE gives the line state, the table, the index and how many fields the buffer holds. -/
theorem test_stage_reply : replyOf (after (.stage (stageOf 3 0 0 1 1500)) (base .standby))
    = some (.ok, [1, 3, 0, 0, 1, 0, 0, 0, 0]) := by decide +kernel

/-- R46: a cutoff action of 3 is no code. -/
theorem test_stage_badValue : replyOf (after (.stage (stageOf 1 0 1 4 3)) (base .standby))
    = some (.badValue, [0, 0, 0, 0, 0, 0, 0, 0, 0]) := by decide +kernel

/-- R49, R56: a conveyor speed of 5000 is brought to 2500 with CLAMPED. -/
theorem test_commit_clamped :
    let s := after (.commit (req 2 [3, 0])) (after (.stage (stageOf 3 0 0 1 5000)) (base .standby))
    (replyOf s).map (·.1) = some .clamped ∧ fieldOf s.tbs.line 0 1 = 2500 ∧ s.mru.staging.line = none := by decide +kernel

/-- R60: the first recipe commit of a slot fills bank B and turns the pointer to it (13.1: "OK, bank B"). -/
theorem test_commit_recipe_bankB :
    let s := after (.commit (req 2 [7, 3])) (after (.stage (stageOf 7 3 0 1 301)) (base .standby))
    (s.tbs.slots[(3 : SlotIx)]).pointer = .b ∧ fieldOf (s.tbs.slots[(3 : SlotIx)]).bankB.fields 0 1 = 301
    ∧ (s.tbs.slots[(3 : SlotIx)]).bankA.filled = false := by decide +kernel

theorem test_discard :
    (after (.discard (req 3 [3])) (after (.stage (stageOf 3 0 0 1 5000)) (base .standby))).mru.staging.line = none := by
  decide +kernel

/-- R62: a committed LINE field reads back in bytes 10 to 13 with presence byte 0. -/
theorem test_read_line : replyOf (after (.read (req 4 [3, 0, 0, 1, 0])) (base .standby))
    = some (.ok, [3, 0, 0, 1, 0, 0, 0, 5, 220]) := by decide +kernel

/-- R61: REMOVE_RECIPE empties the admit bank and leaves its fields and its count. -/
theorem test_removeRecipe :
    let t := after (.removeRecipe (req 5 [0])) (withBoard (base .run) (board 150 0))
    (t.tbs.slots[(0 : SlotIx)]).bankA = ⟨false, [(0, 1, 301)], 1⟩ := by decide +kernel

theorem test_lockLimits : (after (.lockLimits (req 6 [])) (base .standby)).mru.limitsLock = true := by decide +kernel

/-! ## Line requests -/

theorem test_start : (after (.start (req 7 [])) (base .standby)).mru.line = .run := by decide +kernel

/-- R34: START is refused while a hold-linked alarm is set (A41 has a hold link, R170). -/
theorem test_start_stillActive :
    (replyOf (after (.start (req 7 [])) (withAlarm (base .standby) (A 41) .latched))).map (·.1) = some .stillActive := by
  decide +kernel

/-- R35: with no board in the train DRAINING ends at once. -/
theorem test_stop_empty : (after (.stop (req 8 [])) (base .run)).mru.line = .standby := by decide +kernel

theorem test_stop_board : (after (.stop (req 8 [])) (withBoard (base .run) (board 150 0))).mru.line = .draining := by
  decide +kernel

theorem test_selectNext :
    (after (.selectNext (req 13 [0])) (withBoard { base .run with mru := { (base .run).mru with nextSlot := 3 } } (board 150 0))
      ).mru.nextSlot = 0 := by decide +kernel

theorem test_selectNext_empty : (replyOf (after (.selectNext (req 13 [4])) (base .run))).map (·.1) = some .emptySlot := by
  decide +kernel

/-- R37: 2501 is brought to 2500. -/
theorem test_setSpeed :
    let t := after (.setSpeed (req 14 [0x09, 0xC5])) (base .run)
    t.mru.lineSpeed = some 2500 ∧ replyOf t = some (.clamped, [2, 9, 196, 0, 0, 0, 0, 0, 0]) := by decide +kernel

theorem test_enterMaintenance : (after (.enterMaintenance (req 15 [])) (base .standby)).mru.line = .maintenance := by
  decide +kernel

/-- R36: leaving MAINTENANCE releases the manual commands. -/
theorem test_leaveMaintenance :
    let s := setOutputRecord (base .maintenance) (O 1) { automatic := 0, manual := some 500, held := 0, delivered := 500 }
    (after (.leaveMaintenance (req 16 [])) s).mru.line = .standby
    ∧ (outputRecord (after (.leaveMaintenance (req 16 [])) s) (O 1)).manual = none := by decide +kernel

/-- R39: a manual command above the output limit (10 here) is brought to it. -/
theorem test_setOutput :
    let s := { base .maintenance with tbs := { (base .maintenance).tbs with output := [(1, 3, 10)] } }
    (outputRecord (after (.setOutput (req 17 [1, 1, 1, 0])) s) (O 1)).manual = some 10 := by decide +kernel

/-- R41: RESTART empties the train with no report and gives its bank reference back. -/
theorem test_restart :
    let t := after (.restart (req 18 [])) (withBoard (base .standby) (board 150 0))
    t.btk.train = [] ∧ t.btk.exits = [] ∧ (t.tbs.slots[(0 : SlotIx)]).bankA.references = 0 ∧ t.btk.nextNumber = 151 := by
  decide +kernel

/-! ## Hold requests -/

/-- R185, R186 and 13.3: HOLD begins an episode; a board in contact with a wave gets HOLD_IN_WAVE and REWORK. -/
theorem test_hold :
    let t := after (.hold (req 9 [])) (withBoard (base .run) { board 140 0 with wave := .inContact })
    t.hld.phase = .stopping ∧ t.hld.episode = 1 ∧ t.flx.forcing = true
    ∧ (findBoard t.btk.train 140).map (fun b => (b.disposition, b.defects, b.holds)) = some (.rework, 16, 1) := by decide +kernel

theorem test_ackHold :
    ((after (.ackHold (req 10 [])) (holding .held .locked)).hld.record).map (·.lock) = some .acknowledged := by decide +kernel

/-- R192: a board of the hold record is set to REWORK while HELD. -/
theorem test_setDisposition :
    let s := withBoard { holding .held .locked with hld := { (holding .held .locked).hld with
      record := some (holdRecord .locked [⟨150, 0, .pending, .pending, false, .goOn, false⟩]) } } (board 150 0)
    (findBoard (after (.setDisposition (req 11 [0, 150, 1])) s).btk.train 150).map (·.disposition) = some .rework := by
  decide +kernel

/-- R193: an acknowledged record with an empty train and a cleared line: RESUMING. -/
theorem test_resume : (after (.resume (req 12 [])) (holding .held .acknowledged)).hld.phase = .resuming := by decide +kernel

/-- R193: row 2, a record that is not acknowledged. -/
theorem test_resume_locked : replyOf (after (.resume (req 12 [])) (holding .held .locked))
    = some (.locked, [2, 2, 0, 5, 1, 0, 0, 0, 0]) := by decide +kernel

/-! ## Alarms, cutoffs, the pot's requests and the rest -/

/-- R175: a LATCHED alarm becomes CLEAR. -/
theorem test_ackAlarm :
    ((after (.ackAlarm (req 19 [41])) (withAlarm (base .standby) (A 41) .latched)).acu.alarms[A 41]).state = .clear := by
  decide +kernel

/-- R180: FORCE_CUTOFF makes the group ACTIVE with the request as its cause. -/
theorem test_forceCutoff :
    groupRecord (after (.forceCutoff (req 20 [0])) (base .standby)) .flux = ⟨true, true, some (.request 1)⟩ := by decide +kernel

/-- R181, R182: CLEAR_CUTOFF makes it INACTIVE again. -/
theorem test_clearCutoff :
    groupRecord (after (.clearCutoff (req 21 [0])) (setGroup (base .standby) .flux ⟨true, true, some (.request 1)⟩)) .flux
      = ⟨false, false, none⟩ := by decide +kernel

/-- R153: FEED_NOW in MOLTEN with the level below HIGH starts a feed with the next operation number. -/
theorem test_feedNow :
    let s := { base .standby with tbs := { (base .standby).tbs with limits := [(1, 4, 1000), (2, 4, 1235), (3, 4, 1260), (4, 4, 1400)] } }
    let t := after (.feedNow (req 22 [])) (feederIn (potIn s .molten) .idle (some 1230))
    t.pot.feeder.state = .feeding ∧ t.pot.feeder.number = 18 ∧ t.out.operation = some ⟨.feed, 50, 18⟩ := by decide +kernel

/-- R141: SETBACK on sends a MOLTEN pot to SETBACK; byte 6 is its state. -/
theorem test_setback :
    let t := after (.setback (req 23 [1])) (potIn (base .standby) .molten)
    t.pot.state = .setback ∧ replyOf t = some (.ok, [0, 4, 0, 0, 0, 0, 0, 0, 0]) := by decide +kernel

/-- R30: a code outside 1 to 23. -/
theorem test_unknownRequest :
    (replyOf (after (.unknownRequest 24 (req 24 [])) (base .standby))).map (·.1) = some .unknownRequest := by decide +kernel

/-- R31: a source that is neither the line controller nor the panel. -/
theorem test_notPermitted : (replyOf (after (.start (reqFrom 5 7 [])) (base .standby))).map (·.1) = some .notPermitted := by
  decide +kernel

/-! ## Worked figures -/

/-- 6: edges 3 and 7 ahead get 1200 µs at v8 = 40 and 1696 µs at v8 = 66; the doses of a whole interval and of 800 µs. -/
theorem test_spray_figures :
    edgeDelay 3 40 = 1200 ∧ edgeDelay 7 66 = 1696 ∧ edgeDelay (-2) 40 = 0 ∧ pieceDose 80 600 2000 = 96
    ∧ pieceDose 80 600 800 = 38 := by decide +kernel

/-- 7.4, first example: the heater is commanded 830 permille, 50 above the output before. -/
theorem test_loop_figures :
    proportional 2048 75 = 600 ∧ nextIntegrator 40 900 409600 600 150 75 1 = 412600
    ∧ nextOutput 50 900 412600 600 150 780 = 830 := by decide +kernel

/-- 7.4, second example: the integrator is kept and the output falls from 300 to 250. -/
theorem test_loop_overshoot :
    proportional 2048 (-150) = -1200 ∧ nextIntegrator 40 900 409600 (-1200) 100 (-150) 1 = 409600
    ∧ nextOutput 50 900 409600 (-1200) 100 300 = 250 := by decide +kernel

/-- 7.4, third example: 4 samples at rate 20 ramp 1500 to 1580; 15 elapsed cycles are capped at 8. -/
theorem test_ramp_figures :
    elapsedSamples 10004 (some 10000) = 4 ∧ rampTo 1500 1800 80 = 1580 ∧ elapsedSamples 10020 (some 10005) = 8
    ∧ rampTo 1600 1800 160 = 1760 := by decide +kernel

/-! ## Operations -/

/-- R9: a queued COMMAND of the same output takes the new payload and keeps its DEST. -/
theorem test_coalesce_keeps_dest :
    (takeCommand ⟨O 3, 4, 9, 200, 0, .set⟩ { Lif.reset with commandQueue := [.command ⟨O 3, 3, 8, 100, 0, .set⟩] }).commandQueue
      = [.command ⟨O 3, 3, 9, 200, 0, .set⟩] := by decide +kernel

/-- R22, R28: a commit that changes O21's entry hands its last operation again, clamped to the limit; without one it hands nothing. -/
theorem test_last_operation_handed :
    let s : State := { State.reset with tbs := { State.reset.tbs with
      output := [(21, 1, 3), (21, 3, 40)], outputCommitted := vset State.reset.tbs.outputCommitted (O 21) true } }
    (handDelivered (O 21) { s with out := { s.out with operation := some ⟨.feed, 50, 18⟩ } }).1.lif.commandQueue
      = [.command ⟨O 21, 3, 0, 40, 18, .feed⟩]
    ∧ (handDelivered (O 21) s).1.lif.commandQueue = [] := by decide +kernel

/-- R153: a LINE commit that brings the debt of 500 down to 10 quanta of 10 starts a feed. -/
theorem test_commit_line_starts_feed :
    let u := potIn (base .standby) .molten
    let s : State := { u with
      pot := { u.pot with level := some 1240, debt := 500 },
      tbs := { u.tbs with limits := [(1, 4, 1000), (2, 4, 1235), (3, 4, 1260), (4, 4, 1400)], line := putField u.tbs.line 0 17 1000 } }
    let e := writeEntry .line 0 [(0, 17, 10)] (putField s.tbs.line 0 17 10) s
    (runEffect e).pot.debt = 100 ∧ (runEffect e).pot.feeder.state = .feeding := by decide +kernel

/-- R41, R159: RESTART in STANDBY keeps the pot state, also where its conditions have changed. -/
theorem test_restart_keeps_pot :
    (run (potIn (base .standby) .ready) (restartTasks .standby)).pot.state = .ready
    ∧ (run (potIn (base .standby) .ready) (restartTasks .maintenance)).pot.state = .molten := by decide +kernel

/-- R140: A25 of class SOFT is raised, and its own hold stops the pumps and clears it; the pot goes through FAULT to COLD. -/
theorem test_cleared_raise_faults_the_pot :
    let u := withEntry (base .run) (A 25) ⟨.soft, false, 0, 72⟩
    let pot := { u.pot with state := .ready, temperature := none, chip := { Pump.reset with grace := some 1000 } }
    let s := setOutputRecord { u with pot := pot } (O 17) { automatic := 400, manual := none, held := 0, delivered := 400 }
    let t := after (.pumpGraceExpiry .chip) s
    (t.acu.alarms[A 25]).state = .clear ∧ (t.acu.alarms[A 25]).occurrences = 1 ∧ t.hld.phase = .stopping ∧ t.pot.state = .cold := by
  decide +kernel

/-- R189: a stale encoder sets the still count to 0 in STOPPING alone. -/
theorem test_gap_resets_still_count :
    let s (phase : HoldPhase) : State :=
      { (holding phase .locked) with hld := { (holding phase .locked).hld with stillCount := 4 } }
    (encoderGap (s .stopping)).1.hld.stillCount = 0 ∧ (encoderGap (s .held)).1.hld.stillCount = 4 := by decide +kernel

/-! ## Witnesses: every statement with hypotheses has states and operands that meet them -/

/-- A state in RUN with a board in the train and a cycle start waiting. -/
def running : State := { withBoard (base .run) (board 150 0) with pending := [.cycleStart] }

theorem running_steps : ∃ t, step running = .next t := ⟨_, rfl⟩

theorem witness_LifStaysSound : LifSound running.lif ∧ ∃ t, step running = .next t :=
  ⟨by unfold LifSound; decide +kernel, running_steps⟩

theorem witness_SignalsStaySound : (∀ i : SigIx, SignalSound running.sig[i]) ∧ ∃ t, step running = .next t :=
  ⟨by unfold SignalSound; decide +kernel, running_steps⟩

theorem witness_TrainStaysSound : TrainSound running.btk ∧ ∃ t, step running = .next t :=
  ⟨by refine ⟨?_, ?_, ?_, ?_, ⟨?_, trivial⟩, ?_⟩ <;> decide +kernel, running_steps⟩

theorem witness_TablesStaySound_references : ReferencesAgree running ∧ ∃ t, step running = .next t :=
  ⟨by intro i bank; cases bank <;> revert i <;> decide +kernel, running_steps⟩

theorem witness_HoldStaysSound : HoldSound running ∧ ∃ t, step running = .next t :=
  ⟨by refine ⟨?_, ?_, ?_, ?_, ?_, fun r h => ?_⟩
      pick_goal 6
      · have hn : running.hld.record = none := by decide +kernel
        rw [hn] at h
        cases h
      all_goals decide +kernel, running_steps⟩

theorem witness_GroupsStaySound : GroupsSound running ∧ ∃ t, step running = .next t :=
  ⟨by intro g; cases g <;> decide +kernel, running_steps⟩

theorem witness_GroupsStaySound_linked : LinkedGroupsActive running ∧ ∃ t, step running = .next t :=
  ⟨by intro a g; cases g <;> revert a <;> decide +kernel, running_steps⟩

theorem witness_PotAndLoopsStayBounded : PotSound running.pot ∧ LoopsSound running.tle ∧ ∃ t, step running = .next t :=
  ⟨by refine ⟨?_, fun w => ?_, ?_, ?_, ?_⟩
      pick_goal 2
      · cases w <;> decide +kernel
      all_goals decide +kernel, by unfold LoopsSound; decide +kernel, running_steps⟩

theorem witness_OutputsStaySafe : DeliveredFormed running ∧ ∃ t, step running = .next t :=
  ⟨by unfold DeliveredFormed; decide +kernel, running_steps⟩

theorem witness_OutputsStaySafe_gate : GateSafe { running with btk := { running.btk with gateOpen := true } }
    ∧ ∃ t, step { running with btk := { running.btk with gateOpen := true } } = .next t :=
  ⟨by unfold GateSafe; decide +kernel, _, rfl⟩

theorem witness_TablesStaySound : TablesSorted running ∧ ∃ t, step running = .next t :=
  ⟨by refine ⟨fun k b h => ?_, ?_, ?_, ?_, ?_, ?_, ?_, fun i bank => ?_⟩
      · cases k <;> exact absurd h (by simp [running, withBoard, base, State.reset, Mru.reset, stagingOf])
      pick_goal 7
      · cases bank <;> revert i <;> unfold SortedFields <;> decide +kernel
      all_goals unfold SortedFields; decide +kernel, running_steps⟩

theorem witness_OutputsStaySafe_nozzles : NozzlesForced running.flx ∧ ∃ t, step running = .next t :=
  ⟨by unfold NozzlesForced; decide +kernel, running_steps⟩

/-- A LATCHED A41 stays so at a cycle start and at an acknowledgement of another alarm. -/
theorem witness_HardAlarmsStaySet :
    let s := withAlarm (base .run) (A 41) .latched
    (s.tbs.alarms[A 41]).cls = .hard ∧ alarmSet s (A 41) = true
    ∧ (∀ code r, carriedRequest .cycleStart = some (code, r) → code ≠ 2 ∧ (code = 19 → reqByte r 6 ≠ (A 41).val))
    ∧ (∀ code r, carriedRequest (.ackAlarm (req 19 [40])) = some (code, r) →
        code ≠ 2 ∧ (code = 19 → reqByte r 6 ≠ (A 41).val))
    ∧ (∃ t, exec .cycleStart s = .next t) ∧ ∃ t, exec (.ackAlarm (req 19 [40])) s = .next t := by
  refine ⟨by decide +kernel, by decide +kernel, fun code r h => (by simp [carriedRequest, requestOf] at h),
    fun code r h => ?_, ⟨_, rfl⟩, ⟨_, rfl⟩⟩
  simp only [carriedRequest, requestOf, Option.some.injEq, Prod.mk.injEq] at h
  obtain ⟨rfl, rfl⟩ := h
  exact ⟨by decide +kernel, fun _ => by decide +kernel⟩

theorem witness_ConfigurationIsProtected :
    let s := { running with mru := { running.mru with limitsLock := true } }
    (∃ t, exec .cycleStart s = .next t) ∧ s.mru.limitsLock = true ∧ s.mru.line ≠ .maintenance ∧ s.mru.line = .run :=
  ⟨⟨_, rfl⟩, by decide +kernel⟩

theorem witness_ConfigurationIsProtected_banks : (∃ t, exec .cycleStart running = .next t)
    ∧ 0 < (slotBank running.tbs.slots[(0 : SlotIx)] .a).references := ⟨⟨_, rfl⟩, by decide +kernel⟩

/-- One command for each of the four line states that the statement names. -/
theorem witness_LineStatesEnteredByTheirRequests :
    (∃ t, exec (.start (req 7 [])) (base .standby) = .next t ∧ t.mru.line ≠ .standby ∧ t.mru.line = .run)
    ∧ (∃ t, exec (.stop (req 8 [])) running = .next t ∧ t.mru.line ≠ .run ∧ t.mru.line = .draining)
    ∧ (∃ t, exec (.enterMaintenance (req 15 [])) (base .standby) = .next t ∧ t.mru.line ≠ .standby ∧ t.mru.line = .maintenance)
    ∧ ∃ t, exec .powerOnReset (base .run) = .next t ∧ t.mru.line ≠ .run ∧ t.mru.line = .unconfigured :=
  ⟨⟨_, rfl, by decide +kernel⟩, ⟨_, rfl, by decide +kernel⟩, ⟨_, rfl, by decide +kernel⟩, ⟨_, rfl, by decide +kernel⟩⟩

theorem witness_CellsSpellTheirCommands :
    (wellFormed (.cycleEnd (cycEnd 0xFFFFFFFF)) = true ∧ cellOf (.cycleEnd (cycEnd 0xFFFFFFFF)) = some (cycleEndRaw (cycEnd 0xFFFFFFFF)))
    ∧ (wellFormed (.sample (smp 255 255 0xFFFF 0 0xFFFF 1)) = true
        ∧ cellOf (.sample (smp 255 255 0xFFFF 0 0xFFFF 1)) = some (sampleRaw (smp 255 255 0xFFFF 0 0xFFFF 1)))
    ∧ (wellFormed (.completion (comp 3 255 2 0xFFFF)) = true
        ∧ cellOf (.completion (comp 3 255 2 0xFFFF)) = some (completionRaw (comp 3 255 2 0xFFFF)))
    ∧ (wellFormed (.setback (req 23 [1])) = true ∧ cellOf (.setback (req 23 [1])) = some (requestRaw 23 (req 23 [1])))
    ∧ wellFormed (.unknownRequest 24 (req 24 [])) = true
        ∧ cellOf (.unknownRequest 24 (req 24 [])) = some (requestRaw 24 (req 24 [])) := by decide +kernel

theorem witness_CycleEndClosesOrCounts :
    (cycEnd 1).src = 0 ∧ (cycEnd 1).check = checkOf (cycleEndRaw (cycEnd 1)) := by decide +kernel

/-- A cycle that closes lost, as the eighth in a row and as the seventh, and one that was closed; the block's last cycle and the one
before it. -/
theorem witness_CycleStartOpensCycle :
    let lost (n : Nat) (c : Nat) : State := { base .run with lif := { (base .run).lif with
      loopState := .up, consecutiveLost := n, blockCycles := c } }
    ((lost 7 498).lif.openCycle = true ∧ (after .cycleStart (lost 7 498)).overrun = false ∧ (lost 7 498).lif.blockCycles + 1 < 500)
    ∧ (¬7 ≤ (lost 6 499).lif.consecutiveLost ∧ 500 ≤ (lost 6 499).lif.blockCycles + 1)
    ∧ State.reset.lif.openCycle = false := by decide +kernel

theorem witness_TrainSentInOrder :
    let c (n : Nat) : TimedCell := ⟨O 9, 3, BitVec.ofNat 8 n, true, 100, 5⟩
    let s : State := { State.reset with lif := { Lif.reset with
      carryList := (List.range 20).map c, commandQueue := (List.range 32).map fun n => .timed (c (n + 20)) } }
    (s.lif.openCycle = false ∧ s.lif.carryList.length ≤ 20 ∧ s.lif.commandQueue.length ≤ 32
      ∧ ∃ d, QueuedCell.timed d ∈ (buildTrain s).lif.commandQueue)
    -- a loop that goes DOWN at the cycle start, within the budget
    ∧ (let d := { base .run with lif := { (base .run).lif with loopState := .up, consecutiveLost := 7 } }
       d.lif.openCycle = true ∧ d.lif.loopState = .up ∧ 7 ≤ d.lif.consecutiveLost ∧ (after .cycleStart d).overrun = false)
    -- a COMMAND and a TIMED_COMMAND left behind, and a deferred cell of which there is room for one
    ∧ let k (o : OutIx) : CommandCell := ⟨o, 3, 1, 4, 0, .set⟩
      let q : State := { State.reset with lif := { Lif.reset with
        commandQueue := (List.range 32).map (fun n => if n = 20 then .command (k (O 1)) else .timed (c n)),
        carryList := (List.range 20).map fun n => { c n with dest := 4 }, deferredSet := [k (O 2), k (O 3)] } }
      (dropOvertaken q.lif.carryList q.lif.commandQueue).length = 32 ∧ (buildTrain q).lif.deferredSet = [k (O 2), k (O 3)] := by
  refine ⟨⟨by decide +kernel, by decide +kernel, by decide +kernel, ⟨O 9, 3, 51, true, 100, 0⟩, by decide +kernel⟩,
    by decide +kernel, by decide +kernel⟩

/-- One queue for each of the four rows of R9: a queued COMMAND of the output, a deferred one, 31 cells and 32 cells. -/
theorem witness_CommandQueueTakesCommands :
    let c : CommandCell := ⟨O 3, 3, 0, 100, 0, .set⟩
    let d : CommandCell := ⟨O 4, 3, 1, 100, 0, .set⟩
    let full (n : Nat) (deferred : List CommandCell) : Lif :=
      { Lif.reset with commandQueue := (List.range n).map (fun _ => .command d), deferredSet := deferred }
    (∃ e, QueuedCell.command e ∈ (full 1 []).commandQueue ∧ e.output = d.output)
    ∧ ((∀ e, QueuedCell.command e ∈ (full 32 [c]).commandQueue → e.output ≠ c.output)
        ∧ (full 32 [c]).deferredSet.Pairwise (fun e f => e.output < f.output) ∧ ∃ e ∈ (full 32 [c]).deferredSet, e.output = c.output)
    ∧ ((full 31 []).commandQueue.length < 32 ∧ ∀ e ∈ (full 31 []).deferredSet, e.output ≠ c.output)
    ∧ 32 ≤ (full 32 []).commandQueue.length ∧ ∀ e ∈ (full 32 []).deferredSet, e.output ≠ c.output := by
  refine ⟨⟨⟨O 4, 3, 1, 100, 0, .set⟩, by decide +kernel, rfl⟩, ⟨fun e h => ?_, by decide +kernel, by decide +kernel⟩, by decide +kernel,
    by decide +kernel⟩
  obtain ⟨n, -, hn⟩ := List.mem_map.mp h
  injection hn with hn
  subst hn
  decide +kernel

/-- Every row of R171 for A1: the threshold of 10 check errors met and missed by one, and the delays met and missed by one. -/
theorem witness_DegradationBlockEnds :
    let s (state : AlarmState) (count delay errors : Nat) (cls : AlarmClass) : State :=
      withEntry { setAlarm (base .run) (A 1) ⟨state, count, 0, none⟩ with lif := { (base .run).lif with blockErrors := errors } } (A 1)
        ⟨cls, false, delay, 0⟩
    (∀ state ∈ [AlarmState.clear, .pending, .active, .latched], ∀ errors ∈ [9, 10], ∀ delay ∈ [0, 3, 4], ∀ cls ∈ [AlarmClass.soft, .hard],
      ((s state 2 delay errors cls).tbs.alarms[A 1]).links = 0 ∧ ((s state 2 delay errors cls).tbs.alarms[A 1]).masked = false
      ∧ ((s state 2 delay errors cls).acu.alarms[A 1]).state = state
      ∧ ((s state 2 delay errors cls).mru.configured.line = true
          ∧ degradedThreshold (s state 2 delay errors cls).tbs ≤ (s state 2 delay errors cls).lif.blockErrors ↔ errors = 10))
    -- a masked A1, and one with links
    ∧ ((withEntry (base .run) (A 1) ⟨.hard, true, 0, 0⟩).tbs.alarms[A 1]).masked = true
    ∧ ((withEntry (base .run) (A 1) ⟨.hard, false, 0, 64⟩).tbs.alarms[A 1]).links ≠ 0 := by
  decide +kernel

/-- A message queue with 16 places taken, and one with 15. -/
def queued (n : Nat) (s : State) : State :=
  { s with lif := { s.lif with messageQueue := List.replicate n (.reply 1 0 .ok noData) } }

theorem witness_RequestsAnsweredAtTheirArrival :
    requestOf (.hold (req 9 [])) = some (9, req 9 [])
    ∧ verdict (base .run).lif.openCycle (requestRaw 9 (req 9 [])) = .toMru
    ∧ 16 ≤ (queued 16 (base .run)).lif.messageQueue.length ∧ (queued 15 (base .run)).lif.messageQueue.length < 16 := by
  decide +kernel

theorem witness_RequestsPassTheGate :
    (requestOf (.unknownRequest 0 (req 0 [])) = some (0, req 0 []) ∧ requestOf (.unknownRequest 24 (req 24 [])) = some (24, req 24 []))
    ∧ verdict true (requestRaw 0 (req 0 [])) = .toMru ∧ verdict true (requestRaw 24 (req 24 [])) = .toMru ∧ 23 < (24 : Word16).toNat
    ∧ (base .run).lif.messageQueue.length < 16
    -- the panel (9) may not START; node 5 may send nothing
    ∧ verdict true (requestRaw 7 (reqFrom 9 7 [])) = .toMru ∧ verdict true (requestRaw 9 (reqFrom 5 9 [])) = .toMru
    ∧ (base .run).mru.configured.line = true ∧ (reqFrom 9 7 []).src ≠ controllerAddress (base .run).tbs
    ∧ panelAddress (base .run).tbs = 9 ∧ ¬((7 : Word16) = 4 ∨ (7 : Word16) = 9 ∨ (7 : Word16) = 19 ∨ (7 : Word16) = 20) := by
  decide +kernel

theorem witness_RequestsPassTheGate_lineStates :
    (accepted 7 (req 7 []) (base .maintenance) ∧ ¬takenIn 7 (base .maintenance))
    ∧ (accepted 7 (req 7 []) (base .run) ∧ accepted 8 (req 8 []) (base .draining) ∧ accepted 15 (req 15 []) (base .maintenance)
        ∧ accepted 16 (req 16 []) (base .standby))
    ∧ (accepted 13 (req 13 [16]) (base .run) ∧ accepted 5 (req 5 [16]) (base .run) ∧ accepted 19 (req 19 [43]) (base .run)
        ∧ accepted 20 (req 20 [6]) (base .run) ∧ accepted 21 (req 21 [6]) (base .run))
    ∧ (accepted 17 (req 17 [0]) (base .maintenance) ∧ accepted 17 (req 17 [24]) (base .maintenance)
        ∧ accepted 17 (req 17 [20]) (base .maintenance) ∧ accepted 17 (req 17 [21]) (base .maintenance))
    ∧ reqByte (req 13 [16]) 6 = 16 ∧ reqByte (req 17 [24]) 6 = 24 ∧ reqByte (req 19 [43]) 6 = 43 ∧ reqByte (req 20 [6]) 6 = 6 := by
  refine ⟨⟨by unfold accepted; decide +kernel, fun h => ?_⟩, by unfold accepted; decide +kernel,
    by unfold accepted; decide +kernel, by unfold accepted; decide +kernel, by decide +kernel⟩
  rcases h with h | h <;> exact absurd h (by decide +kernel)

/-- Boundaries of R16: 6000 and 6001 tenths of S1, 1 and 2 of S11, 1000 and 1001 of S14, and any value of S10. -/
theorem witness_ArrivalStatusDecided :
    arrivalStatus (S 1) 0 6000 = .good ∧ arrivalStatus (S 1) 0 6001 = .range ∧ arrivalStatus (S 9) 0 (-500) = .good
    ∧ arrivalStatus (S 9) 0 (-501) = .range ∧ arrivalStatus (S 11) 0 1 = .good ∧ arrivalStatus (S 23) 0 2 = .range
    ∧ arrivalStatus (S 14) 0 1000 = .good ∧ arrivalStatus (S 14) 0 1001 = .range ∧ arrivalStatus (S 10) 0 0xFFFF = .good
    ∧ arrivalStatus (S 10) 1 0 = .openWire ∧ arrivalStatus (S 10) 2 0 = .range ∧ arrivalStatus (S 10) 3 0 = .range := by
  decide +kernel

/-- The channels of S10 and S11 in one cell: two arrivals in position order, whose event stays within the budget. -/
theorem witness_SampleArrivalsRecorded :
    let s := { base .run with tbs := { (base .run).tbs with
      channel := [(10, 1, 1), (10, 2, 2), (10, 4, 100), (11, 1, 1), (11, 2, 2), (11, 3, 1), (11, 4, 100)] } }
    verdict s.lif.openCycle (sampleRaw (smp 0 0 4 1 0 0)) = .toSig ∧ (smp 0 0 4 1 0 0).sequence.toNat ≤ 63
    ∧ (arrivalsOf s (smp 0 0 4 1 0 0)).length = 2 ∧ (after (.sample (smp 0 0 4 1 0 0)) s).overrun = false
    ∧ verdict s.lif.openCycle (sampleRaw (smp 63 0 4 1 0 0)) = .toSig ∧ (smp 63 0 4 1 0 0).sequence.toNat ≤ 63
    ∧ verdict s.lif.openCycle (sampleRaw (smp 64 0 4 1 0 0)) = .toSig ∧ 63 < (smp 64 0 4 1 0 0).sequence.toNat := by
  decide +kernel

theorem witness_EncoderMovesPosition :
    let s := { base .run with btk := { Btk.reset with reference := some 65530 } }
    verdict s.lif.openCycle (sampleRaw (smp 0 0 4 0 0 0)) = .toSig ∧ (smp 0 0 4 0 0 0).sequence.toNat ≤ 63
    ∧ arrivalsOf s (smp 0 0 4 0 0 0) = [(S 10, 0, 4)] ∧ s.btk.reference = some 65530
    ∧ arrivalsOf (base .run) (smp 0 0 4 0 0 0) = [(S 10, 0, 4)] ∧ (base .run).btk.reference = none := by decide +kernel

/-- STANDBY with limits and a ramp rate for L1. -/
def thermal : State :=
  { base .standby with tbs := { (base .standby).tbs with limits := [(1, 1, 3000), (1, 2, 900), (1, 3, 6000)], tuning := [(1, 3, 20)] } }

/-- S1 at its channel 16, at the threshold of 6000. -/
theorem witness_ZoneLoopComputes :
    verdict thermal.lif.openCycle (sampleRaw (smp 4 0 6000 0 0 0)) = .toSig ∧ (smp 4 0 6000 0 0 0).sequence.toNat ≤ 63
    ∧ arrivalsOf thermal (smp 4 0 6000 0 0 0) = [(S ((0 : ZoneIx).val + 1), 0, 6000)]
    ∧ -500 ≤ (6000 : Word16).toInt ∧ (6000 : Word16).toInt ≤ 6000 ∧ (6000 : Word16).toInt ≤ overTempThreshold thermal.tbs (zoneLoop 0)
    ∧ thermal.mru.line ≠ .unconfigured ∧ groupActive thermal .preheat = false ∧ 0 ≤ rampRate thermal.tbs (zoneLoop 0) := by
  decide +kernel

/-- A confirmed lead edge with 11 records in the train and with 12. -/
theorem witness_BoardEntersTheTrain :
    let s (n : Nat) : State := { base .run with btk := { Btk.reset with
      train := (List.range n).map fun k => board (BitVec.ofNat 16 k) 0, nextNumber := BitVec.ofNat 16 n } }
    ∀ n ∈ [11, 12], verdict (s n).lif.openCycle (sampleRaw (smp 1 0 1 0 0 0)) = .toSig ∧ (smp 1 0 1 0 0 0).sequence.toNat ≤ 63
      ∧ arrivalsOf (s n) (smp 1 0 1 0 0 0) = [(S 11, 0, 1)] ∧ (s n).mru.configured.geometry = true
      ∧ (s n).btk.entryFilter.level = false ∧ entryFilterCount (s n).tbs ≤ (s n).btk.entryFilter.runCount + 1
      ∧ (s n).btk.train.length = n := by decide +kernel

/-- RUN with S9, S12 and S13 at channels 8, 12 and 20 of node 2, the exit at 400 000 with a window of 1500, the pyrometer at 200 000, a
level reference of 5000, and a chip wave at 320 000. -/
def sensing : State :=
  { base .run with tbs := { (base .run).tbs with
      channel := channelTable ++ [(9, 1, 1), (9, 2, 2), (9, 3, 8), (9, 4, 100), (12, 1, 1), (12, 2, 2), (12, 3, 12), (12, 4, 100), (13, 1, 1),
                                  (13, 2, 2), (13, 3, 20), (13, 4, 100)],
      geometry := [(0, 5, 200000), (0, 10, 400000), (0, 11, 1500), (0, 14, 5000), (1, 6, 320000), (1, 8, 6000), (1, 9, 2000),
                   (2, 6, 340000), (2, 8, 6000), (2, 9, 2000)] } }

/-- A board at this offset at position `at'`, with the exit filter's level and the exit match. -/
def atExit (at' : Word32) (level : Bool) (m : ExitMatch) (b : Board) : State :=
  let s := withBoard sensing b
  { s with btk := { s.btk with position := at', exitFilter := ⟨level, 0, 0⟩, exitMatch := m } }

/-- The bounds of the exit window of R79: one below it a phantom, at both ends matched, one above it LOST; a tail edge that is ignored,
one that retires the head, and one whose head carries a loss mark; 14 and 15 messages waiting. -/
theorem witness_BoardsLeaveTheTrain :
    let lead := smp 3 0 1 0 0 0
    let tail := smp 3 0 0 0 0 0
    let out := { board 150 0 with exitMatched := true }
    let s (n : Nat) : State := atExit (BitVec.ofNat 32 n) false .none (board 150 0)
    (∀ n ∈ [398499, 398500, 401500, 401501],
      verdict (s n).lif.openCycle (sampleRaw lead) = .toSig ∧ lead.sequence.toNat ≤ 63 ∧ arrivalsOf (s n) lead = [(S 12, 0, 1)]
      ∧ (s n).mru.configured.geometry = true ∧ exitFilterCount (s n).tbs ≤ (s n).btk.exitFilter.runCount + 1)
    ∧ arrivalsOf (atExit 420000 true .matched out) tail = [(S 12, 0, 0)] ∧ verdict true (sampleRaw tail) = .toSig
    ∧ (atExit 420000 true .matched out).btk.train = [out] ∧ out.lossMark = false ∧ (atExit 420000 true .phantom out).btk.exitMatch ≠ .matched
    ∧ (queued 14 (atExit 420000 true .matched out)).lif.messageQueue.length ≤ 14
    ∧ 14 < (queued 15 (atExit 420000 true .matched out)).lif.messageQueue.length := by decide +kernel

theorem witness_BoardsLeaveTheTrain_window :
    (after (.sample (smp 3 0 1 0 0 0)) (atExit 398499 false .none (board 150 0))).btk.exitMatch = .phantom
    ∧ ([398500, 401500].map fun p => (after (.sample (smp 3 0 1 0 0 0)) (atExit p false .none (board 150 0))).btk.exitMatch)
        = [.matched, .matched] := by decide +kernel

theorem witness_BoardsLeaveTheTrain_lost :
    (after (.sample (smp 3 0 1 0 0 0)) (atExit 401501 false .none (board 150 0))).overrun = false
    ∧ (after (.sample (smp 3 0 1 0 0 0)) (atExit 401501 false .none (board 150 0))).btk.train = [] := by decide +kernel

theorem witness_BoardsLeaveTheTrain_lossMark :
    (after (.sample (smp 3 0 0 0 0 0)) (atExit 420000 true .matched { board 150 0 with exitMatched := true, lossMark := true })).overrun
      = false := by decide +kernel

/-- The last offset of a head that is not missing and the first of one that is, for a head that is not matched. -/
theorem witness_MissingHeadsAreRetired :
    let s (p : Word32) : State :=
      { atExit p false .none (board 150 0) with btk := { (atExit p false .none (board 150 0)).btk with reference := some 0 } }
    verdict (s 401490).lif.openCycle (sampleRaw (smp 0 0 11 0 0 0)) = .toSig ∧ (smp 0 0 11 0 0 0).sequence.toNat ≤ 63
    ∧ arrivalsOf (s 401490) (smp 0 0 11 0 0 0) = [(S 10, 0, 11)] ∧ (s 401490).btk.exits.length ≤ 8
    ∧ (after (.sample (smp 0 0 11 0 0 0)) (s 401490)).overrun = false
    ∧ (after (.sample (smp 0 0 11 0 0 0)) (s 401490)).btk.train = []
    ∧ (after (.sample (smp 0 0 11 0 0 0)) (s 401489)).btk.train.length = 1 := by decide +kernel

/-- A segment on nozzles 1 and 2, its opening edge 3 ahead or at the position, or its closing edge, at v8 = 40. -/
def sprayed (ahead : Word32) (kind : EdgeKind) (state : SegState) : State :=
  let s := withBoard (base .run) { board 150 0 with flux := if kind = .opening then .pending else .spraying }
  let slot : Slot := { s.tbs.slots[(0 : SlotIx)] with bankA := ⟨true, [(0, 4, 1), (1, 5, 3), (1, 6, 500), (1, 7, 15000), (1, 8, 600)], 1⟩ }
  deriveNozzles { s with
    btk := { s.btk with v8 := some 40, position := 1000000 }, tbs := { s.tbs with slots := vset s.tbs.slots 0 slot },
    flx := { s.flx with forcing := false, edges := [⟨1000000 + ahead, 150, 1, kind⟩, ⟨1000005, 150, 1, .closing⟩],
                        sprays := [⟨150, [⟨1, state⟩], false, 0⟩] } }

/-- 6.2.1: an edge 3 ahead is taken with a delay of 1200 µs, one 5 ahead is not; an edge at the position is late. -/
theorem witness_SprayEdgesAreTaken :
    (sprayed 3 .opening .pending).btk.v8 = some 40 ∧ (sprayed 3 .opening .pending).flx.forcing = false
    ∧ ((sprayed 3 .opening .pending).flx.edges.filter fun e => decide (signedDiff e.position 1000000 < 40 / 8))
        = [⟨1000003, 150, 1, .opening⟩]
    ∧ (sprayed 3 .opening .pending).lif.commandQueue.length + 16 ≤ 32
    ∧ segmentState (sprayed 3 .opening .pending) 150 1 = some .pending ∧ fluxOf (sprayed 3 .opening .pending) 150 = some .pending
    ∧ covering (sprayed 3 .opening .pending) 0 = [] ∧ viewOf (sprayed 3 .opening .pending) 0 = ⟨false, 0, none⟩
    ∧ ((flxTakeEdges (sprayed 3 .opening .pending)).1.flx.nozzles[(1 : NozzleIx)]).planChanges = [(1200, ⟨true, 600, some 150⟩)]
    ∧ segmentState (sprayed 0 .closing .opened) 150 1 = some .opened
    ∧ (flxTakeEdges (sprayed 0 .closing .opened)).1.flx.lateEdges = 1
    ∧ verdict true (sampleRaw (smp 0 0 4 0 0 0)) = .toSig
    ∧ arrivalsOf (sprayed 3 .opening .pending) (smp 0 0 4 0 0 0) = [(S 10, 0, 4)]
    ∧ (after (.sample (smp 0 0 4 0 0 0)) (sprayed 3 .opening .pending)).overrun = false := by decide +kernel

/-- 6.3: flow 80, duty 600, opened at 1200 µs of an interval of one cycle: 38 nL for the owner. -/
theorem witness_DosesAreAccounted :
    let z : Nozzle := ⟨⟨true, 600, some 150⟩, ⟨false, 0, none⟩, [(1200, ⟨true, 600, some 150⟩)], false⟩
    let s : State := { sprayed 3 .closing .opened with
      sig := vset State.reset.sig (S 10) { SignalRecord.reset with arrivalCycle := 10 },
      tbs := { (sprayed 3 .closing .opened).tbs with
        output := [(9, 6, 80)], outputCommitted := vset State.reset.tbs.outputCommitted (O 9) true },
      flx := { (sprayed 3 .closing .opened).flx with
        lastAccounted := some 9, nozzles := vset State.reset.flx.nozzles 0 z } }
    (s.flx.sprays.map (·.board)).Nodup ∧ (∀ r ∈ s.flx.sprays, r.dose ≤ 4294967295)
    ∧ (∀ n : NozzleIx, (s.flx.nozzles[n]).planChanges.Pairwise fun x y => x.1 ≤ y.1) ∧ s.flx.lastAccounted = some 9
    ∧ (flxAccount s).1.flx.sprays.map (·.dose) = [38] := by decide +kernel

/-- A closing run whose dose of 0 µL is below the minimum of its bank. -/
theorem witness_DosesAreAccounted_runEnd :
    let u := sprayed 3 .closing .closed
    let s : State := { u with
      flx := { u.flx with sprays := [⟨150, [⟨1, .closed⟩], true, 0⟩] },
      tbs := { u.tbs with slots := vset u.tbs.slots 0 { u.tbs.slots[(0 : SlotIx)] with bankA := ⟨true, [(0, 9, 850), (0, 10, 950)], 1⟩ } } }
    (findSpray s.flx 150).map (·.runClosing) = some true ∧ (findBoard s.btk.train 150).isSome = true
    ∧ (run s [.flxRunEnd 150]).overrun = false
    ∧ (findBoard s.btk.train 150).bind (bankOf s.tbs) = some [(0, 9, 850), (0, 10, 950)]
    ∧ ¬(doseMinimum [(0, 9, 850), (0, 10, 950)] ≤ 0) ∧ (s.tbs.alarms[A 28]).masked = false := by decide +kernel

/-- A board whose midpoint is at the pyrometer and one past it, with S9 usable and not; and an ARMED board with a band of 2200 to
2400: a value at its upper bound, one above it, and an OPEN sample. -/
theorem witness_TopsideIsCaptured :
    let s (p : Word32) (f : Freshness) : State :=
      let u := atExit p false .none (board 150 0)
      { u with btk := { u.btk with reference := some 0 }, phm := { u.phm with captures := [(150, .waiting)] },
               sig := vset u.sig (S 9) { SignalRecord.reset with freshness := f, status := some .good } }
    let armed : State :=
      { sensing with
        btk := { sensing.btk with train := [board 150 0] }, phm := { sensing.phm with captures := [(150, .armed)] },
        tbs := { sensing.tbs with slots := vset sensing.tbs.slots 0 ⟨⟨true, [(0, 11, 2200), (0, 12, 2400)], 1⟩, ⟨false, [], 0⟩, .a⟩ } }
    (∀ f ∈ [Freshness.fresh, .stale], arrivalsOf (s 209999 f) (smp 0 0 1 0 0 0) = [(S 10, 0, 1)]
      ∧ (after (.sample (smp 0 0 2 0 0 0)) (s 209999 f)).overrun = false
      ∧ (after (.sample (smp 0 0 2 0 0 0)) (s 209999 f)).btk.train.map (·.number) = [150])
    ∧ (after (.sample (smp 0 0 1 0 0 0)) (s 209999 .fresh)).phm.captures = [(150, .waiting)]
    ∧ (after (.sample (smp 0 0 2 0 0 0)) (s 209999 .fresh)).phm.captures = [(150, .armed)]
    ∧ (after (.sample (smp 0 0 2 0 0 0)) (s 209999 .stale)).phm.captures = [(150, .unknown)]
    ∧ (∀ c ∈ [smp 2 0 2400 0 0 0, smp 2 0 2401 0 0 0, smp 2 0x40 2400 0 0 0],
        verdict armed.lif.openCycle (sampleRaw c) = .toSig ∧ c.sequence.toNat ≤ 63 ∧ (after (.sample c) armed).overrun = false)
    ∧ arrivalsOf armed (smp 2 0 2400 0 0 0) = [(S 9, 0, 2400)] ∧ arrivalsOf armed (smp 2 0x40 2400 0 0 0) = [(S 9, 1, 2400)]
    ∧ (findBoard armed.btk.train 150).bind (bankOf armed.tbs) = some [(0, 11, 2200), (0, 12, 2400)] := by decide +kernel

/-- Four and five distances in the window, and 48 and 49 non-GOOD arrivals before this one. -/
theorem witness_LevelFollowsTheGauge :
    let s (window : List Int) (bad : Nat) : State :=
      { sensing with pot := { sensing.pot with levelWindow := window },
                     sig := vset sensing.sig (S 13) { SignalRecord.reset with nonGood := bad } }
    (∀ w ∈ [[3760, 3762, 3755, 3764], [3760, 3762, 3755, 3764, 3770]], ∀ bad ∈ [48, 49], ∀ c ∈ [smp 5 0 3761 0 0 0, smp 5 0x40 0 0 0 0],
      verdict (s w bad).lif.openCycle (sampleRaw c) = .toSig ∧ c.sequence.toNat ≤ 63 ∧ (after (.sample c) (s w bad)).overrun = false)
    ∧ arrivalsOf (s [] 48) (smp 5 0 3761 0 0 0) = [(S 13, 0, 3761)] ∧ arrivalsOf (s [] 48) (smp 5 0x40 0 0 0 0) = [(S 13, 1, 0)]
    ∧ (s [] 48).mru.line ≠ .unconfigured ∧ ((s [] 48).sig[S 13]).nonGood + 1 < 50 ∧ 50 ≤ ((s [] 49).sig[S 13]).nonGood + 1
    ∧ (after (.sample (smp 5 0 3761 0 0 0)) (s [3760, 3762, 3755, 3764] 0)).pot.level = some 1239
    ∧ ∀ a ∈ [A 20, A 21, A 22], (sensing.tbs.alarms[a]).masked = false := by decide +kernel

/-- A board at an offset, with the chip pump at speed and a governed flag. -/
def wet (p : Word32) (b : Board) (governed : Bool) : State :=
  let u := setOutputRecord (atExit p false .none b) (O 17) ⟨400, none, 0, 400⟩
  { u with btk := { u.btk with reference := some 0 }, sig := vset u.sig (S 10) { SignalRecord.reset with arrivalCycle := 1 },
           pot := { u.pot with lastEncoder := some 0, chip := { Pump.reset with atSpeed := true, atSpeedCount := 3 },
                               waves := [⟨150, ⟨false, governed, false⟩, ⟨false, false, false⟩⟩] } }

/-- A board over the chip wave; one at the last offset over the waves and at the first past them, governed and not; one of absent
length over the wave; and one that is DONE. -/
theorem witness_ContactAndWaveStatusFollow :
    (∀ x ∈ [(320000, board 150 0, false), (366000, board 150 0, true), (366001, board 150 0, true), (366001, board 150 0, false),
        (320000, { board 150 0 with length := none }, false), (320000, { board 150 0 with wave := .done }, false)],
      verdict (wet x.1 x.2.1 x.2.2).lif.openCycle (sampleRaw (smp 0 0 0 0 0 0)) = .toSig
      ∧ arrivalsOf (wet x.1 x.2.1 x.2.2) (smp 0 0 0 0 0 0) = [(S 10, 0, 0)] ∧ (wet x.1 x.2.1 x.2.2).mru.line ≠ .unconfigured
      ∧ (wet x.1 x.2.1 x.2.2).pot.lastEncoder = some 0 ∧ ((wet x.1 x.2.1 x.2.2).btk.train.map (·.number)).Nodup)
    ∧ (potContact (wet 320000 (board 150 0) false)).1.btk.train.map (·.chipMs) = [2] := by decide +kernel

/-- The wave status of the one board after the sample, if the event stays within the budget. -/
def waveAfter (p : Word32) (b : Board) (governed : Bool) : Option WaveStatus :=
  let t := after (.sample (smp 0 0 0 0 0 0)) (wet p b governed)
  if t.overrun then none else t.btk.train.head?.map (·.wave)

theorem witness_ContactAndWaveStatusFollow_over :
    waveAfter 320000 (board 150 0) false = some .inContact
    ∧ waveAfter 320000 { board 150 0 with length := none } false = some .pending := by decide +kernel

theorem witness_ContactAndWaveStatusFollow_left :
    waveAfter 366001 (board 150 0) true = some .done ∧ waveAfter 366001 (board 150 0) false = some .lowered := by decide +kernel

theorem witness_ContactAndWaveStatusFollow_last : waveAfter 366000 (board 150 0) true = some .pending := by decide +kernel

theorem witness_SignalGoesStale :
    ((base .run).sig[S 10]).staleTimer = none ∧ ((after (.sample (smp 0 0 4 0 0 0)) (base .run)).sig[S 10]).staleTimer ≠ none := by
  decide +kernel

/-- A code in range and out of it, a number field, an index of another buffer, no such table, index and field, and a read-only
field. -/
theorem witness_StageCollectsFields :
    let s := after (.stage (stageOf 6 1 0 3 5)) (base .standby)
    (∀ r ∈ [stageOf 1 0 1 4 2, stageOf 1 0 1 4 3, stageOf 6 0 0 3 7, stageOf 6 42 0 3 7, stageOf 8 0 0 1 1, stageOf 3 1 0 1 1,
        stageOf 3 0 1 1 1, stageOf 6 0 0 5 1],
      verdict s.lif.openCycle (requestRaw 1 r) = .toMru ∧ s.lif.messageQueue.length < messageRoom ∧ maySend (sourceOf s r.src) 1 = true)
    ∧ findField .output 1 4 = some ⟨4, 1, 23, .code, 0, 2⟩ ∧ reqValue (stageOf 1 0 1 4 2) = 2 ∧ reqValue (stageOf 1 0 1 4 3) = 3
    ∧ findField .alarm 0 3 = some ⟨3, 0, 0, .number, 0, 255⟩ ∧ reqByte (stageOf 6 42 0 3 7) 7 < indexCount .alarm
    ∧ s.mru.staging.alarm.map (·.index) = some 1 ∧ reqByte (stageOf 6 0 0 3 7) 7 = 0
    ∧ tableOfCode (reqByte (stageOf 8 0 0 1 1) 6) = none ∧ indexCount .line ≤ reqByte (stageOf 3 1 0 1 1) 7
    ∧ findField .line 1 1 = none ∧ (findField .alarm 0 5).map (·.kind) = some .readOnly := by decide +kernel

theorem witness_DiscardEmptiesTheBuffer : accepted 3 (req 3 [7]) (base .run) ∧ tableOfCode (reqByte (req 3 [7]) 6) = some .recipe := by
  unfold accepted; decide +kernel

/-- A staged field of the index asked for, one of another index, a committed field, one never committed, and a view above 3. -/
theorem witness_ReadChangesNothing :
    let s := after (.stage (stageOf 6 1 0 3 5)) (base .standby)
    let u := { s with mru := { s.mru with configured := { s.mru.configured with line := false, limits := false } } }
    (∀ r ∈ [req 4 [6, 1, 0, 3, 1], req 4 [6, 2, 0, 3, 1], req 4 [3, 0, 0, 1, 0], req 4 [4, 0, 1, 1, 0], req 4 [3, 0, 0, 1, 4]],
      (verdict s.lif.openCycle (requestRaw 4 r) = .toMru ∧ maySend (sourceOf s r.src) 4 = true ∧ maySend (sourceOf u r.src) 4 = true)
      ∧ ∃ k ∈ [TableKind.alarm, .line, .limits], tableOfCode (reqByte r 6) = some k ∧ reqByte r 7 < indexCount k
        ∧ (findField k (reqByte r 8) (reqByte r 9)).any (fun f => f.kind != .readOnly) = true)
    ∧ s.lif.messageQueue.length < messageRoom ∧ s.mru.staging.alarm.map (·.index) = some 1
    ∧ s.mru.configured.line = true ∧ s.mru.configured.limits = true ∧ u.mru.configured.line = false
    ∧ reqByte (req 4 [3, 0, 0, 1, 4]) 10 = 4
    -- a recipe bank that is filled, with views 0, 2 and 3; the ninth counter; S23; and a table above 14
    ∧ (∀ r ∈ [req 4 [7, 0, 0, 1, 0], req 4 [7, 0, 0, 1, 2], req 4 [7, 15, 0, 1, 3], req 4 [14, 0, 0, 9, 0], req 4 [11, 0, 23, 5, 0],
        req 4 [15, 0, 0, 1, 0]],
      verdict s.lif.openCycle (requestRaw 4 r) = .toMru ∧ maySend (sourceOf (withBoard s (board 150 0)) r.src) 4 = true)
    ∧ ((withBoard s (board 150 0)).tbs.slots[(0 : SlotIx)]).bankA.filled = true ∧ (S 23).val + 1 = 23 := by decide +kernel

/-- A state in RUN with a lock, or in STANDBY, and what is staged there. -/
def staged (l : LineState) (lock : Bool) (rs : List ReqCell) : State :=
  let s := rs.foldl (fun s r => { after (.stage r) s with lif := s.lif }) (base l)
  { s with mru := { s.mru with limitsLock := lock } }

/-- The rows of R49 and R51, with the boundary index 42 of ALARM and 43 above it. -/
theorem witness_CommitRefused :
    let acceptedAt (r : ReqCell) (s : State) : Prop :=
      verdict s.lif.openCycle (requestRaw 2 r) = .toMru ∧ s.lif.messageQueue.length < messageRoom ∧ maySend (sourceOf s r.src) 2 = true
    (acceptedAt (req 2 [8, 0]) (base .run) ∧ tableOfCode (reqByte (req 2 [8, 0]) 6) = none)
    ∧ (acceptedAt (req 2 [6, 43]) (base .run) ∧ indexCount .alarm ≤ reqByte (req 2 [6, 43]) 7)
    ∧ (acceptedAt (req 2 [4, 0]) (staged .standby true []) ∧ (staged .standby true []).mru.limitsLock = true)
    ∧ (acceptedAt (req 2 [4, 0]) (staged .run false []) ∧ (staged .run false []).mru.limitsLock = false)
    ∧ (acceptedAt (req 2 [6, 42]) (base .draining) ∧ reqByte (req 2 [6, 42]) 7 < indexCount .alarm)
    ∧ (acceptedAt (req 2 [5, 0]) (base .run) ∧ stagingOf (base .run).mru.staging .tuning = none)
    ∧ (acceptedAt (req 2 [7, 2]) (staged .run false [stageOf 7 1 0 1 5])
        ∧ (stagingOf (staged .run false [stageOf 7 1 0 1 5]).mru.staging .recipe).map (·.index) = some 1)
    -- a recipe whose dose minimum is above its maximum
    ∧ (acceptedAt (req 2 [7, 1]) (staged .run false [stageOf 7 1 0 9 5])
        ∧ candidateSound (base .run).tbs .recipe 1 [(0, 9, 5)] (candidateFields (committedFields (base .run).tbs .recipe 1) [(0, 9, 5)]) = false)
    -- a sound recipe whose other bank is in use
    ∧ candidateSound (base .run).tbs .recipe 0 [(0, 1, 5)] (candidateFields (committedFields (base .run).tbs .recipe 0) [(0, 1, 5)]) = true
    ∧ acceptedAt (req 2 [7, 0]) (withBoard (staged .run false [stageOf 7 0 0 1 5]) (board 150 0))
    ∧ 0 < (slotBank { (withBoard (base .run) (board 150 0)).tbs.slots[(0 : SlotIx)] with pointer := .b } (otherBank .b)).references := by
  decide +kernel

theorem witness_CommitTuningWritesClampedFields :
    let s := staged .run false [stageOf 5 0 1 1 2048, stageOf 5 0 8 6 6001]
    accepted 2 (req 2 [5, 0]) s ∧ reqByte (req 2 [5, 0]) 6 = 5 ∧ reqByte (req 2 [5, 0]) 7 = 0
    ∧ s.mru.staging.tuning = some ⟨0, [(1, 1, 2048), (8, 6, 6001)]⟩ ∧ SortedFields [(1, 1, 2048), (8, 6, 6001)]
    ∧ s.mru.line ≠ .unconfigured := by
  unfold accepted SortedFields; decide +kernel

theorem witness_CommitRecipeTurnsThePointer :
    let s := staged .run false [stageOf 7 15 0 1 301]
    accepted 2 (req 2 [7, 15]) s ∧ reqByte (req 2 [7, 15]) 6 = 7 ∧ reqByte (req 2 [7, 15]) 7 = (15 : SlotIx).val
    ∧ s.mru.staging.recipe = some ⟨15, [(0, 1, 301)]⟩
    ∧ candidateSound s.tbs .recipe 15 [(0, 1, 301)] (candidateFields (committedFields s.tbs .recipe 15) [(0, 1, 301)]) = true
    ∧ (slotBank s.tbs.slots[(15 : SlotIx)] (otherBank (s.tbs.slots[(15 : SlotIx)]).pointer)).references = 0 := by
  unfold accepted; decide +kernel

theorem witness_CommitCompletesTheConfiguration :
    let s := { base .unconfigured with mru := { (base .unconfigured).mru with
      configured := ⟨true, true, true, true, true, false⟩,
      staging := { Mru.reset.staging with tuning := some ⟨0, [(1, 1, 2048)]⟩ } } }
    accepted 2 (req 2 [5, 0]) s ∧ tableOfCode (reqByte (req 2 [5, 0]) 6) = some .tuning ∧ reqByte (req 2 [5, 0]) 7 = 0
    ∧ s.mru.line = .unconfigured ∧ s.mru.limitsLock = false ∧ stagingOf s.mru.staging .tuning = some ⟨0, [(1, 1, 2048)]⟩
    ∧ candidateSound s.tbs .tuning 0 [(1, 1, 2048)] (candidateFields (committedFields s.tbs .tuning 0) [(1, 1, 2048)]) = true
    ∧ allConfigured (addConfigured s.mru.configured .tuning) = true := by
  unfold accepted; decide +kernel

theorem witness_RecipeSlotRequests :
    let s := withBoard (base .run) (board 150 0)
    (accepted 13 (req 13 [15]) s ∧ reqByte (req 13 [15]) 6 = (15 : SlotIx).val ∧ (admitBank s.tbs.slots[(15 : SlotIx)]).filled = false)
    ∧ (accepted 13 (req 13 [0]) s ∧ reqByte (req 13 [0]) 6 = (0 : SlotIx).val ∧ (admitBank s.tbs.slots[(0 : SlotIx)]).filled = true)
    ∧ accepted 5 (req 5 [0]) s ∧ reqByte (req 5 [0]) 6 = (0 : SlotIx).val ∧ s.mru.nextSlot = 0 := by
  unfold accepted; decide +kernel

/-! ## Witnesses: line, hold and alarm requests -/

theorem witness_SpeedAndLockAreSet :
    (∀ l ∈ [[0x01, 0x2B], [0x01, 0x2C], [0x09, 0xC4], [0x09, 0xC5]],
      verdict true (requestRaw 14 (req 14 l)) = .toMru ∧ maySend (sourceOf (base .run) (req 14 l).src) 14 = true)
    ∧ reqWord (req 14 [0x01, 0x2B]) 6 = 299 ∧ reqWord (req 14 [0x01, 0x2C]) 6 = 300 ∧ reqWord (req 14 [0x09, 0xC4]) 6 = 2500
    ∧ reqWord (req 14 [0x09, 0xC5]) 6 = 2501 ∧ accepted 6 (req 6 []) (base .run) ∧ (base .run).mru.line ≠ .unconfigured
    ∧ (base .run).btk.faultCondition = false := by
  unfold accepted; decide +kernel

theorem witness_LineStatesChangedByRequest :
    (accepted 7 (req 7 []) (withAlarm (base .standby) (A 42) .latched) ∧ holdAlarmSet (withAlarm (base .standby) (A 42) .latched) (A 42) = true)
    ∧ (accepted 7 (req 7 []) (base .standby) ∧ ∀ a : AlarmIx, holdAlarmSet (base .standby) a = false)
    ∧ (accepted 8 (req 8 []) running ∧ running.btk.train ≠ []) ∧ accepted 8 (req 8 []) (base .run) ∧ (base .run).btk.train = [] := by
  unfold accepted; decide +kernel

theorem witness_LineStatesChangedByRequest_maintenance :
    accepted 15 (req 15 []) (withBoard (base .standby) (board 150 0)) ∧ accepted 15 (req 15 []) (base .standby)
    ∧ (base .standby).btk.train = [] ∧ accepted 16 (req 16 []) (base .maintenance) := by
  unfold accepted; decide +kernel

/-- O1 and O16, the pumps O17 and O18 at 0 and above it with the pot not READY, O19 and O23, a set flag of 1 and of 2. -/
theorem witness_ManualOutputsSetAndReleased :
    (∀ l ∈ [[1, 1, 1, 0], [1, 0, 0, 0], [16, 1, 3, 232], [17, 1, 0, 0], [18, 1, 0, 1], [19, 1, 1, 0], [23, 1, 1, 0], [23, 2, 0, 0]],
      (verdict true (requestRaw 17 (req 17 l)) = .toMru ∧ maySend (sourceOf (base .maintenance) (req 17 l).src) 17 = true)
      ∧ 1 ≤ reqByte (req 17 l) 6 ∧ reqByte (req 17 l) 6 ≤ 23)
    ∧ (base .maintenance).lif.messageQueue.length < messageRoom ∧ reqByte (req 17 [23, 2, 0, 0]) 7 = 2
    ∧ reqWord (req 17 [18, 1, 0, 1]) 8 = 1 ∧ (base .maintenance).pot.state ≠ .ready
    -- a release that leaves the delivered command as it was
    ∧ clampUse (base .maintenance).tbs (O 19) (if cutOff (base .maintenance) (O 19) = true then cutoffLevel (base .maintenance) (O 19)
        else (none : Option Nat).getD (outputRecord (base .maintenance) (O 19)).automatic)
      = (outputRecord (base .maintenance) (O 19)).delivered := by decide +kernel

theorem witness_RestartReturnsToStandby :
    (accepted 18 (req 18 []) (withBoard (base .standby) (board 150 0)) ∧ takenIn 18 (withBoard (base .standby) (board 150 0)))
    ∧ (accepted 18 (req 18 []) (holding .held .locked) ∧ takenIn 18 (holding .held .locked))
    -- a feeder in each of its states but IDLE, and a soft alarm
    ∧ (∀ x ∈ [FeederState.feeding, .settling, .faulted],
        verdict true (requestRaw 18 (req 18 [])) = .toMru ∧ (feederIn (base .standby) x none).pot.feeder.state = x)
    ∧ ((base .standby).tbs.alarms[A 38]).cls = .soft := by
  refine ⟨⟨?_, Or.inl rfl⟩, ⟨?_, Or.inr (Or.inr ⟨Or.inl rfl, rfl⟩)⟩, ?_⟩ <;> (try unfold accepted) <;> decide +kernel

theorem witness_HoldBeginsAnEpisode :
    let s := withBoard (base .run) { board 140 0 with wave := .inContact }
    accepted 9 (req 9 []) s ∧ s.mru.line = .run ∧ s.hld.phase = .none ∧ accepted 9 (req 9 []) (holding .resuming .acknowledged)
    ∧ (holding .resuming .acknowledged).hld.phase = .resuming := by
  unfold accepted; decide +kernel

theorem witness_HoldJoinsAndIsAcknowledged :
    accepted 9 (req 9 []) (holding .held .acknowledged) ∧ (holding .held .acknowledged).mru.line = .run
    ∧ (holding .held .acknowledged).hld.phase = .held ∧ accepted 10 (req 10 []) (base .run) ∧ (base .run).hld.record = none
    ∧ accepted 10 (req 10 []) (holding .held .locked) ∧ (holding .held .locked).hld.record = some (holdRecord .locked []) := by
  unfold accepted; decide +kernel

/-- HELD with board 150 in the train and in the hold record. -/
def heldBoard (forced : Bool) : State :=
  withBoard { holding .held .locked with hld := { (holding .held .locked).hld with
    record := some (holdRecord .locked [⟨150, 0, .pending, .pending, false, .goOn, forced⟩]) } } (board 150 0)

theorem witness_DispositionSetWhileHeld :
    (∀ code ∈ [0, 1, 2], verdict true (requestRaw 11 (req 11 [0, 150, code])) = .toMru
      ∧ maySend (sourceOf (heldBoard false) (req 11 [0, 150, code]).src) 11 = true ∧ reqByte (req 11 [0, 150, code]) 8 = code)
    ∧ (base .run).hld.phase ≠ .held ∧ lineOf (heldBoard false) 151 = none ∧ findBoard (heldBoard false).btk.train 151 = none
    ∧ (lineOf (heldBoard true) 150).map (·.forcedRework) = some true ∧ (lineOf (heldBoard false) 150).map (·.forcedRework) = some false
    ∧ (findBoard (heldBoard false).btk.train 150).map (·.defects) = some 0 ∧ (heldBoard false).hld.phase = .held := by
  decide +kernel

/-- A state for each row of R193: not HELD; LOCKED; a hold-linked alarm; FLUX, PREHEAT and WAVE cut with a board that needs them; a pot
that is not READY with such a board; and none of them. -/
theorem witness_ResumeDecidedByItsTable :
    let h := holding .held .acknowledged
    let s := withBoard { h with tbs := { h.tbs with geometry := [(3, 3, 90000)] } } (board 150 0)
    let slot : Slot := { s.tbs.slots[(0 : SlotIx)] with bankA := ⟨true, [(1, 13, 450)], 1⟩ }
    let w := { s with tbs := { s.tbs with slots := vset s.tbs.slots 0 slot } }
    (accepted 12 (req 12 []) (base .run) ∧ (base .run).hld.phase ≠ .held)
    ∧ (accepted 12 (req 12 []) (holding .held .locked) ∧ (holding .held .locked).hld.phase = .held)
    ∧ (accepted 12 (req 12 []) (withAlarm h (A 41) .latched) ∧ holdAlarmSet (withAlarm h (A 41) .latched) (A 41) = true
        ∧ ∀ b : AlarmIx, b < A 41 → holdAlarmSet (withAlarm h (A 41) .latched) b = false)
    ∧ (groupActive (setGroup s .flux ⟨true, true, some (.request 1)⟩) .flux = true ∧ s.btk.train.any (fun b => b.disposition == .goOn && b.flux == .pending) = true)
    ∧ boardOffset s.btk.position (board 150 0) < zoneEnd s.tbs 2
    ∧ (0 < boardWaveSpeed w.tbs (board 150 0) .chip ∧ w.pot.state ≠ .ready ∧ groupActive w .wave = false)
    ∧ accepted 12 (req 12 []) h ∧ (∀ a : AlarmIx, holdAlarmSet h a = false) ∧ h.btk.train = [] ∧ groupActive h .flux = false
    ∧ (h.hld.record.map (·.lock)) = some .acknowledged := by
  unfold accepted; decide +kernel

/-- Each alarm state; a pot alarm that alone holds the pot in FAULT; and A24 with the feeder FAULTED. -/
theorem witness_AlarmAcknowledged :
    accepted 19 (req 19 [41]) (withAlarm (base .run) (A 41) .active) ∧ reqByte (req 19 [41]) 6 = (A 41).val
    ∧ (∀ x ∈ [AlarmState.clear, .pending, .active, .latched], ((withAlarm (base .run) (A 41) x).acu.alarms[A 41]).state = x)
    ∧ isPotAlarm (A 41) = false ∧ accepted 19 (req 19 [20]) (potIn (withAlarm (base .run) (A 20) .latched) .fault)
    ∧ reqByte (req 19 [20]) 6 = (A 20).val ∧ isPotAlarm (A 20) = true
    ∧ (∀ b : AlarmIx, b ≠ A 20 → isPotAlarm b = true → alarmSet (withAlarm (base .run) (A 20) .latched) b = false)
    ∧ accepted 19 (req 19 [24]) (feederIn (withAlarm (base .run) (A 24) .latched) .faulted none) ∧ reqByte (req 19 [24]) 6 = (A 24).val := by
  unfold accepted; decide +kernel

theorem witness_CutoffForcedAndCleared :
    accepted 20 (req 20 [4]) (feederIn (base .run) .feeding none) ∧ reqByte (req 20 [4]) 6 = (groupIx .feed).val
    ∧ (groupRecord (base .run) .feed).active = false ∧ accepted 20 (req 20 [5]) (setGroup (base .run) .extract ⟨true, false, some (.alarm 36)⟩)
    ∧ reqByte (req 20 [5]) 6 = (groupIx .extract).val := by
  unfold accepted; decide +kernel

theorem witness_CutoffForcedAndCleared_cleared :
    let s := setGroup (base .run) .flux ⟨true, true, some (.request 1)⟩
    (accepted 21 (req 21 [0]) (base .run) ∧ reqByte (req 21 [0]) 6 = (groupIx .flux).val ∧ groupActive (base .run) .flux = false)
    ∧ (accepted 21 (req 21 [0]) (withAlarm s (A 27) .pending) ∧ groupLink ((withAlarm s (A 27) .pending).tbs.alarms[A 27]).links .flux = true
        ∧ ((withAlarm s (A 27) .pending).acu.alarms[A 27]).state ≠ .clear)
    ∧ (accepted 21 (req 21 [0]) (withBoard s (board 150 0)) ∧ (withBoard s (board 150 0)).hld.phase ≠ .held)
    ∧ (accepted 21 (req 21 [0]) s ∧ groupActive s .flux = true ∧ s.btk.train = []
        ∧ ∀ a : AlarmIx, ¬(groupLink (s.tbs.alarms[a]).links .flux = true ∧ (s.acu.alarms[a]).state ≠ .clear)) := by
  unfold accepted; decide +kernel

/-- The level one below HIGH and at it. -/
theorem witness_FeedStartedOnRequest :
    let s (level : Int) : State := feederIn (potIn { base .run with tbs := { (base .run).tbs with
      limits := [(1, 4, 1000), (2, 4, 1235), (3, 4, 1260), (4, 4, 1400)] } } .molten) .idle (some level)
    (accepted 22 (req 22 []) (s 1259) ∧ (s 1259).pot.feeder.state = .idle ∧ (s 1259).pot.state = .molten
        ∧ groupActive (s 1259) .feed = false ∧ (s 1259).pot.level = some 1259 ∧ 1259 < levelHigh (s 1259).tbs)
    ∧ accepted 22 (req 22 []) (s 1260) ∧ ¬1260 < levelHigh (s 1260).tbs ∧ (s 1260).mru.line ≠ .unconfigured := by
  unfold accepted; decide +kernel

theorem witness_SetbackTakenAndLeft :
    (∀ l ∈ [[0], [1], [2]], verdict true (requestRaw 23 (req 23 l)) = .toMru ∧ maySend (sourceOf (base .run) (req 23 l).src) 23 = true
      ∧ [reqByte (req 23 l) 6] = l)
    ∧ accepted 23 (req 23 [1]) (potIn (base .run) .molten) ∧ belowLiquidus (potIn (base .run) .molten) = false
    ∧ anyPotAlarmSet (potIn (base .run) .molten) = false ∧ readyConditions (potIn (base .run) .molten) = false
    ∧ (base .run).pot.state = .cold ∧ accepted 23 (req 23 [0]) (potIn (base .run) .setback) ∧ (potIn (base .run) .setback).pot.state = .setback
    ∧ setbackDelay (base .run).tbs ≠ 0 := by
  unfold accepted; decide +kernel

/-! ## Witnesses: completions and timers -/

theorem witness_CompletionTaken :
    let s := feederIn (base .run) .feeding (some 1230)
    (∀ c ∈ [comp 3 16 0 50, comp 3 17 0 50, comp 3 17 1 20, comp 3 17 2 0], verdict s.lif.openCycle (completionRaw c) = .toPot)
    ∧ s.mru.line ≠ .unconfigured ∧ (comp 3 17 0 50).src = outputNode s.tbs (O 21) ∧ (comp 3 17 0 50).number = s.pot.feeder.number
    ∧ (comp 3 16 0 50).number ≠ s.pot.feeder.number ∧ settleTime s.tbs ≠ 0 ∧ (s.tbs.alarms[A 24]).masked = false
    ∧ (comp 3 17 2 0).result ≠ 0 ∧ (comp 3 17 2 0).result ≠ 1 := by decide +kernel

theorem witness_ConveyorTimersRaiseTheFault :
    let n := { base .run with btk := { Btk.reset with noMotionTimer := some 2000, v8 := some 0 } }
    let st := { holding .stopping .locked with hld := { (holding .stopping .locked).hld with stopTimer := some 2000 } }
    let re := { holding .resuming .acknowledged with hld := { (holding .resuming .acknowledged).hld with resumeTimer := some 3000 } }
    let masked (s : State) : State := withEntry s (A 41) ⟨.hard, true, 0, 0⟩
    ((base .run).btk.noMotionTimer = none ∧ (base .run).hld.stopTimer = none ∧ (base .run).hld.resumeTimer = none)
    ∧ (n.btk.noMotionTimer ≠ none ∧ raisesConveyorFault n ∧ raisesConveyorFault (withAlarm n (A 41) .latched)
        ∧ holdLink (n.tbs.alarms[A 41]).links = true ∧ lineTakesHolds n = true ∧ n.hld.phase = .none)
    ∧ (st.hld.stopTimer ≠ none ∧ st.hld.phase = .stopping ∧ lineTakesHolds st = true ∧ raisesConveyorFault st ∧ st.btk.v8 = none)
    ∧ (re.hld.resumeTimer ≠ none ∧ re.hld.phase = .resuming ∧ raisesConveyorFault re ∧ lineTakesHolds re = true)
    ∧ ((masked n).tbs.alarms[A 41]).masked = true ∧ (masked n).btk.v8 ≠ none := by
  unfold raisesConveyorFault; decide +kernel

theorem witness_PotTimersExpire :
    let p (x : PotState) : State := potIn { base .run with pot := { Pot.reset with meltTimer := some 1000, setbackTimer := some 60000 } } x
    ((base .run).pot.meltTimer = none ∧ (base .run).pot.setbackTimer = none ∧ (base .run).pot.feeder.feedTimer = none
        ∧ (base .run).pot.feeder.settleTimer = none)
    ∧ ((p .melting).pot.meltTimer ≠ none ∧ (p .melting).mru.line ≠ .unconfigured ∧ (p .melting).pot.state = .melting
        ∧ belowLiquidus (p .melting) = false ∧ anyPotAlarmSet (p .melting) = false)
    ∧ ((p .molten).pot.setbackTimer ≠ none ∧ (p .molten).pot.state = .molten ∧ readyConditions (p .molten) = false)
    ∧ ((feederIn (base .run) .feeding none).pot.feeder.feedTimer ≠ none
        ∧ (feederIn (base .run) .feeding none).pot.feeder.state = .feeding ∧ ((base .run).tbs.alarms[A 24]).masked = false)
    -- judged and effective at a rise of 10 (20 is not below 20), judged and ineffective at 9, and not judged
    ∧ (∀ level ∈ [1239, 1240], (settling level).pot.feeder.settleTimer ≠ none ∧ (settling level).pot.feeder.aborted = false
        ∧ ((level - 1230) * 2 < Int.tdiv (risePerGram (settling level).tbs * (settling level).pot.feeder.delivered) 10 ↔ level = 1239))
    ∧ (settling 1240).pot.level ≠ none ∧ ((base .run).tbs.alarms[A 23]).masked = false
    ∧ (settling 1239).pot.feeder.state = .settling ∧ (settling 1239).pot.feeder.ineffective < 2 := by decide +kernel

theorem witness_GraceTimersExpire :
    let pump := setOutputRecord { base .run with pot := { Pot.reset with chip := { Pump.reset with grace := some 1000 } } } (O 17)
      { automatic := 400, manual := none, held := 0, delivered := 400 }
    let fan (s : State) : State := setDuct s .one { DuctRecord.reset with grace := some 4000 }
    let masked (s : State) : State :=
      { s with tbs := { s.tbs with alarms := Vector.ofFn fun a => { s.tbs.alarms[a] with masked := true } } }
    ((pumpOf (base .run).pot .chip).grace = none ∧ (ductOf (base .run).exm .one).grace = none)
    ∧ ((pumpOf pump.pot .chip).grace ≠ none ∧ ((masked pump).tbs.alarms[A 25]).masked = true)
    ∧ (0 < (outputRecord pump (pumpOutput .chip)).delivered ∧ (pumpOf pump.pot .chip).atSpeed = false
        ∧ ((withAlarm pump (A 25) .latched).tbs.alarms[A 25]).masked = false
        ∧ ((withAlarm pump (A 25) .latched).acu.alarms[A 25]).state = .latched
        ∧ ((withEntry pump (A 25) ⟨.hard, false, 0, 0⟩).tbs.alarms[A 25]).delay = 0 ∧ (pump.acu.alarms[A 25]).state = .clear)
    ∧ ((ductOf (fan (base .unconfigured)).exm .one).grace ≠ none ∧ (fan (base .unconfigured)).mru.line = .unconfigured)
    ∧ (∀ a : AlarmIx, ((masked (fan (base .run))).tbs.alarms[a]).masked = true)
    -- each condition of duct 1 as the first true one, with its alarm LATCHED; and none of them
    ∧ (let stale (i : SigIx) (s : State) : State :=
         { s with sig := vset s.sig i { s.sig[i] with freshness := .stale, status := some .good } }
       let high (i : SigIx) (s : State) : State :=
         { s with sig := vset s.sig i { s.sig[i] with freshness := .fresh, status := some .good, lastGood := some 501 } }
       (stale (ductSignalOf .one .airflow) (base .run)).sig[ductSignalOf .one .airflow].freshness = .stale
       ∧ maximumFilterPressure (base .run).tbs .one < ((high (ductSignalOf .one .filter) (base .run)).sig[ductSignalOf .one .filter]).lastGood.getD 0
       ∧ ((stale (ductSignalOf .one .fanFault) (base .run)).sig[ductSignalOf .one .fanFault]).freshness = .stale
       ∧ (∀ x ∈ [DuctCondition.airflow, .filter, .fanFault],
           ((withAlarm (base .run) (ductAlarm .one x) .latched).acu.alarms[ductAlarm .one x]).state = .latched
           ∧ ((base .run).tbs.alarms[ductAlarm .one x]).masked = false
           ∧ ((base .run).sig[ductSignalOf .one x]).freshness = .noData)) := by decide +kernel

end Sys2Proof.Tests
end

section
/-! The process loop (01): the part's own CYCLE_END (R3), and the one REPLY that every REQUEST with room is given (R11). -/

namespace Sys2Proof.Machine

/-! ## CYCLE_END (R3, R4) -/

/-- R4, row 2: the part's own CYCLE_END is told by its KIND and its SRC, whether a cycle is open or not. -/
theorem verdict_cycleEnd (openCycle : Bool) (c : CycleEndCell) (hsrc : c.src = 0) (hcheck : c.check = checkOf (cycleEndRaw c)) :
    verdict openCycle (cycleEndRaw c) = .ownCycleEnd := by
  have hc : ¬(cycleEndRaw c).check ≠ checkOf (cycleEndRaw c) := not_not.mpr hcheck
  have hk : (cycleEndRaw c).kind = kindCycleEnd ∧ (cycleEndRaw c).src = 0 := ⟨rfl, hsrc⟩
  rw [verdict, if_neg hc, if_pos hk]

/-- A CYCLE_END that R4 gives to LIF closes a cycle or is counted (R3). -/
theorem exec_cycleEnd_own {c : CycleEndCell} {s : State} (hv : verdict s.lif.openCycle (cycleEndRaw c) = .ownCycleEnd) :
    exec (.cycleEnd c) s = .next (closeCycle c.cycle s) := by
  have h : takeCycleEnd c s = closeCycle c.cycle s := if_pos hv
  exact congrArg Host.Outcome.next h

/-- Settles O17: the verdict of R4 gives the cell to LIF, and LIF's two outcomes are those of R3. -/
theorem cycleEndClosesOrCounts : Obligations.CycleEndClosesOrCounts := by
  intro c s hsrc hcheck
  rw [exec_cycleEnd_own (verdict_cycleEnd s.lif.openCycle c hsrc hcheck), closeCycle]
  split <;> rfl

/-! ## Hand-overs that spare the message queue (R11)

A CHANNEL commit hands stale notices, which `quiet` leaves out; what those make is quiet again. So no hand-over of a request
comes to the retirement of a board, whose report would join the queue before the reply. -/

/-- The hand-over is a stale notice of a signal, as a CHANNEL commit gives it to the signal's users (R19). -/
def silentNotice : Task → Bool
  | .loopSilent _ _ | .potTemperature | .pyrometerSilent | .encoderSilent | .boardSensorSilent _ | .levelSilent | .fluxTank
  | .pumpFeedbackSilent _ => true
  | _ => false

/-- The hand-over is a stale notice, or follows from other hand-overs alone. -/
def sparesMessages (t : Task) : Bool := quiet t || silentNotice t

theorem sparesMessages_iff (t : Task) : sparesMessages t = true ↔ quiet t = true ∨ silentNotice t = true :=
  Bool.or_eq_true_iff

theorem all_spares_of_quiet {l : List Task} (h : l.all quiet = true) : l.all sparesMessages = true :=
  List.all_eq_true.mpr fun t ht => (sparesMessages_iff t).mpr (.inl (List.all_eq_true.mp h t ht))

theorem loopSilent_quiet (l : LoopIx) (i : SigIx) (s : State) : (loopSilent l i s).2.all quiet = true := by
  unfold loopSilent
  (repeat' split) <;> rfl

/-- What POT does is quiet where its own effect is: an idle POT hands nothing. -/
theorem potActs_quiet (s : State) {e : Effect} (h : e.2.all quiet = true) : (potActs s e).2.all quiet = true := by
  unfold potActs
  split
  · rfl
  · exact h

theorem setLevel_quiet (w : List Int) (l : Option Int) (s : State) : (setLevel w l s).2.all quiet = true := by
  unfold setLevel
  refine all_quiet_append ?_ rfl
  split <;> rfl

/-- A stale notice makes only hand-overs that follow from other hand-overs alone. -/
theorem handle_silentNotice_quiet (t : Task) (s : State) (h : silentNotice t = true) : (handle t s).2.all quiet = true := by
  cases t
  case loopSilent l i => exact loopSilent_quiet l i s
  case potTemperature => exact potActs_quiet s rfl
  case pyrometerSilent => exact all_quiet_map _ (fun _ => rfl) _
  case encoderSilent => rfl
  case boardSensorSilent exit => rfl
  case levelSilent => exact potActs_quiet s (setLevel_quiet [] none s)
  case fluxTank => rfl
  case pumpFeedbackSilent w => exact potActs_quiet s rfl
  all_goals cases h

/-- LIF is no user of a signal. -/
theorem lif_not_touched_of_silentNotice (t : Task) (h : silentNotice t = true) : Block.lif ∉ touched t := by
  cases t
  case loopSilent | potTemperature | pyrometerSilent | encoderSilent | boardSensorSilent | levelSilent | fluxTank
      | pumpFeedbackSilent => simp [touched]
  all_goals cases h

theorem Undisturbed.messageQueue {s t : State} (h : Undisturbed s t) : t.lif.messageQueue = s.lif.messageQueue := by
  obtain ⟨-, -, -, hlif, -⟩ := h
  rw [hlif]

theorem handle_spares_messages (t : Task) (s : State) (h : sparesMessages t = true) :
    (handle t s).1.lif.messageQueue = s.lif.messageQueue := by
  rcases (sparesMessages_iff t).mp h with hq | hn
  · exact (handle_undisturbed t s hq).messageQueue
  · have hlif : (handle t s).1.lif = s.lif := (handle_touches t s).same .lif (lif_not_touched_of_silentNotice t hn)
    rw [hlif]

theorem handle_spares_emits (t : Task) (s : State) (h : sparesMessages t = true) :
    (handle t s).2.all sparesMessages = true := by
  rcases (sparesMessages_iff t).mp h with hq | hn
  · exact all_spares_of_quiet (handle_quiet t s hq)
  · exact all_spares_of_quiet (handle_silentNotice_quiet t s hn)

/-- An event of such hand-overs leaves the message queue as it is, even where it is given up. -/
theorem run_spares_messages (s : State) (ts : List Task) (h : ts.all sparesMessages = true) :
    (run s ts).lif.messageQueue = s.lif.messageQueue :=
  settle_keeps (P := fun u => u.lif.messageQueue = s.lif.messageQueue) (Q := fun t => sparesMessages t = true)
    (fun t u ht hu => (handle_spares_messages t u ht).trans hu)
    (fun t u ht _ => List.all_eq_true.mp (handle_spares_emits t u ht)) (fun _ hu => hu) _ ts s (List.all_eq_true.mp h) rfl

/-! ## Decisions that leave the message queue to their reply -/

/-- What a request comes to leaves the message queue as it was, in its own effect and in all that follows from it. -/
structure LeavesMessages (s : State) (d : Decision) : Prop where
  queue : d.state.lif.messageQueue = s.lif.messageQueue
  tasks : d.tasks.all sparesMessages = true

namespace LeavesMessages

variable {s : State}

/-- The answer to such a request is one REPLY at the tail of the queue as it was (R11). -/
theorem answer_queue {d : Decision} (r : ReqCell) (h : LeavesMessages s d) :
    ∃ status data, (answer r d).lif.messageQueue = s.lif.messageQueue ++ [.reply r.src r.tag status data] :=
  ⟨d.status, d.data (run d.state d.tasks), by
    rw [answer, pushReply_lif_messageQueue, run_spares_messages _ _ h.tasks, h.queue]⟩

theorem of_quiet {d : Decision} (hs : d.state.lif.messageQueue = s.lif.messageQueue) (ht : d.tasks.all quiet = true) :
    LeavesMessages s d := ⟨hs, all_spares_of_quiet ht⟩

theorem of_refuse (status : ReplyStatus) : LeavesMessages s (refuse status s) := of_quiet rfl rfl

theorem of_taken (data : State → List Byte) : LeavesMessages s (taken data s) := of_quiet rfl rfl

theorem of_ite {p : Prop} [Decidable p] {d e : Decision} (h : LeavesMessages s d) (k : LeavesMessages s e) :
    LeavesMessages s (if p then d else e) := by split <;> assumption

theorem of_moveLine (l : LineState) {after : List Task} (h : after.all quiet = true) : LeavesMessages s (moveLine l after s) :=
  of_quiet rfl h

theorem of_inHoldLines {d : Decision} (h : LeavesMessages s d) : LeavesMessages s (inHoldLines s d) := of_ite h (of_refuse _)

end LeavesMessages

/-! ### The table requests (04) -/

theorem stage_leavesMessages (r : ReqCell) (s : State) : LeavesMessages s (decideStage r s) := by
  unfold decideStage
  dsimp only
  split
  · exact .of_refuse _
  · split
    · exact .of_refuse _
    · exact .of_ite (.of_refuse _) (.of_ite (.of_refuse _) (.of_quiet rfl rfl))

theorem silentTasks_spare (i : SigIx) : (silentTasks i).all sparesMessages = true := by
  unfold silentTasks
  dsimp only
  (repeat' split) <;> rfl

theorem applyEntry_quiet (a : AlarmIx) (new : AlarmEntry) (s : State) : (applyEntry a new s).2.all quiet = true := by
  unfold applyEntry
  extract_lets old r next r' s' set
  refine all_quiet_append (all_quiet_append (changeTasks_quiet ..) ?_) ?_
  · split
    · exact all_quiet_map _ (fun _ => rfl) _
    · rfl
  · split <;> rfl

theorem channelCommitted_lif (old : Tbs) (s : State) : (channelCommitted old s).1.lif = s.lif := by simp only [channelCommitted]

/-- The write of an entry leaves LIF as it is (R49, step 8). -/
theorem writeEntry_lif (k : TableKind) (index : Nat) (staged m : FieldMap) (s : State) :
    (writeEntry k index staged m s).1.lif = s.lif := by
  cases k with
  | channel => exact channelCommitted_lif ..
  | output | geometry | line | limits | tuning | alarm | recipe => rfl

theorem writeEntry_spares (k : TableKind) (index : Nat) (staged m : FieldMap) (s : State) :
    (writeEntry k index staged m s).2.all sparesMessages = true := by
  cases k with
  | channel =>
    refine List.all_eq_true.mpr fun t ht => ?_
    obtain ⟨i, -, hi⟩ := List.mem_flatMap.mp ht
    exact List.all_eq_true.mp (silentTasks_spare i) t hi
  | output => exact all_spares_of_quiet (all_quiet_map _ (fun o => by split <;> rfl) _)
  | line =>
    unfold writeEntry
    dsimp only
    split <;> rfl
  | alarm => exact all_spares_of_quiet (applyEntry_quiet ..)
  | geometry | limits | tuning | recipe => rfl

theorem commitEntry_leavesMessages (k : TableKind) (index : Nat) (staged m : FieldMap) (s : State) :
    LeavesMessages s (commitEntry k index staged m s) where
  queue := congrArg Lif.messageQueue (writeEntry_lif ..)
  tasks := by
    simp only [commitEntry, List.all_append, writeEntry_spares]
    rfl

theorem commitStaged_leavesMessages (k : TableKind) (index : Nat) (s : State) :
    LeavesMessages s (commitStaged k index s) := by
  unfold commitStaged
  split
  · exact .of_refuse _
  · exact .of_ite (.of_refuse _) (.of_ite (.of_refuse _) (.of_ite (.of_refuse _) (commitEntry_leavesMessages ..)))

theorem commit_leavesMessages (r : ReqCell) (s : State) : LeavesMessages s (decideCommit r s) := by
  unfold decideCommit
  split
  · exact .of_refuse _
  · refine .of_ite (.of_refuse _) ?_
    split
    · exact .of_refuse _
    · exact commitStaged_leavesMessages ..

theorem discard_leavesMessages (r : ReqCell) (s : State) : LeavesMessages s (decideDiscard r s) := by
  unfold decideDiscard
  split
  · exact .of_refuse _
  · exact .of_quiet rfl rfl

theorem read_leavesMessages (r : ReqCell) (s : State) : LeavesMessages s (decideRead r s) := by
  unfold decideRead
  split
  · exact .of_refuse _
  · exact .of_taken _

theorem removeRecipe_leavesMessages (r : ReqCell) (s : State) : LeavesMessages s (decideRemoveRecipe r s) :=
  .of_ite (.of_refuse _) (.of_quiet rfl rfl)

theorem lockLimits_leavesMessages (r : ReqCell) (s : State) : LeavesMessages s (decideLockLimits r s) :=
  .of_ite (.of_refuse _) (.of_quiet rfl rfl)

/-! ### The line requests (03) -/

theorem start_leavesMessages (r : ReqCell) (s : State) : LeavesMessages s (decideStart r s) := by
  unfold decideStart
  split
  · exact .of_ite (.of_refuse _) (.of_moveLine _ rfl)
  · exact .of_taken _
  all_goals exact .of_refuse _

theorem stop_leavesMessages (r : ReqCell) (s : State) : LeavesMessages s (decideStop r s) := by
  unfold decideStop
  split
  · exact .of_moveLine _ rfl
  · exact .of_taken _
  all_goals exact .of_refuse _

theorem selectNext_leavesMessages (r : ReqCell) (s : State) : LeavesMessages s (decideSelectNext r s) :=
  .of_ite (.of_refuse _) (.of_ite (.of_refuse _) (.of_quiet rfl rfl))

theorem setSpeed_leavesMessages (r : ReqCell) (s : State) : LeavesMessages s (decideSetSpeed r s) :=
  .of_ite (.of_refuse _) (.of_quiet rfl rfl)

theorem enterMaintenance_leavesMessages (r : ReqCell) (s : State) : LeavesMessages s (decideEnterMaintenance r s) := by
  unfold decideEnterMaintenance
  split
  · exact .of_ite (.of_moveLine _ rfl) (.of_refuse _)
  · exact .of_taken _
  all_goals exact .of_refuse _

theorem leaveMaintenance_leavesMessages (r : ReqCell) (s : State) : LeavesMessages s (decideLeaveMaintenance r s) := by
  unfold decideLeaveMaintenance
  split
  · exact .of_quiet rfl (all_quiet_append (all_quiet_map _ (fun _ => rfl) _) rfl)
  · exact .of_taken _
  all_goals exact .of_refuse _

theorem setOutputValue_leavesMessages (o : OutIx) (r : ReqCell) (s : State) : LeavesMessages s (setOutputValue o r s) :=
  .of_ite (.of_quiet rfl rfl) (.of_ite (.of_refuse _) (.of_ite (.of_refuse _) (.of_quiet rfl rfl)))

theorem setOutput_leavesMessages (r : ReqCell) (s : State) : LeavesMessages s (decideSetOutput r s) :=
  .of_ite (.of_refuse _) (.of_ite (.of_refuse _) (setOutputValue_leavesMessages ..))

theorem restartTasks_quiet (line : LineState) : (restartTasks line).all quiet = true := by
  unfold restartTasks
  refine all_quiet_append (all_quiet_append (all_quiet_append (all_quiet_append (all_quiet_append (all_quiet_append
    (all_quiet_append (all_quiet_append rfl ?_) rfl) ?_) ?_) ?_) rfl) ?_) rfl
  case refine_3 => split <;> rfl
  all_goals exact all_quiet_map _ (fun _ => rfl) _

theorem restart_leavesMessages (r : ReqCell) (s : State) : LeavesMessages s (decideRestart r s) :=
  .of_ite (.of_quiet rfl (restartTasks_quiet _)) (.of_refuse _)

/-! ### The hold requests (12) -/

theorem hold_leavesMessages (r : ReqCell) (s : State) : LeavesMessages s (decideHold r s) := .of_inHoldLines (.of_quiet rfl rfl)

theorem ackHold_leavesMessages (r : ReqCell) (s : State) : LeavesMessages s (decideAckHold r s) := by
  refine .of_inHoldLines ?_
  split
  · exact .of_refuse _
  · exact .of_quiet rfl rfl

theorem setDispositionOf_leavesMessages (n : BoardNo) (code : Nat) (l : BoardLine) (b : Board) (s : State) :
    LeavesMessages s (setDispositionOf n code l b s) :=
  .of_ite (.of_quiet rfl rfl) (.of_ite (.of_refuse _) (.of_ite (.of_refuse _) (.of_quiet rfl rfl)))

theorem setDisposition_leavesMessages (r : ReqCell) (s : State) : LeavesMessages s (decideSetDisposition r s) := by
  refine .of_inHoldLines (.of_ite (.of_refuse _) ?_)
  split
  · exact setDispositionOf_leavesMessages ..
  · exact .of_refuse _

theorem resume_leavesMessages (r : ReqCell) (s : State) : LeavesMessages s (decideResume r s) :=
  .of_inHoldLines (.of_ite (.of_quiet rfl rfl) (.of_quiet rfl rfl))

/-! ### The requests that ACU and POT own (11, 09) -/

theorem ackTasks_quiet (a : AlarmIx) : (ackTasks a).all quiet = true := by
  unfold ackTasks
  split <;> rfl

/-- What an acknowledged alarm comes to (R175): its state alone, and quiet hand-overs. -/
theorem acknowledged_spares (a : AlarmIx) (s : State) :
    (acknowledged a s).1.lif = s.lif ∧ (acknowledged a s).2.all quiet = true := by
  unfold acknowledged
  dsimp only
  split
  · exact ⟨rfl, clearTasks_quiet ..⟩
  · exact ⟨rfl, rfl⟩

theorem ackAlarm_leavesMessages (r : ReqCell) (s : State) : LeavesMessages s (decideAckAlarm r s) := by
  refine .of_ite (.of_refuse _) ?_
  obtain ⟨hlif, hq⟩ := acknowledged_spares (A (reqByte r 6)) s
  split
  · exact .of_quiet (congrArg Lif.messageQueue hlif) (all_quiet_append hq (ackTasks_quiet _))
  · exact .of_quiet rfl (ackTasks_quiet _)
  all_goals exact .of_refuse _

theorem forceCutoff_leavesMessages (r : ReqCell) (s : State) : LeavesMessages s (decideForceCutoff r s) := by
  unfold decideForceCutoff
  split
  · exact .of_refuse _
  · exact .of_quiet rfl rfl

theorem clearCutoff_leavesMessages (r : ReqCell) (s : State) : LeavesMessages s (decideClearCutoff r s) := by
  unfold decideClearCutoff
  split
  · exact .of_refuse _
  · exact .of_ite (.of_taken _) (.of_ite (.of_refuse _) (.of_ite (.of_refuse _) (.of_quiet rfl rfl)))

theorem feedNow_leavesMessages (r : ReqCell) (s : State) : LeavesMessages s (decideFeedNow r s) :=
  .of_ite (.of_refuse _) (.of_ite (.of_quiet (startFeed_undisturbed s).messageQueue rfl) (.of_refuse _))

theorem setbackOn_leavesMessages (s : State) : LeavesMessages s (setbackOn s) := by
  unfold setbackOn
  split
  · exact .of_quiet rfl rfl
  · exact .of_quiet rfl rfl
  · exact .of_taken _
  all_goals exact .of_refuse _

theorem setbackOff_leavesMessages (s : State) : LeavesMessages s (setbackOff s) := .of_ite (.of_quiet rfl rfl) (.of_taken _)

theorem setback_leavesMessages (r : ReqCell) (s : State) : LeavesMessages s (decideSetback r s) :=
  .of_ite (.of_refuse _) (.of_ite (setbackOff_leavesMessages s) (.of_ite (setbackOn_leavesMessages s) (.of_refuse _)))

/-! ## Every request (R11, R30) -/

/-- Whatever the request, its owner's rule leaves the message queue to the reply. -/
theorem decideByCode_leavesMessages (code : Nat) (r : ReqCell) (s : State) : LeavesMessages s (decideByCode code r s) := by
  unfold decideByCode
  split
  · exact stage_leavesMessages r s
  · exact commit_leavesMessages r s
  · exact discard_leavesMessages r s
  · exact read_leavesMessages r s
  · exact removeRecipe_leavesMessages r s
  · exact lockLimits_leavesMessages r s
  · exact start_leavesMessages r s
  · exact stop_leavesMessages r s
  · exact hold_leavesMessages r s
  · exact ackHold_leavesMessages r s
  · exact setDisposition_leavesMessages r s
  · exact resume_leavesMessages r s
  · exact selectNext_leavesMessages r s
  · exact setSpeed_leavesMessages r s
  · exact enterMaintenance_leavesMessages r s
  · exact leaveMaintenance_leavesMessages r s
  · exact setOutput_leavesMessages r s
  · exact restart_leavesMessages r s
  · exact ackAlarm_leavesMessages r s
  · exact forceCutoff_leavesMessages r s
  · exact clearCutoff_leavesMessages r s
  · exact feedNow_leavesMessages r s
  · exact setback_leavesMessages r s
  · exact .of_refuse _

/-- The tests of R30 add refusals only. -/
theorem decideRequest_leavesMessages (code : Word16) (r : ReqCell) (s : State) {decide' : ReqCell → State → Decision}
    (h : LeavesMessages s (decide' r s)) : LeavesMessages s (decideRequest code r decide' s) :=
  .of_ite (.of_refuse _) (.of_ite h (.of_refuse _))

/-- Every request command is served under its code by the rule of that code (01 1.8, R32). -/
theorem exec_of_requestOf {c : Instr} {code : Word16} {r : ReqCell} (s : State) (h : requestOf c = some (code, r)) :
    exec c s = .next (serve code r (decideByCode code.toNat) s) := by
  cases c <;> cases h <;> rfl

/-- A REQUEST that passes the tests of R4 and finds room is answered by MRU's decision (R11). -/
theorem serve_room {code : Word16} {r : ReqCell} {s : State} (d : ReqCell → State → Decision)
    (hv : verdict s.lif.openCycle (requestRaw code r) = .toMru) (hroom : s.lif.messageQueue.length < messageRoom) :
    serve code r d s = answer r (decideRequest code r d s) := by
  simp only [serve, hv, ↓reduceIte, if_neg (Nat.not_le.mpr hroom)]

/-- Settles O22: with a full queue by `serve_full`; with room the decision leaves the queue to its reply. -/
theorem requestsAnsweredAtTheirArrival : Obligations.RequestsAnsweredAtTheirArrival := by
  intro c code r s hreq hv
  rw [exec_of_requestOf s hreq]
  refine ⟨fun hfull => ?_, fun hroom => ?_⟩
  · rw [serve_full _ hv hfull]
    rfl
  · rw [serve_room _ hv hroom]
    obtain ⟨status, data, hqueue⟩ :=
      (decideRequest_leavesMessages code r s (decideByCode_leavesMessages code.toNat r s)).answer_queue r
    exact ⟨_, status, data, rfl, hqueue⟩

end Sys2Proof.Machine
end

section
/-! Signals (02 2.1): the valid values of a numbered signal, and the status of a sample arrival (R16). -/

namespace Sys2Proof.Machine

/-! ## Numbered signals -/

/-- Signals are numbered from 1 and indexed from 0. -/
theorem S_val {n : Nat} (h1 : 1 ≤ n) (h23 : n ≤ 23) : (S n).val = n - 1 :=
  Nat.mod_eq_of_lt (by omega)

theorem S_eq_iff {n m : Nat} (hn1 : 1 ≤ n) (hn23 : n ≤ 23) (hm1 : 1 ≤ m) (hm23 : m ≤ 23) : S n = S m ↔ n = m := by
  rw [Fin.ext_iff, S_val hn1 hn23, S_val hm1 hm23]
  omega

/-! ## Readings and valid values (02 2.1) -/

/-- The temperatures S1 to S9 are read as signed, the other signals as unsigned. -/
theorem reading_S {n : Nat} (h1 : 1 ≤ n) (h23 : n ≤ 23) (v : Word16) :
    reading (S n) v = if n ≤ 9 then v.toInt else (v.toNat : Int) := by
  have hlt : n - 1 < 9 ↔ n ≤ 9 := by omega
  simp only [reading, signedReading, S_val h1 h23, decide_eq_true_eq, hlt]

/-- The rows of the table of 2.1, by the number of the signal. -/
theorem validValue_S {n : Nat} (h1 : 1 ≤ n) (h23 : n ≤ 23) (x : Int) :
    validValue (S n) x = true ↔
      if n ≤ 9 then -500 ≤ x ∧ x ≤ 6000
      else if n = 11 ∨ n = 12 ∨ n = 23 then 0 ≤ x ∧ x ≤ 1
      else if n = 14 then 0 ≤ x ∧ x ≤ 1000
      else 0 ≤ x ∧ x ≤ 65535 := by
  have hlt : n - 1 < 9 ↔ n ≤ 9 := by omega
  simp (disch := omega) only [validValue, S_val h1 h23, S_eq_iff h1 h23, hlt]
  split_ifs <;> exact decide_eq_true_iff

/-! ## The status of an arrival (R16) -/

/-- Code 0 leaves the status to the value. -/
theorem arrivalStatus_zero (i : SigIx) (v : Word16) :
    arrivalStatus i 0 v = if validValue i (reading i v) = true then .good else .range := rfl

theorem arrivalStatus_one (i : SigIx) (v : Word16) : arrivalStatus i 1 v = .openWire := rfl

theorem arrivalStatus_of_two_le (i : SigIx) {code : Nat} (h : 2 ≤ code) (v : Word16) : arrivalStatus i code v = .range := by
  rw [arrivalStatus, if_neg (by omega), if_neg (by omega)]

/-- Settles O24: the bounds of the table that the statement leaves out are those that every unsigned word meets. -/
theorem arrivalStatusDecided : Obligations.ArrivalStatusDecided := by
  intro n code v h1 h23 x within
  have hword : v.toNat ≤ 65535 := Nat.le_of_lt_succ v.isLt
  have hvalid : validValue (S n) (reading (S n) v) = true ↔ within := by
    rw [reading_S h1 h23, validValue_S h1 h23]
    by_cases htemperature : n ≤ 9
    · simp only [within, x, if_pos htemperature]
    · simp only [within, x, if_neg htemperature]
      split_ifs
      · omega
      · omega
      · exact iff_true_intro (by omega)
  refine ⟨?_, ?_, ?_, fun hcode => arrivalStatus_of_two_le _ (by omega) v⟩
  · rintro rfl hwithin
    rw [arrivalStatus_zero, if_pos (hvalid.mpr hwithin)]
  · rintro rfl houtside
    rw [arrivalStatus_zero, if_neg (mt hvalid.mp houtside)]
  · rintro rfl
    exact arrivalStatus_one _ v

end Sys2Proof.Machine
end

section
/-! Tables and recipes (04): what a DISCARD comes to (R48). -/

namespace Sys2Proof.Machine

/-- The code of the table that a code names is that code (R46). -/
theorem tableCode_of_tableOfCode {n : Nat} {k : TableKind} (h : tableOfCode n = some k) : tableCode k = n := by
  unfold tableOfCode at h
  split at h <;> cases h <;> rfl

/-! ## DISCARD (R48) -/

/-- The answer to a DISCARD of a writable table: the buffer is emptied first, and nothing follows from that. -/
theorem answer_decideDiscard {r : ReqCell} {k : TableKind} (s : State) (hk : tableOfCode (reqByte r 6) = some k) :
    answer r (decideDiscard r s) =
      pushReply r.src r.tag .ok (replyData [(5, lineStateCode s.mru.line), (6, reqByte r 6)]) (setStaging s k none) := by
  simp only [answer, decideDiscard, hk, run_nil, lineByte, setStaging_mru_line, tableCode_of_tableOfCode hk]

theorem exec_discard {r : ReqCell} {s : State} {k : TableKind} (ha : accepted 3 r s) (hk : tableOfCode (reqByte r 6) = some k) :
    exec (.discard r) s = .next (pushReply r.src r.tag .ok
      (replyData [(5, lineStateCode s.mru.line), (6, reqByte r 6)]) (setStaging s k none)) := by
  have hserve : exec (.discard r) s = .next (serve 3 r decideDiscard s) := rfl
  rw [hserve, serve_accepted _ ha, answer_decideDiscard s hk]

/-- Settles O38: the accepted DISCARD sets one staging buffer and replies; the reply leaves the buffers. -/
theorem discardEmptiesTheBuffer : Obligations.DiscardEmptiesTheBuffer := by
  intro r s k ha hk
  exact ⟨_, exec_discard ha hk, rfl, stagingOf_setStagingOf .., fun _ hj => stagingOf_setStagingOf_other _ none hj⟩

end Sys2Proof.Machine
end


section
/-! What each command comes to, said once: a count of LIF, or an event that begins with an effect of a block and is carried out hand-over by
hand-over. An invariant of every step is then one property of these beginnings and one of the hand-overs. -/

namespace Sys2Proof.Machine

/-! ## What a command begins with -/

/-- LIF counts a discarded cell or a dropped request, or closes the open cycle (R3, R4, R11). -/
inductive Counted (s : State) : State → Prop
  | discard (v : Verdict) : Counted s (countDiscard v s)
  | close (cycle : Word32) : Counted s (closeCycle cycle s)
  | dropped : Counted s (countDropped s)

/-- The beginnings of the events of the part: one for each way in which a command has an effect of its own. -/
inductive Beginning where
  | cycleStart | blockComplete
  | sample (x : SampleCell)
  | completion (src number result : Byte) (quantity : Nat)
  | staleTimer (i : SigIx)
  | noMotionTimer | meltTimer | setbackTimer
  | pumpGrace (w : Wave)
  | feedTimer | settleTimer
  | fanGrace (d : Duct)
  | stopTimer | resumeTimer
  | noEffect
  | stage (k : TableKind) (index item field : Nat) (v : Int)
  | discard (k : TableKind)
  | commit (r : ReqCell) (k : TableKind) (index : Nat) (b : StagingBuffer)
  | removeRecipe (i : SlotIx)
  | lockLimits
  | start (r : ReqCell) | stop (r : ReqCell) | enterMaintenance (r : ReqCell) | leaveMaintenance
  | hold (x : Cause)
  | ackHold
  | rework (n : BoardNo) | goOn (n : BoardNo)
  | resume
  | selectNext (i : SlotIx)
  | setSpeed (v : Nat)
  | setOutput (o : OutIx) (v : Option Nat)
  | restart
  | ackLatched (r : ReqCell) (a : AlarmIx) | ackClear (a : AlarmIx)
  | forceCutoff (g : Group) (x : Cause) | clearCutoff (g : Group)
  | feedNow
  | setback (why : PotEvent)

/-- The record of the hold acknowledged (R191). -/
def acknowledgeHold (s : State) : State :=
  { s with hld := { s.hld with record := s.hld.record.map fun x => { x with lock := .acknowledged } } }

/-- The decision of a COMMIT that is taken, from the buffer and the committed entry (R49). -/
def commitTaken (k : TableKind) (index : Nat) (b : StagingBuffer) (s : State) : Decision :=
  commitEntry k index b.fields (candidateFields (committedFields s.tbs k index) b.fields) s

/-- The state that a beginning's own effect leaves, and the hand-overs it makes. -/
def Beginning.effect (s : State) : Beginning → Effect
  | .cycleStart => (s, cycleStartTasks)
  | .blockComplete => (s, [.blockComplete])
  | .sample x => (s, sampleTasks x)
  | .completion src number result quantity => takeCompletion src number result quantity s
  | .staleTimer i => staleExpiry i s
  | .noMotionTimer => noMotionExpiry s
  | .meltTimer => meltDwellExpiry s
  | .setbackTimer => setbackExpiry s
  | .pumpGrace w => pumpGraceExpiry w s
  | .feedTimer => feedExpiry s
  | .settleTimer => settleOver s
  | .fanGrace d => fanGraceOver d s
  | .stopTimer => stopExpiry s
  | .resumeTimer => resumeExpiry s
  | .noEffect => (s, [])
  | .stage k index item field v =>
      (setStaging s k (some (stageField (stagingOf s.mru.staging k) index item field v).1), [])
  | .discard k => (setStaging s k none, [])
  | .commit _ k index b => ((commitTaken k index b s).state, (commitTaken k index b s).tasks)
  | .removeRecipe i =>
      ({ s with tbs := { s.tbs with slots := vset s.tbs.slots i (removedSlot s.tbs.slots[i]) } }, [.admission])
  | .lockLimits => ({ s with mru := { s.mru with limitsLock := true } }, [])
  | .start _ => (setLine s .run, [.lineTold s.mru.line])
  | .stop _ => (setLine s .draining, [.lineTold s.mru.line, .drainingTest])
  | .enterMaintenance _ => (setLine s .maintenance, [.lineTold s.mru.line])
  | .leaveMaintenance =>
      (setLine (releaseManual s) .standby, allOutputs.map Task.formDelivered ++ [.lineTold .maintenance])
  | .hold x => (s, [.holdCause x])
  | .ackHold => (acknowledgeHold s, [])
  | .rework n => (s, [.disposition n .rework])
  | .goOn n => (s, [.disposition n .goOn])
  | .resume => (resumed s, [.phaseTold])
  | .selectNext i => ({ s with mru := { s.mru with nextSlot := i } }, [.admission])
  | .setSpeed v => ({ s with mru := { s.mru with lineSpeed := some v } }, [.conveyor])
  | .setOutput o v => (setManual o v s, [.formDelivered o])
  | .restart => (restarted s, restartTasks s.mru.line)
  | .ackLatched _ a => ((acknowledged a s).1, (acknowledged a s).2 ++ ackTasks a)
  | .ackClear a => (s, ackTasks a)
  | .forceCutoff g x => (setManualFlag g s, [.activate g x])
  | .clearCutoff g => (s, [.deactivate g])
  | .feedNow => (startFeed s, [])
  | .setback why => (s, [.potEvaluate why])

/-- What a command and the state must be for a beginning, as far as the invariants need it. -/
def Beginning.Allowed (c : Instr) (s : State) : Beginning → Prop
  | .commit r k index b => carriedRequest c = some (2, r) ∧ permission s.mru k = none ∧ stagingOf s.mru.staging k = some b
      ∧ (k = .recipe → (slotBank s.tbs.slots[Fin.ofNat 16 index] (writeBank s.tbs index)).references = 0)
  | .start r => carriedRequest c = some (7, r) ∧ s.mru.line = .standby
  | .stop r => carriedRequest c = some (8, r) ∧ s.mru.line = .run
  | .enterMaintenance r => carriedRequest c = some (15, r) ∧ s.mru.line = .standby
  | .leaveMaintenance => s.mru.line = .maintenance
  | .goOn n => ∃ b, findBoard s.btk.train n = some b ∧ b.defects = 0
  | .resume => lineTakesHolds s = true ∧ s.hld.phase = .held
  | .restart => restartTaken s = true
  | .ackLatched r a => carriedRequest c = some (19, r) ∧ reqByte r 6 = a.val
  | .clearCutoff g => linkedAlarmPresent s g = false
  | _ => True

/-- The blocks that a beginning's own effect can change. -/
def Beginning.touched : Beginning → List Block
  | .cycleStart | .blockComplete | .sample _ | .noEffect | .hold _ | .rework _ | .goOn _ | .ackClear _ | .clearCutoff _
  | .setback _ => []
  | .completion _ _ _ _ | .meltTimer | .setbackTimer | .pumpGrace _ | .feedTimer | .settleTimer => [.pot]
  | .staleTimer _ => [.sig]
  | .noMotionTimer => [.btk]
  | .fanGrace _ => [.exm]
  | .stopTimer | .resumeTimer | .ackHold | .resume => [.hld]
  | .stage _ _ _ _ _ | .discard _ | .lockLimits | .start _ | .stop _ | .enterMaintenance _ | .selectNext _ | .setSpeed _ => [.mru]
  | .commit _ _ _ _ => [.mru, .tbs, .sig, .pot, .tle, .acu]
  | .removeRecipe _ => [.tbs]
  | .leaveMaintenance => [.out, .mru]
  | .setOutput _ _ => [.out]
  | .restart => [.hld, .btk, .tbs, .flx, .phm, .pot, .tle, .out, .mru]
  | .ackLatched _ _ | .forceCutoff _ _ => [.acu]
  | .feedNow => [.pot, .out, .lif]

/-- A command begins with an effect. -/
def Begins (c : Instr) (s : State) (e : Effect) : Prop := ∃ b : Beginning, b.Allowed c s ∧ e = b.effect s

/-! ## The blocks that a beginning leaves -/

theorem potActs_touches (s : State) {e : Effect} (h : Touches [.pot] s e.1) : Touches [.pot] s (potActs s e).1 := by
  unfold potActs
  split
  · exact .refl _ s
  · exact h

theorem setFeeder_touches (s : State) (f : Feeder) : Touches [.pot] s (setFeeder s f) := by
  constructor; intro b hb; cases b <;> first | exact absurd (by decide) hb | rfl

theorem takeCompletion_touches (src number result : Byte) (quantity : Nat) (s : State) :
    Touches [.pot] s (takeCompletion src number result quantity s).1 := by
  refine potActs_touches s ?_
  (repeat' split) <;> first
    | exact setFeeder_touches s _
    | (constructor; intro b hb; cases b <;> first | exact absurd (by decide) hb | rfl)

theorem staleExpiry_touches (i : SigIx) (s : State) : Touches [.sig] s (staleExpiry i s).1 := by
  unfold staleExpiry
  dsimp only
  (repeat' split) <;> (constructor; intro b hb; cases b <;> first | exact absurd (by decide) hb | rfl)

theorem noMotionExpiry_touches (s : State) : Touches [.btk] s (noMotionExpiry s).1 := by
  unfold noMotionExpiry
  (repeat' split) <;> (constructor; intro b hb; cases b <;> first | exact absurd (by decide) hb | rfl)

theorem meltDwellExpiry_touches (s : State) : Touches [.pot] s (meltDwellExpiry s).1 := by
  unfold meltDwellExpiry
  (repeat' split) <;> (constructor; intro b hb; cases b <;> first | exact absurd (by decide) hb | rfl)

theorem setbackExpiry_touches (s : State) : Touches [.pot] s (setbackExpiry s).1 := by
  unfold setbackExpiry
  (repeat' split) <;> (constructor; intro b hb; cases b <;> first | exact absurd (by decide) hb | rfl)

theorem pumpGraceExpiry_touches (w : Wave) (s : State) : Touches [.pot] s (pumpGraceExpiry w s).1 := by
  unfold pumpGraceExpiry
  split
  · exact setPump_touches s w _
  · exact .refl _ s

theorem feedExpiry_touches (s : State) : Touches [.pot] s (feedExpiry s).1 := by
  unfold feedExpiry
  split
  · exact setFeeder_touches s _
  · exact .refl _ s

theorem stopExpiry_touches (s : State) : Touches [.hld] s (stopExpiry s).1 := by
  unfold stopExpiry
  (repeat' split) <;> (constructor; intro b hb; cases b <;> first | exact absurd (by decide) hb | rfl)

theorem resumeExpiry_touches (s : State) : Touches [.hld] s (resumeExpiry s).1 := by
  unfold resumeExpiry
  (repeat' split) <;> (constructor; intro b hb; cases b <;> first | exact absurd (by decide) hb | rfl)

theorem acknowledged_touches (a : AlarmIx) (s : State) : Touches [.acu] s (acknowledged a s).1 := by
  unfold acknowledged
  dsimp only
  (repeat' split) <;> (constructor; intro b hb; cases b <;> first | exact absurd (by decide) hb | rfl)

theorem channelCommitted_touches (old : Tbs) (s : State) : Touches [.sig] s (channelCommitted old s).1 := by
  constructor; intro b hb; cases b <;> first | exact absurd (by decide) hb | simp only [sameBlock, channelCommitted]

theorem limitSetpoints_touches (s : State) : Touches [.tle] s (limitSetpoints s) := by
  constructor; intro b hb; cases b <;> first | exact absurd (by decide) hb | simp only [sameBlock, limitSetpoints]

theorem applyEntry_touches (a : AlarmIx) (new : AlarmEntry) (s : State) : Touches [.tbs, .acu] s (applyEntry a new s).1 := by
  constructor; intro b hb; cases b <;> first | exact absurd (by decide) hb | simp only [sameBlock, applyEntry, setAlarm]

/-- The tables alone change. -/
theorem withTables_touches (s : State) (t : Tbs) : Touches [.tbs] s { s with tbs := t } := by
  constructor; intro b hb; cases b <;> first | exact absurd (by decide) hb | rfl

theorem withMru_touches (s : State) (m : Mru) : Touches [.mru] s { s with mru := m } := by
  constructor; intro b hb; cases b <;> first | exact absurd (by decide) hb | rfl

theorem clampDebt_touches (s : State) : Touches [.pot] s (clampDebt s) := by
  constructor; intro b hb; cases b <;> first | exact absurd (by decide) hb | simp only [sameBlock, clampDebt]

theorem writeEntry_touches (k : TableKind) (index : Nat) (staged m : FieldMap) (s : State) :
    Touches [.mru, .tbs, .sig, .pot, .tle, .acu] s (writeEntry k index staged m s).1 := by
  cases k with
  | channel => exact ((withTables_touches s _).mono (by decide)).trans ((channelCommitted_touches ..).mono (by decide))
  | line =>
    exact (((withTables_touches s _).mono (by decide)).trans ((withMru_touches _ _).mono (by decide))).trans
      ((clampDebt_touches _).mono (by decide))
  | limits => exact ((withTables_touches s _).mono (by decide)).trans ((limitSetpoints_touches _).mono (by decide))
  | alarm => exact (applyEntry_touches ..).mono (by decide)
  | output | geometry | tuning | recipe => exact (withTables_touches s _).mono (by decide)

theorem commitTaken_touches (k : TableKind) (index : Nat) (x : StagingBuffer) (s : State) :
    Touches [.mru, .tbs, .sig, .pot, .tle, .acu] s (commitTaken k index x s).state :=
  (((withMru_touches s _).mono (by decide)).trans (writeEntry_touches k index x.fields (storedCandidate k (clampCandidate k _))
    (setStaging s k none))).trans ((withMru_touches _ _).mono (by decide))

theorem restarted_touches (s : State) : Touches [.hld, .btk, .tbs, .flx, .phm, .pot, .tle, .out, .mru] s (restarted s) := by
  constructor; intro b hb; cases b <;> first
    | exact absurd (by decide) hb
    | simp only [sameBlock, restarted, setLine, releaseManual, tleReset, potRestart, phmRestart, flxRestart, btkRestart, hldRestart]

/-- A beginning leaves every block as it is but those it can change. -/
theorem Beginning.effect_touches (b : Beginning) (s : State) : Touches b.touched s (b.effect s).1 := by
  cases b
  case completion => exact takeCompletion_touches ..
  case staleTimer i => exact staleExpiry_touches i s
  case noMotionTimer => exact noMotionExpiry_touches s
  case meltTimer => exact meltDwellExpiry_touches s
  case setbackTimer => exact setbackExpiry_touches s
  case pumpGrace w => exact pumpGraceExpiry_touches w s
  case feedTimer => exact feedExpiry_touches s
  case settleTimer => exact settleOver_touches s
  case fanGrace d => exact fanGraceOver_touches d s
  case stopTimer => exact stopExpiry_touches s
  case resumeTimer => exact resumeExpiry_touches s
  case commit => exact commitTaken_touches ..
  case restart => exact restarted_touches s
  case ackLatched r a => exact acknowledged_touches a s
  case feedNow => exact startFeed_touches s
  all_goals
    dsimp only [Beginning.touched, Beginning.effect]
    (constructor; intro b hb; cases b <;> first | exact absurd (by decide) hb | rfl)

/-! ## The requests (03 3.2) -/

/-- What a decision begins with. -/
def Decides (c : Instr) (s : State) (d : Decision) : Prop := Begins c s (d.state, d.tasks)

namespace Decides

variable {c : Instr} {s : State} {r : ReqCell}

theorem of_refuse (status : ReplyStatus) : Decides c s (refuse status s) := ⟨.noEffect, trivial, rfl⟩

theorem of_taken (data : State → List Byte) : Decides c s (taken data s) := ⟨.noEffect, trivial, rfl⟩

theorem of_ite {p : Prop} [Decidable p] {d e : Decision} (h : p → Decides c s d) (k : ¬p → Decides c s e) :
    Decides c s (if p then d else e) := by
  split
  · next hp => exact h hp
  · next hp => exact k hp

theorem of_inHoldLines {d : Decision} (h : lineTakesHolds s = true → Decides c s d) : Decides c s (inHoldLines s d) :=
  of_ite h fun _ => of_refuse _

theorem stage : Decides c s (decideStage r s) := by
  unfold decideStage
  dsimp only
  split
  · exact of_refuse _
  · split
    · exact of_refuse _
    · exact of_ite (fun _ => of_refuse _) fun _ => of_ite (fun _ => of_refuse _) fun _ => ⟨.stage _ _ _ _ _, trivial, rfl⟩

theorem discard : Decides c s (decideDiscard r s) := by
  unfold decideDiscard
  split
  · exact of_refuse _
  · exact ⟨.discard _, trivial, rfl⟩

theorem commit (hc : carriedRequest c = some (2, r)) : Decides c s (decideCommit r s) := by
  unfold decideCommit
  split
  · exact of_refuse _
  · refine of_ite (fun _ => of_refuse _) fun _ => ?_
    split
    · exact of_refuse _
    · next hperm =>
      unfold commitStaged
      split
      · exact of_refuse _
      · next b hb =>
        refine of_ite (fun _ => of_refuse _) fun _ => of_ite (fun _ => of_refuse _) fun _ => of_ite (fun _ => of_refuse _) fun hbusy => ?_
        exact ⟨.commit r _ _ b, ⟨hc, hperm, hb, fun hk => Nat.eq_zero_of_not_pos fun hpos => hbusy ⟨hk, hpos⟩⟩, rfl⟩

theorem read : Decides c s (decideRead r s) := by
  unfold decideRead
  split
  · exact of_refuse _
  · exact of_taken _

theorem removeRecipe : Decides c s (decideRemoveRecipe r s) :=
  of_ite (fun _ => of_refuse _) fun _ => ⟨.removeRecipe _, trivial, rfl⟩

theorem lockLimits : Decides c s (decideLockLimits r s) := of_ite (fun _ => of_refuse _) fun _ => ⟨.lockLimits, trivial, rfl⟩

theorem start (hc : carriedRequest c = some (7, r)) : Decides c s (decideStart r s) := by
  unfold decideStart
  split
  · next hl =>
    refine of_ite (fun _ => of_refuse _) fun _ => ?_
    exact ⟨.start r, ⟨hc, hl⟩, rfl⟩
  · exact of_taken _
  all_goals exact of_refuse _

theorem stop (hc : carriedRequest c = some (8, r)) : Decides c s (decideStop r s) := by
  unfold decideStop
  split
  · next hl =>
    exact ⟨.stop r, ⟨hc, hl⟩, rfl⟩
  · exact of_taken _
  all_goals exact of_refuse _

theorem selectNext : Decides c s (decideSelectNext r s) :=
  of_ite (fun _ => of_refuse _) fun _ => of_ite (fun _ => of_refuse _) fun _ => ⟨.selectNext _, trivial, rfl⟩

theorem setSpeed : Decides c s (decideSetSpeed r s) := of_ite (fun _ => of_refuse _) fun _ => ⟨.setSpeed _, trivial, rfl⟩

theorem enterMaintenance (hc : carriedRequest c = some (15, r)) : Decides c s (decideEnterMaintenance r s) := by
  unfold decideEnterMaintenance
  split
  · next hl =>
    refine of_ite (fun _ => ?_) fun _ => of_refuse _
    exact ⟨.enterMaintenance r, ⟨hc, hl⟩, rfl⟩
  · exact of_taken _
  all_goals exact of_refuse _

theorem leaveMaintenance : Decides c s (decideLeaveMaintenance r s) := by
  unfold decideLeaveMaintenance
  split
  · next hl => exact ⟨.leaveMaintenance, hl, rfl⟩
  · exact of_taken _
  all_goals exact of_refuse _

theorem setOutput : Decides c s (decideSetOutput r s) :=
  of_ite (fun _ => of_refuse _) fun _ => of_ite (fun _ => of_refuse _) fun _ =>
    of_ite (fun _ => ⟨.setOutput _ _, trivial, rfl⟩) fun _ => of_ite (fun _ => of_refuse _) fun _ =>
      of_ite (fun _ => of_refuse _) fun _ => ⟨.setOutput _ _, trivial, rfl⟩

theorem restart : Decides c s (decideRestart r s) := of_ite (fun h => ⟨.restart, h, rfl⟩) fun _ => of_refuse _

theorem hold : Decides c s (decideHold r s) := of_inHoldLines fun _ => ⟨.hold _, trivial, rfl⟩

theorem ackHold : Decides c s (decideAckHold r s) := by
  refine of_inHoldLines fun _ => ?_
  split
  · exact of_refuse _
  · next x hx => exact ⟨.ackHold, trivial, by simp only [Beginning.effect, acknowledgeHold, hx, Option.map_some]⟩

theorem setDisposition : Decides c s (decideSetDisposition r s) := by
  refine of_inHoldLines fun _ => of_ite (fun _ => of_refuse _) fun _ => ?_
  split
  · next l b _ hb =>
    refine of_ite (fun _ => ⟨.rework _, trivial, rfl⟩) fun _ => of_ite (fun _ => of_refuse _) fun _ => of_ite (fun _ => of_refuse _) fun h => ?_
    exact ⟨.goOn _, ⟨b, hb, not_not.mp fun hd => h (.inr hd)⟩, rfl⟩
  · exact of_refuse _

/-- RESUME is taken in HELD alone (R193). -/
theorem resumeVerdict_held (h : (resumeVerdict s).1 = .ok) : s.hld.phase = .held := by
  by_contra hp
  simp [resumeVerdict, hp] at h

theorem resume : Decides c s (decideResume r s) := by
  refine of_inHoldLines fun hl => of_ite (fun h => ?_) fun _ => ⟨.noEffect, trivial, rfl⟩
  exact ⟨.resume, ⟨hl, resumeVerdict_held h⟩, rfl⟩

theorem A_val {n : Nat} (h : n < 43) : (A n).val = n := Nat.mod_eq_of_lt h

theorem ackAlarm (hc : carriedRequest c = some (19, r)) : Decides c s (decideAckAlarm r s) := by
  refine of_ite (fun _ => of_refuse _) fun hn => ?_
  split
  · exact ⟨.ackLatched r (A (reqByte r 6)), ⟨hc, (A_val (by omega)).symm⟩, rfl⟩
  · exact ⟨.ackClear _, trivial, rfl⟩
  all_goals exact of_refuse _

theorem forceCutoff : Decides c s (decideForceCutoff r s) := by
  unfold decideForceCutoff
  split
  · exact of_refuse _
  · exact ⟨.forceCutoff _ _, trivial, rfl⟩

theorem clearCutoff : Decides c s (decideClearCutoff r s) := by
  unfold decideClearCutoff
  split
  · exact of_refuse _
  · refine of_ite (fun _ => of_taken _) fun _ => of_ite (fun _ => of_refuse _) fun h => of_ite (fun _ => of_refuse _) fun _ => ?_
    exact ⟨.clearCutoff _, Bool.eq_false_iff.mpr h, rfl⟩

theorem feedNow : Decides c s (decideFeedNow r s) :=
  of_ite (fun _ => of_refuse _) fun _ => of_ite (fun _ => ⟨.feedNow, trivial, rfl⟩) fun _ => of_refuse _

theorem setback : Decides c s (decideSetback r s) := by
  refine of_ite (fun _ => of_refuse _) fun _ => of_ite (fun _ => ?_) fun _ => of_ite (fun _ => ?_) fun _ => of_refuse _
  · exact of_ite (fun _ => ⟨.setback _, trivial, rfl⟩) fun _ => of_taken _
  · unfold setbackOn
    split
    · exact ⟨.setback _, trivial, rfl⟩
    · exact ⟨.setback _, trivial, rfl⟩
    · exact of_taken _
    all_goals exact of_refuse _

/-- Whatever the request, its owner's rule decides it as one of these beginnings. -/
theorem byCode {code : Word16} (hc : carriedRequest c = some (code, r)) : Decides c s (decideByCode code.toNat r s) := by
  have known (n : Nat) (h : code.toNat = n) : carriedRequest c = some (BitVec.ofNat 16 n, r) := by
    rw [hc, ← h, BitVec.ofNat_toNat, BitVec.setWidth_eq]
  generalize hn : code.toNat = n at *
  unfold decideByCode
  split
  · exact stage
  · exact commit (known 2 rfl)
  · exact discard
  · exact read
  · exact removeRecipe
  · exact lockLimits
  · exact start (known 7 rfl)
  · exact stop (known 8 rfl)
  · exact hold
  · exact ackHold
  · exact setDisposition
  · exact resume
  · exact selectNext
  · exact setSpeed
  · exact enterMaintenance (known 15 rfl)
  · exact leaveMaintenance
  · exact setOutput
  · exact restart
  · exact ackAlarm (known 19 rfl)
  · exact forceCutoff
  · exact clearCutoff
  · exact feedNow
  · exact setback
  · exact of_refuse _

theorem request {code : Word16} (hc : carriedRequest c = some (code, r)) :
    Decides c s (decideRequest code r (decideByCode code.toNat) s) :=
  of_ite (fun _ => of_refuse _) fun _ => of_ite (fun _ => byCode hc) fun _ => of_refuse _

end Decides

/-! ## Every command -/

/-- What a command comes to: a count, or an event from its beginning, for a request with the one REPLY that the event leaves room for. -/
inductive Outcomes (c : Instr) (s : State) : State → Prop
  | reset (h : c = .powerOnReset) : Outcomes c s { State.reset with pending := s.pending }
  | count (t : State) (h : Counted s t) : Outcomes c s t
  | event (e : Effect) (h : Begins c s e) : Outcomes c s (runEffect e)
  | reply (e : Effect) (dest tag : Byte) (status : ReplyStatus) (data : List Byte) (h : Begins c s e)
      (room : s.lif.messageQueue.length < messageRoom) (queue : (runEffect e).lif.messageQueue = s.lif.messageQueue) :
      Outcomes c s (pushReply dest tag status data (runEffect e))

theorem serve_outcomes {c : Instr} {code : Word16} {r : ReqCell} (s : State) (hc : carriedRequest c = some (code, r)) :
    Outcomes c s (serve code r (decideByCode code.toNat) s) := by
  by_cases hv : verdict s.lif.openCycle (requestRaw code r) = .toMru
  · by_cases hroom : s.lif.messageQueue.length < messageRoom
    · rw [serve_room _ hv hroom]
      have leaves := decideRequest_leavesMessages code r s (decideByCode_leavesMessages code.toNat r s)
      exact .reply _ _ _ _ _ (Decides.request hc) hroom ((run_spares_messages _ _ leaves.tasks).trans leaves.queue)
    · rw [serve_full _ hv (Nat.not_lt.mp hroom)]
      exact .count _ .dropped
  · rw [serve_discarded _ hv]
    exact .count _ (.discard _)

theorem takeCycleEnd_outcomes {c : Instr} (x : CycleEndCell) (s : State) : Outcomes c s (takeCycleEnd x s) := by
  unfold takeCycleEnd
  dsimp only
  split
  · exact .count _ (.close _)
  · exact .count _ (.discard _)

theorem takeSample_outcomes {c : Instr} (x : SampleCell) (s : State) : Outcomes c s (takeSample x s) := by
  unfold takeSample
  dsimp only
  split
  · exact .event _ ⟨.sample x, trivial, rfl⟩
  · exact .count _ (.discard _)

theorem takeCompletionCell_outcomes {c : Instr} (x : CompletionCell) (s : State) : Outcomes c s (takeCompletionCell x s) := by
  unfold takeCompletionCell
  dsimp only
  split
  · exact .event _ ⟨.completion _ _ _ _, trivial, rfl⟩
  · exact .count _ (.discard _)

/-- R4: only a REQUEST cell goes to MRU. -/
theorem kind_of_toMru {openCycle : Bool} {c : RawCell} (h : verdict openCycle c = .toMru) : c.kind = kindRequest := by
  unfold verdict at h
  split_ifs at h with h1 h2 h3 h4 h5 h6 h7
  exact h7

theorem takeRaw_outcomes (x : RawCell) (s : State) : Outcomes (.cellDiscarded x) s (takeRaw x s) := by
  unfold takeRaw
  split
  · exact takeCycleEnd_outcomes _ s
  · exact takeSample_outcomes _ s
  · exact takeCompletionCell_outcomes _ s
  · next h => exact serve_outcomes s (if_pos (kind_of_toMru h))
  all_goals exact .count _ (.discard _)

/-- Every command comes to one of these outcomes. -/
theorem exec_outcomes {c : Instr} {s t : State} (h : exec c s = .next t) : Outcomes c s t := by
  cases hr : requestOf c with
  | some q =>
    have hc : carriedRequest c = some (q.1, q.2) := by
      cases c <;> first | exact hr | cases hr
    rw [exec_of_requestOf s hr] at h
    cases h
    exact serve_outcomes s hc
  | none =>
    cases c
    case powerOnReset => cases h; exact .reset rfl
    case cycleStart => cases h; exact .event _ ⟨.cycleStart, trivial, rfl⟩
    case degradationBlockComplete => cases h; exact .event _ ⟨.blockComplete, trivial, rfl⟩
    case cycleEnd x => cases h; exact takeCycleEnd_outcomes x s
    case cellDiscarded x => cases h; exact takeRaw_outcomes x s
    case sample x => cases h; exact takeSample_outcomes x s
    case completion x => cases h; exact takeCompletionCell_outcomes x s
    case staleTimerExpiry i => cases h; exact .event _ ⟨.staleTimer i, trivial, rfl⟩
    case noMotionTimerExpiry => cases h; exact .event _ ⟨.noMotionTimer, trivial, rfl⟩
    case meltDwellExpiry => cases h; exact .event _ ⟨.meltTimer, trivial, rfl⟩
    case setbackTimerExpiry => cases h; exact .event _ ⟨.setbackTimer, trivial, rfl⟩
    case pumpGraceExpiry w => cases h; exact .event _ ⟨.pumpGrace w, trivial, rfl⟩
    case feedTimerExpiry => cases h; exact .event _ ⟨.feedTimer, trivial, rfl⟩
    case settleTimerExpiry => cases h; exact .event _ ⟨.settleTimer, trivial, rfl⟩
    case fanGraceExpiry d => cases h; exact .event _ ⟨.fanGrace d, trivial, rfl⟩
    case stopTimerExpiry => cases h; exact .event _ ⟨.stopTimer, trivial, rfl⟩
    case resumeTimerExpiry => cases h; exact .event _ ⟨.resumeTimer, trivial, rfl⟩
    all_goals cases hr

/-! ## Invariants of every step -/

/-- A relation between the hand-overs that wait and the state, kept as each is taken, holds at the end of the event, or the event is
given up and marked. -/
theorem settle_holds {I : List Task → State → Prop} {P : State → Prop}
    (next : ∀ t ts s, I (t :: ts) s → I ((handle t s).2 ++ ts) (handle t s).1) (done : ∀ s, I [] s → P s)
    (mark : ∀ ts s, I ts s → P { s with overrun := true }) :
    ∀ (n : Nat) (ts : List Task) (s : State), I ts s → P (settle n ts s)
  | _, [], s, h => by simpa using done s h
  | 0, t :: ts, s, h => mark (t :: ts) s h
  | n + 1, t :: ts, s, h => settle_holds next done mark n _ _ (next t ts s h)

/-- A property of the state that every command's own effect and every hand-over keeps is kept by every command. -/
theorem exec_keeps {P : State → Prop} {c : Instr} {s t : State}
    (reset : P { State.reset with pending := s.pending }) (count : ∀ u, Counted s u → P u) (begin : ∀ b : Beginning, b.Allowed c s → P (b.effect s).1)
    (keeps : ∀ t s, P s → P (handle t s).1) (mark : ∀ s, P s → P { s with overrun := true })
    (reply : ∀ u dest tag status data, u.lif.messageQueue.length < messageRoom → P u → P (pushReply dest tag status data u))
    (h : exec c s = .next t) : P t := by
  have ends (e : Effect) (he : Begins c s e) : P (runEffect e) := by
    obtain ⟨b, hb, rfl⟩ := he
    exact run_keeps keeps mark _ _ (begin b hb)
  cases exec_outcomes h with
  | reset => exact reset
  | count _ hu => exact count _ hu
  | event e he => exact ends e he
  | reply e _ _ _ _ he room queue => exact reply _ _ _ _ _ (by rw [queue]; exact room) (ends e he)

/-- What every command keeps, whatever waits, every step keeps. -/
theorem step_keeps {P Q : State → Prop} (done : ∀ s, P s → Q s) (pending : ∀ s p, P s → P { s with pending := p })
    (keeps : ∀ c s t, P s → exec c s = .next t → Q t) (s t : State) (hs : P s) (h : step s = .next t) : Q t := by
  unfold step at h
  split at h
  · cases h
    exact done s hs
  · exact keeps _ _ t (pending s _ hs) h

end Sys2Proof.Machine
end


section
/-! Signal records (02 2.1): every record agrees with its freshness after every step. -/

namespace Sys2Proof.Machine

/-! ## What a count and a reply leave -/

theorem Counted.touches {s t : State} (h : Counted s t) : Touches [.lif, .mru] s t := by
  cases h with
  | discard v => cases v <;> (constructor; intro b hb; cases b <;> first | exact absurd (by decide) hb | rfl)
  | close cycle =>
    unfold closeCycle
    split <;> (constructor; intro b hb; cases b <;> first | exact absurd (by decide) hb | rfl)
  | dropped => constructor; intro b hb; cases b <;> first | exact absurd (by decide) hb | rfl

theorem pushReply_touches (dest tag : Byte) (status : ReplyStatus) (data : List Byte) (s : State) :
    Touches [.lif] s (pushReply dest tag status data s) := by
  constructor; intro b hb; cases b <;> first | exact absurd (by decide) hb | rfl

/-! ## Signal records -/

/-- A property of every place of a vector is kept by a change of one place to a value that has it. -/
theorem vset_forall {α : Type} {n : Nat} {p : Fin n → α → Prop} {v : Vector α n} {i : Fin n} {x : α} (h : ∀ j, p j v[j]) (hx : p i x) :
    ∀ j : Fin n, p j (vset v i x)[j] := by
  intro j
  by_cases hij : i = j
  · subst hij
    rw [vset_same]
    exact hx
  · rw [vset_other _ hij]
    exact h j

theorem signalSound_reset : SignalSound SignalRecord.reset := by simp [SignalSound, SignalRecord.reset]

/-- An arrival makes a record that R17 describes, whatever it was. -/
theorem arrive_sound (limit : Nat) (stamp : Word32) (status : SampleStatus) (x : Int) (r : SignalRecord) :
    SignalSound (arrive limit stamp status x r) := by
  refine ⟨by simp [arrive], by simp [arrive], by simp [arrive], fun h => ?_, ?_⟩
  · have hgood : status = .good := Option.some.inj h
    simp [arrive, hgood]
  · unfold arrive
    dsimp only
    split
    · exact Nat.zero_le _
    · exact satAdd_le ..

/-- The expiry of a running stale timer (R18). -/
theorem stale_sound {r : SignalRecord} (h : SignalSound r) (hr : r.staleTimer.isSome = true) :
    SignalSound { r with freshness := .stale, staleTimer := none } := by
  obtain ⟨htimer, hstatus, -, hzero, hcount⟩ := h
  have hfresh : r.freshness = .fresh := htimer.mp hr
  have hsome : r.status.isSome = true := hstatus.mpr (by rw [hfresh]; decide)
  exact ⟨by simp, by simpa using hsome, by simp, hzero, hcount⟩

/-- Every signal record is sound. -/
def SignalsSound (s : State) : Prop := ∀ i : SigIx, SignalSound s.sig[i]

theorem SignalsSound.of_sig {s t : State} (h : SignalsSound s) (e : t.sig = s.sig) : SignalsSound t := by
  unfold SignalsSound
  rw [e]
  exact h

/-- A commit of CHANNEL resets records or leaves them (R19). -/
theorem channelCommitted_signals {s : State} (old : Tbs) (h : SignalsSound s) : SignalsSound (channelCommitted old s).1 := by
  intro i
  simp only [channelCommitted, Fin.getElem_fin, Vector.getElem_ofFn]
  split
  · exact signalSound_reset
  · exact h i

/-- The write of an entry changes signal records only by a commit of CHANNEL. -/
theorem writeEntry_signals {s : State} (k : TableKind) (index : Nat) (staged m : FieldMap) (h : SignalsSound s) :
    SignalsSound (writeEntry k index staged m s).1 := by
  cases k with
  | channel => exact channelCommitted_signals s.tbs (h.of_sig (t := { s with tbs := { s.tbs with channel := m } }) rfl)
  | output | geometry | line | limits | tuning | alarm | recipe => exact h.of_sig rfl

theorem staleExpiry_signals {s : State} (i : SigIx) (h : SignalsSound s) : SignalsSound (staleExpiry i s).1 := by
  unfold staleExpiry
  dsimp only
  split
  · next hr => exact vset_forall (p := fun _ => SignalSound) h (stale_sound (h i) hr)
  · exact h

theorem samplePosition_signals {s : State} (src : Byte) (channel code : Nat) (v : Word16) (h : SignalsSound s) :
    SignalsSound (samplePosition src channel code v s).1 := by
  unfold samplePosition
  split
  · exact h
  · exact vset_forall (p := fun _ => SignalSound) h (arrive_sound ..)

theorem beginning_signals {s : State} (b : Beginning) (h : SignalsSound s) : SignalsSound (b.effect s).1 := by
  by_cases hb : Block.sig ∈ b.touched
  · cases b
    case staleTimer i => exact staleExpiry_signals i h
    case commit r k index x => exact (writeEntry_signals k index _ _ (h.of_sig (t := setStaging s k none) rfl)).of_sig rfl
    all_goals simp [Beginning.touched] at hb
  · exact h.of_sig ((b.effect_touches s).same .sig hb)

theorem handle_signals (t : Task) (s : State) (h : SignalsSound s) : SignalsSound (handle t s).1 := by
  by_cases ht : Block.sig ∈ touched t
  · cases t
    case samplePosition src channel code v => exact samplePosition_signals src channel code v h
    all_goals simp [touched] at ht
  · exact h.of_sig ((handle_touches t s).same .sig ht)

theorem exec_signals {c : Instr} {s t : State} (hs : SignalsSound s) (h : exec c s = .next t) : SignalsSound t := by
  refine exec_keeps (P := SignalsSound) ?_ (fun u hu => ?_) (fun b _ => beginning_signals b hs) handle_signals
    (fun _ h => h) (fun _ _ _ _ _ _ h => h) h
  · intro i
    simp only [State.reset, Fin.getElem_fin, Vector.getElem_replicate]
    exact signalSound_reset
  · exact hs.of_sig (hu.touches.same .sig (by decide))

/-- Settles O5: arrivals, expiries and resets each make a record that R17 to R19 describe, and nothing else changes one. -/
theorem signalsStaySound : Obligations.SignalsStaySound :=
  step_keeps (P := SignalsSound) (Q := SignalsSound) (fun _ h => h) (fun _ _ h => h) fun _ _ _ hs h => exec_signals hs h

end Sys2Proof.Machine
end


section
/-! LIF's stores and counts (01): the ranges that every step keeps. -/

namespace Sys2Proof.Machine

/-! ## The deferred set and the carry list (R9, R10) -/

theorem mem_putDeferred {c x : CommandCell} {l : List CommandCell} (h : x ∈ putDeferred c l) : x = c ∨ x ∈ l := by
  induction l with
  | nil => exact .inl (List.mem_singleton.mp h)
  | cons d ds ih =>
    unfold putDeferred at h
    split at h
    · rcases List.mem_cons.mp h with rfl | h
      · exact .inl rfl
      · exact .inr (List.mem_cons_of_mem _ h)
    · split at h
      · exact List.mem_cons.mp h
      · rcases List.mem_cons.mp h with rfl | h
        · exact .inr (List.mem_cons_self ..)
        · exact (ih h).imp_right (List.mem_cons_of_mem _)

/-- A deferred set in output order stays so (R9). -/
theorem putDeferred_sorted (c : CommandCell) {l : List CommandCell} (h : l.Pairwise fun d e => d.output < e.output) :
    (putDeferred c l).Pairwise fun d e => d.output < e.output := by
  induction l with
  | nil => exact List.pairwise_singleton ..
  | cons d ds ih =>
    obtain ⟨hd, hds⟩ := List.pairwise_cons.mp h
    unfold putDeferred
    split
    · next he => exact List.pairwise_cons.mpr ⟨fun x hx => he ▸ hd x hx, hds⟩
    · next hne =>
      split
      · next hlt =>
        refine List.pairwise_cons.mpr ⟨fun x hx => ?_, h⟩
        rcases List.mem_cons.mp hx with rfl | hx
        · exact hlt
        · exact lt_trans hlt (hd x hx)
      · next hge =>
        refine List.pairwise_cons.mpr ⟨fun x hx => ?_, ih hds⟩
        rcases mem_putDeferred hx with rfl | hx
        · exact lt_of_le_of_ne (not_lt.mp hge) hne
        · exact hd x hx

theorem mem_of_mem_putCarried {c x : TimedCell} {l : List TimedCell} (h : x ∈ putCarried c l) : x = c ∨ x ∈ l := by
  induction l with
  | nil => exact .inl (List.mem_singleton.mp h)
  | cons d ds ih =>
    unfold putCarried at h
    split at h
    · rcases List.mem_cons.mp h with rfl | h
      · exact .inl rfl
      · exact .inr (List.mem_cons_of_mem _ h)
    · rcases List.mem_cons.mp h with rfl | h
      · exact .inr (List.mem_cons_self ..)
      · exact (ih h).imp_right (List.mem_cons_of_mem _)

/-- A carry list with one cell for each DEST and channel stays so (R10). -/
theorem putCarried_distinct (c : TimedCell) {l : List TimedCell}
    (h : l.Pairwise fun d e => ¬(d.dest = e.dest ∧ d.channel = e.channel)) :
    (putCarried c l).Pairwise fun d e => ¬(d.dest = e.dest ∧ d.channel = e.channel) := by
  induction l with
  | nil => exact List.pairwise_singleton ..
  | cons d ds ih =>
    obtain ⟨hd, hds⟩ := List.pairwise_cons.mp h
    unfold putCarried
    split
    · next he => exact List.pairwise_cons.mpr ⟨fun x hx => he.1 ▸ he.2 ▸ hd x hx, hds⟩
    · next hne =>
      refine List.pairwise_cons.mpr ⟨fun x hx => ?_, ih hds⟩
      rcases mem_of_mem_putCarried hx with rfl | hx
      · exact hne
      · exact hd x hx

/-! ## LIF's own operations -/

theorem takeCommand_sound (c : CommandCell) {l : Lif} (h : LifSound l) : LifSound (takeCommand c l) := by
  obtain ⟨hqueue, hmessages, hdeferred, hrest⟩ := h
  have hsorted : (takeCommand c l).deferredSet.Pairwise fun d e => d.output < e.output := by
    unfold takeCommand
    (repeat' split) <;> first | exact hdeferred | exact putDeferred_sorted c hdeferred
  rw [takeCommand_eq] at hsorted ⊢
  exact ⟨takeCommand_length c l hqueue, hmessages, hsorted, hrest⟩

theorem withdraw_sound (o : OutIx) {l : Lif} (h : LifSound l) : LifSound (withdraw o l) := by
  obtain ⟨hqueue, hmessages, hdeferred, hcarry, hrest⟩ := h
  exact ⟨le_trans (List.length_filter_le ..) hqueue, hmessages, hdeferred, hcarry.filter _, hrest⟩

theorem takeTimed_sound (c : TimedCell) {s : State} (h : LifSound s.lif) : LifSound (takeTimed c s).lif := by
  obtain ⟨hqueue, hmessages, hdeferred, hcarry, hrest⟩ := h
  unfold takeTimed
  split
  · next hroom => exact ⟨by simp only [List.length_append, List.length_singleton]; omega, hmessages, hdeferred, hcarry, hrest⟩
  · exact ⟨hqueue, hmessages, hdeferred, putCarried_distinct c hcarry, hrest⟩

theorem outcomeComplete_sound {l : Lif} (h : LifSound l) : LifSound (outcomeComplete l) := by
  obtain ⟨h1, h2, h3, h4, -, -, hrest⟩ := h
  exact ⟨h1, h2, h3, h4, satAdd_le .., Nat.zero_le _, hrest⟩

theorem outcomeLost_sound {l : Lif} (h : LifSound l) : LifSound (outcomeLost l) := by
  obtain ⟨h1, h2, h3, h4, -, -, hrest⟩ := h
  exact ⟨h1, h2, h3, h4, Nat.zero_le _, satAdd_le .., hrest⟩

theorem closeLostCycle_sound {s : State} (h : LifSound s.lif) : LifSound (closeLostCycle s).1.lif := by
  unfold closeLostCycle
  split
  · exact outcomeLost_sound (l := { s.lif with openCycle := false }) h
  · exact h

/-- What a train build leaves behind and the deferred cells that move in fill at most the queue (R2). -/
theorem buildTrain_sound {s : State} (h : LifSound s.lif) : LifSound (buildTrain s).lif := by
  obtain ⟨hqueue, hmessages, hdeferred, -, hrest⟩ := h
  refine ⟨?_, ?_, hdeferred.sublist (List.drop_sublist ..), List.Pairwise.nil, hrest⟩
  · have hkept : (dropOvertaken s.lif.carryList s.lif.commandQueue).length ≤ 32 := le_trans (List.length_filter_le ..) hqueue
    simp only [buildTrain, countLateEdges_lif, List.length_append, List.length_map, List.length_drop, List.length_take]
    omega
  · simp only [buildTrain, countLateEdges_lif, List.length_drop]
    omega

theorem beginCycle_sound {s : State} (h : LifSound s.lif) : LifSound (beginCycle s).1.lif := by
  obtain ⟨h1, h2, h3, h4, h5, h6, -, hrest⟩ :=
    buildTrain_sound (s := { s with lif := { s.lif with cycle := s.lif.cycle + 1, openCycle := true } }) h
  refine ⟨h1, h2, h3, h4, h5, h6, ?_, hrest⟩
  unfold beginCycle
  dsimp only
  split <;> omega

theorem blockComplete_sound {s : State} (h : LifSound s.lif) : LifSound (blockComplete s).1.lif := by
  obtain ⟨h1, h2, h3, h4, h5, h6, -, h8, h9, -, h11⟩ := h
  exact ⟨h1, h2, h3, h4, h5, h6, Nat.zero_le _, h8, Nat.zero_le _, h9, h11⟩

theorem pushReport_sound (r : ExitReport) {s : State} (h : LifSound s.lif) : LifSound (pushReport r s).lif := by
  unfold pushReport
  split
  · next hroom =>
    obtain ⟨hqueue, -, hrest⟩ := h
    refine ⟨hqueue, ?_, hrest⟩
    simpa [messageRoom] using hroom
  · exact h

/-! ## OUT's operations on LIF -/

theorem handCommand_sound (o : OutIx) {s : State} (h : LifSound s.lif) : LifSound (handCommand o s).lif := by
  unfold handCommand
  split
  · exact takeCommand_sound _ h
  · exact h

theorem formPure_sound (o : OutIx) {s : State} (h : LifSound s.lif) : LifSound (formPure o s).lif := by
  unfold formPure
  dsimp only
  split
  · exact h
  · refine handCommand_sound o ?_
    split
    · exact withdraw_sound o h
    · exact h

theorem handOperation_sound (op : FeederOperation) {s : State} (h : LifSound s.lif) : LifSound (handOperation op s).lif := by
  unfold handOperation
  dsimp only
  split
  · exact takeCommand_sound _ h
  · exact h

theorem handLastOperation_sound {s : State} (h : LifSound s.lif) : LifSound (handLastOperation s).lif := by
  unfold handLastOperation
  split
  · exact handOperation_sound _ h
  · exact h

theorem handDelivered_sound (o : OutIx) {s : State} (h : LifSound s.lif) : LifSound (handDelivered o s).1.lif := by
  unfold handDelivered
  dsimp only
  split
  · exact handLastOperation_sound h
  · split
    · exact handCommand_sound o (formPure_sound o h)
    · exact formPure_sound o h

theorem setAutomatic_sound (o : OutIx) (v : Nat) {s : State} (h : LifSound s.lif) : LifSound (setAutomatic o v s).1.lif :=
  formPure_sound o (s := setOutputRecord s o _) h

theorem directClose_sound (n : NozzleIx) {s : State} (h : LifSound s.lif) : LifSound (directClose n s).1.lif :=
  setAutomatic_sound _ 0 (s := { s with lif := withdraw (valveOutput n) s.lif }) (withdraw_sound _ h)

theorem refresh_sound {s : State} (h : LifSound s.lif) : LifSound (refresh s).1.lif := by
  unfold refresh
  (repeat' split) <;> first | exact h | exact handCommand_sound _ h

theorem timedEdge_sound (n : NozzleIx) (x : Bool) (duty delay : Nat) {s : State} (h : LifSound s.lif) :
    LifSound (timedEdge n x duty delay s).lif := by
  unfold timedEdge
  extract_lets o s1 v r s2
  have h1 : LifSound s1.lif := by
    change LifSound (ite _ _ _ : State).lif
    split
    · exact takeTimed_sound _ h
    · exact h
  split
  · exact h1
  · exact formPure_sound o (s := s2) h1

/-! ## FLX and POT at LIF -/

theorem lifSound_foldl {α : Type} {f : State → α → State} (h : ∀ s x, LifSound s.lif → LifSound (f s x).lif) :
    ∀ (l : List α) (s : State), LifSound s.lif → LifSound (l.foldl f s).lif
  | [], _, hs => hs
  | x :: l, s, hs => lifSound_foldl h l (f s x) (h s x hs)

theorem LifSound.of_same {bs : List Block} {s t : State} (h : LifSound s.lif) (k : Touches bs s t) (hb : Block.lif ∉ bs) :
    LifSound t.lif := by
  have e : t.lif = s.lif := k.same .lif hb
  rw [e]
  exact h

theorem applyGroup_sound (s : State) (g : Nat × List Edge) (h : LifSound s.lif) : LifSound (applyGroup s g).lif := by
  unfold applyGroup
  refine lifSound_foldl (fun t n ht => ?_) _ _ ?_
  · refine LifSound.of_same ?_ (planChange_touches ..) (by decide)
    unfold handValve
    dsimp only
    split
    · exact ht
    · exact timedEdge_sound _ _ _ _ ht
  · exact lifSound_foldl (fun t e ht => ht.of_same (applyEdge_touches t e) (by decide)) _ _ h

theorem flxTakeEdges_sound {s : State} (h : LifSound s.lif) : LifSound (flxTakeEdges s).1.lif := by
  have taken (v8 : Int) : LifSound (takeEdges v8 s).lif := by
    unfold takeEdges
    extract_lets taken late groups u
    exact LifSound.of_same (lifSound_foldl applyGroup_sound groups u h) (closeRuns_touches taken _) (by decide)
  unfold flxTakeEdges
  (repeat' split) <;> first | exact h | exact taken _

theorem flxEndingCloses_sound {s : State} (h : LifSound s.lif) : LifSound (flxEndingCloses s).1.lif := by
  unfold flxEndingCloses
  dsimp only
  refine lifSound_foldl (fun t n ht => ?_) _ _ h
  have hplan : LifSound (planChange s 0 n t).lif := ht.of_same (planChange_touches ..) (by decide)
  split
  · exact timedEdge_sound _ _ _ _ hplan
  · exact hplan

theorem startFeed_sound {s : State} (h : LifSound s.lif) : LifSound (startFeed s).lif := handOperation_sound _ h

theorem potGroup_sound (g : Group) {s : State} (h : LifSound s.lif) : LifSound (potGroup g s).1.lif := by
  unfold potGroup potActs
  (repeat' split) <;> first | exact h | exact handOperation_sound _ h

theorem feederRestart_sound {s : State} (h : LifSound s.lif) : LifSound (feederRestart s).1.lif := by
  unfold feederRestart
  dsimp only
  split <;> first | exact h | exact handOperation_sound _ h

theorem retire_sound (lost : Bool) {s : State} (h : LifSound s.lif) : LifSound (retire lost s).1.lif := by
  unfold retire
  split
  · exact h
  · exact pushReport_sound _ h

/-! ## Every step -/

theorem handle_lif (t : Task) (s : State) (h : LifSound s.lif) : LifSound (handle t s).1.lif := by
  by_cases ht : Block.lif ∈ touched t
  · cases t
    case closeLostCycle => exact closeLostCycle_sound h
    case beginCycle => exact beginCycle_sound h
    case blockComplete => exact blockComplete_sound h
    case refresh => exact refresh_sound h
    case setAutomatic o v => exact setAutomatic_sound o v h
    case formDelivered o => exact formPure_sound o h
    case handDelivered o => exact handDelivered_sound o h
    case directClose n => exact directClose_sound n h
    case retire lost => exact retire_sound lost h
    case flxEndingCloses => exact flxEndingCloses_sound h
    case flxTakeEdges => exact flxTakeEdges_sound h
    case potGroup g => exact potGroup_sound g h
    case feedEvaluate =>
      simp only [handle, feedEvaluate]
      split
      · exact startFeed_sound h
      · exact h
    case feederRestart => exact feederRestart_sound h
    all_goals simp [touched] at ht
  · exact h.of_same (handle_touches t s) ht

theorem beginning_lif {s : State} (b : Beginning) (h : LifSound s.lif) : LifSound (b.effect s).1.lif := by
  by_cases hb : Block.lif ∈ b.touched
  · cases b
    case feedNow => exact startFeed_sound h
    all_goals simp [Beginning.touched] at hb
  · exact h.of_same (b.effect_touches s) hb

theorem counted_lif {s t : State} (h : LifSound s.lif) (ht : Counted s t) : LifSound t.lif := by
  obtain ⟨h1, h2, h3, h4, h5, h6, h7, h8, h9, h10, h11⟩ := h
  cases ht with
  | discard v =>
    cases v
    case checkError => exact ⟨h1, h2, h3, h4, h5, h6, h7, satAdd_le .., satAdd_le .., h10, h11⟩
    case lateCell => exact ⟨h1, h2, h3, h4, h5, h6, h7, h8, h9, h10, satAdd_le ..⟩
    all_goals exact ⟨h1, h2, h3, h4, h5, h6, h7, h8, h9, h10, h11⟩
  | close cycle =>
    unfold closeCycle
    split
    · exact outcomeComplete_sound (l := { s.lif with openCycle := false }) ⟨h1, h2, h3, h4, h5, h6, h7, h8, h9, h10, h11⟩
    · exact ⟨h1, h2, h3, h4, h5, h6, h7, h8, h9, h10, satAdd_le ..⟩
  | dropped => exact ⟨h1, h2, h3, h4, h5, h6, h7, h8, h9, h10, h11⟩

theorem pushReply_sound {s : State} (dest tag : Byte) (status : ReplyStatus) (data : List Byte)
    (room : s.lif.messageQueue.length < messageRoom) (h : LifSound s.lif) : LifSound (pushReply dest tag status data s).lif := by
  obtain ⟨hqueue, -, hrest⟩ := h
  refine ⟨hqueue, ?_, hrest⟩
  rw [pushReply_lif_messageQueue, List.length_append, List.length_singleton]
  exact room

theorem lifSound_reset (p : List Instr) : LifSound { State.reset with pending := p }.lif := by
  simp [State.reset, Lif.reset, LifSound]

/-- Settles O4: each store grows only where there is room, and each count saturates. -/
theorem lifStaysSound : Obligations.LifStaysSound :=
  step_keeps (P := fun s => LifSound s.lif) (Q := fun s => LifSound s.lif) (fun _ h => h) (fun _ _ h => h) fun _ s _ hs h =>
    exec_keeps (P := fun s => LifSound s.lif) (lifSound_reset s.pending) (fun _ hu => counted_lif hs hu) (fun b _ => beginning_lif b hs)
      handle_lif (fun _ h => h) (fun _ dest tag status data room h => pushReply_sound dest tag status data room h) h

end Sys2Proof.Machine
end


section
/-! Which hand-overs each hand-over can make, said once by their kinds: what a chain of hand-overs can come to, and the blocks it leaves, is then
read off a table. -/

namespace Sys2Proof.Machine

/-- The kinds of hand-over: the constructors of `Task` without their operands. -/
inductive TaskKind where
  | closeLostCycle | beginCycle | blockComplete | giveLoopLost | giveSignalStale | staleDucts | refresh | loopDown
  | samplePosition | setAutomatic | formDelivered | handDelivered | directClose | condition | a41Btk | a41Hld | event
  | activate | deactivate | restartAlarms | restartGroup | encoder | encoderSilent | boardSensor | boardSensorSilent
  | entryLead | entryTail | exitLead | exitTail | missingTest | retire | entryBlocked | admission | conveyor | noMotion
  | defect | disposition | dispositionTold | flxNewRecord | flxLength | flxRework | flxRemoved | flxForcing | flxSample
  | flxAccount | flxRunEnds | flxRunEnd | flxEndingCloses | flxTakeEdges | flxConsume | fluxTank | loopArrival | loopSilent
  | tleGroup | tleConditions | tleRestart | phmNewRecord | phmRemoved | phmDecide | phmArm | phmPhase | pyrometer
  | pyrometerSilent | potTemperature | potEvaluate | potChanged | potAlarm | potGroup | potLine | potLeavesUnconfigured
  | setbackTimer | potNewRecord | potRemoved | potRecord | potSample | potGoverning | potWindows | potContact | potStatuses
  | pumpCommand | releasePumps | potNotReadyTest | pumpDelivered | pumpFeedback | pumpFeedbackSilent | pumpFault | levelArrival
  | levelSilent | levelConditions | feedEvaluate | feedFaulted | settleOver | settleFinish | feederRelease | feederRestart
  | duct1Demand | fanCommands | fanCommand | pumpReported | fanReported | fanGraceOver | ductConditions | ductSignal | flame
  | exmLeavesUnconfigured | holdCause | phaseTold | hldEncoder | reachHeld | heldBoards | holdLine | lineTold | drainingTest
  | configuredTest
  deriving DecidableEq, Repr

/-- The kind of a hand-over. -/
def Task.kind : Task → TaskKind
  | .closeLostCycle => .closeLostCycle
  | .beginCycle => .beginCycle
  | .blockComplete => .blockComplete
  | .giveLoopLost => .giveLoopLost
  | .giveSignalStale => .giveSignalStale
  | .staleDucts => .staleDucts
  | .refresh => .refresh
  | .loopDown => .loopDown
  | .samplePosition _ _ _ _ => .samplePosition
  | .setAutomatic _ _ => .setAutomatic
  | .formDelivered _ => .formDelivered
  | .handDelivered _ => .handDelivered
  | .directClose _ => .directClose
  | .condition _ _ _ => .condition
  | .a41Btk _ => .a41Btk
  | .a41Hld => .a41Hld
  | .event _ => .event
  | .activate _ _ => .activate
  | .deactivate _ => .deactivate
  | .restartAlarms => .restartAlarms
  | .restartGroup _ => .restartGroup
  | .encoder _ => .encoder
  | .encoderSilent => .encoderSilent
  | .boardSensor _ _ => .boardSensor
  | .boardSensorSilent _ => .boardSensorSilent
  | .entryLead _ => .entryLead
  | .entryTail _ => .entryTail
  | .exitLead _ => .exitLead
  | .exitTail => .exitTail
  | .missingTest => .missingTest
  | .retire _ => .retire
  | .entryBlocked _ => .entryBlocked
  | .admission => .admission
  | .conveyor => .conveyor
  | .noMotion => .noMotion
  | .defect _ _ => .defect
  | .disposition _ _ => .disposition
  | .dispositionTold _ => .dispositionTold
  | .flxNewRecord _ => .flxNewRecord
  | .flxLength _ => .flxLength
  | .flxRework _ => .flxRework
  | .flxRemoved _ => .flxRemoved
  | .flxForcing => .flxForcing
  | .flxSample => .flxSample
  | .flxAccount => .flxAccount
  | .flxRunEnds => .flxRunEnds
  | .flxRunEnd _ => .flxRunEnd
  | .flxEndingCloses => .flxEndingCloses
  | .flxTakeEdges => .flxTakeEdges
  | .flxConsume => .flxConsume
  | .fluxTank => .fluxTank
  | .loopArrival _ _ _ => .loopArrival
  | .loopSilent _ _ => .loopSilent
  | .tleGroup _ => .tleGroup
  | .tleConditions _ => .tleConditions
  | .tleRestart => .tleRestart
  | .phmNewRecord _ => .phmNewRecord
  | .phmRemoved _ => .phmRemoved
  | .phmDecide => .phmDecide
  | .phmArm => .phmArm
  | .phmPhase => .phmPhase
  | .pyrometer _ => .pyrometer
  | .pyrometerSilent => .pyrometerSilent
  | .potTemperature => .potTemperature
  | .potEvaluate _ => .potEvaluate
  | .potChanged _ => .potChanged
  | .potAlarm _ => .potAlarm
  | .potGroup _ => .potGroup
  | .potLine => .potLine
  | .potLeavesUnconfigured => .potLeavesUnconfigured
  | .setbackTimer => .setbackTimer
  | .potNewRecord _ => .potNewRecord
  | .potRemoved _ => .potRemoved
  | .potRecord => .potRecord
  | .potSample => .potSample
  | .potGoverning => .potGoverning
  | .potWindows => .potWindows
  | .potContact => .potContact
  | .potStatuses _ => .potStatuses
  | .pumpCommand _ => .pumpCommand
  | .releasePumps => .releasePumps
  | .potNotReadyTest => .potNotReadyTest
  | .pumpDelivered _ => .pumpDelivered
  | .pumpFeedback _ _ => .pumpFeedback
  | .pumpFeedbackSilent _ => .pumpFeedbackSilent
  | .pumpFault _ _ => .pumpFault
  | .levelArrival _ => .levelArrival
  | .levelSilent => .levelSilent
  | .levelConditions _ => .levelConditions
  | .feedEvaluate => .feedEvaluate
  | .feedFaulted => .feedFaulted
  | .settleOver => .settleOver
  | .settleFinish => .settleFinish
  | .feederRelease => .feederRelease
  | .feederRestart => .feederRestart
  | .duct1Demand => .duct1Demand
  | .fanCommands => .fanCommands
  | .fanCommand _ => .fanCommand
  | .pumpReported _ => .pumpReported
  | .fanReported _ => .fanReported
  | .fanGraceOver _ => .fanGraceOver
  | .ductConditions _ => .ductConditions
  | .ductSignal _ => .ductSignal
  | .flame _ => .flame
  | .exmLeavesUnconfigured => .exmLeavesUnconfigured
  | .holdCause _ => .holdCause
  | .phaseTold => .phaseTold
  | .hldEncoder => .hldEncoder
  | .reachHeld => .reachHeld
  | .heldBoards => .heldBoards
  | .holdLine _ => .holdLine
  | .lineTold _ => .lineTold
  | .drainingTest => .drainingTest
  | .configuredTest => .configuredTest

/-- The kinds of hand-over that a hand-over of a kind can make. -/
def emitted : TaskKind → List TaskKind
  | .closeLostCycle =>
    [.loopDown]
  | .beginCycle =>
    [.blockComplete]
  | .blockComplete | .giveLoopLost | .giveSignalStale | .a41Btk | .a41Hld | .entryBlocked | .fluxTank | .tleConditions
  | .tleRestart | .pumpFault | .levelConditions | .ductSignal | .flame =>
    [.condition]
  | .staleDucts | .ductConditions =>
    [.ductSignal]
  | .refresh | .boardSensorSilent | .flxRemoved | .flxAccount | .flxEndingCloses | .phmDecide | .phmPhase | .potContact
  | .feedEvaluate | .feedFaulted | .holdLine =>
    []
  | .loopDown | .encoderSilent =>
    [.noMotion]
  | .samplePosition =>
    [.loopArrival, .potTemperature, .pyrometer, .encoder, .boardSensor, .levelArrival, .fluxTank, .pumpFeedback, .ductSignal, .flame]
  | .setAutomatic | .formDelivered | .handDelivered | .directClose =>
    [.pumpDelivered, .pumpReported, .noMotion, .fanReported]
  | .condition | .event =>
    [.holdCause, .activate, .admission, .potAlarm]
  | .activate | .deactivate =>
    [.formDelivered, .flxForcing, .tleGroup, .potGroup]
  | .restartAlarms =>
    [.admission, .potAlarm]
  | .restartGroup =>
    [.deactivate]
  | .encoder =>
    [.defect, .missingTest, .entryBlocked, .admission, .noMotion, .a41Btk, .flxSample, .phmDecide, .phmArm, .potSample, .duct1Demand, .hldEncoder]
  | .boardSensor =>
    [.exitLead, .exitTail, .entryLead, .entryTail]
  | .entryLead =>
    [.event, .admission, .flxNewRecord, .phmNewRecord, .potNewRecord, .duct1Demand, .entryBlocked]
  | .entryTail =>
    [.flxLength, .phmDecide, .potRecord, .admission, .entryBlocked]
  | .exitLead =>
    [.event, .retire, .exitLead]
  | .exitTail =>
    [.defect, .retire]
  | .missingTest =>
    [.retire, .missingTest]
  | .retire =>
    [.flxRemoved, .phmRemoved, .potRemoved, .duct1Demand, .event, .entryBlocked, .admission, .drainingTest]
  | .admission | .conveyor | .tleGroup | .pumpCommand | .fanCommand =>
    [.setAutomatic]
  | .noMotion =>
    [.a41Btk]
  | .defect | .disposition =>
    [.dispositionTold]
  | .dispositionTold =>
    [.flxRework, .potGoverning, .holdLine]
  | .flxNewRecord | .flxLength | .flxRework =>
    [.duct1Demand]
  | .flxForcing =>
    [.defect, .directClose]
  | .flxSample =>
    [.flxAccount, .flxRunEnds, .flxEndingCloses, .flxTakeEdges]
  | .flxRunEnds =>
    [.flxRunEnd]
  | .flxRunEnd =>
    [.duct1Demand, .defect, .event]
  | .flxTakeEdges =>
    [.flxConsume, .duct1Demand]
  | .flxConsume =>
    [.defect, .flxConsume]
  | .loopArrival | .loopSilent =>
    [.setAutomatic, .tleConditions]
  | .phmNewRecord | .phmRemoved =>
    [.phmDecide]
  | .phmArm | .pyrometerSilent | .heldBoards =>
    [.defect]
  | .pyrometer =>
    [.defect, .event]
  | .potTemperature | .setbackTimer =>
    [.potEvaluate]
  | .potEvaluate =>
    [.potChanged, .potEvaluate]
  | .potChanged =>
    [.pumpCommand, .releasePumps, .potNotReadyTest, .feedEvaluate, .setbackTimer, .admission]
  | .potAlarm =>
    [.potChanged, .potEvaluate, .potAlarm]
  | .potGroup =>
    [.potEvaluate, .pumpCommand, .feedEvaluate]
  | .potLine =>
    [.potEvaluate, .setbackTimer]
  | .potLeavesUnconfigured =>
    [.potEvaluate, .levelConditions]
  | .potNewRecord =>
    [.potGoverning, .potWindows, .potStatuses, .setbackTimer]
  | .potRemoved =>
    [.potGoverning, .potStatuses, .setbackTimer]
  | .potRecord =>
    [.potGoverning, .potWindows, .potStatuses]
  | .potSample =>
    [.potGoverning, .potWindows, .potContact, .potStatuses]
  | .potGoverning =>
    [.pumpCommand]
  | .potWindows | .potNotReadyTest =>
    [.event]
  | .potStatuses | .feederRelease | .feederRestart =>
    [.feedEvaluate]
  | .releasePumps =>
    [.formDelivered]
  | .pumpDelivered | .pumpFeedback | .pumpFeedbackSilent =>
    [.pumpFault]
  | .levelArrival | .levelSilent =>
    [.potEvaluate, .feedEvaluate, .levelConditions]
  | .settleOver =>
    [.event, .settleFinish]
  | .settleFinish =>
    [.event, .feedFaulted, .feedEvaluate]
  | .duct1Demand | .pumpReported =>
    [.fanCommands]
  | .fanCommands =>
    [.fanCommand]
  | .fanReported =>
    [.ductConditions, .fanGraceOver]
  | .fanGraceOver =>
    [.ductConditions]
  | .exmLeavesUnconfigured =>
    [.fanCommands, .ductConditions]
  | .holdCause =>
    [.dispositionTold, .phaseTold]
  | .phaseTold =>
    [.conveyor, .admission, .noMotion, .flxForcing, .phmPhase, .pumpCommand, .drainingTest]
  | .hldEncoder =>
    [.reachHeld, .a41Hld, .phaseTold]
  | .reachHeld =>
    [.a41Hld, .heldBoards, .phaseTold]
  | .lineTold =>
    [.conveyor, .admission, .flxForcing, .potLeavesUnconfigured, .potLine, .exmLeavesUnconfigured]
  | .drainingTest | .configuredTest =>
    [.lineTold]

/-! ## Lists of kinds -/

/-- Every hand-over of a list is of one of the kinds. -/
def Among (ks : List TaskKind) (ts : List Task) : Prop := (ts.all fun u => ks.contains u.kind) = true

theorem among_iff {ks : List TaskKind} {ts : List Task} : Among ks ts ↔ ∀ u ∈ ts, u.kind ∈ ks := by
  simp only [Among, List.all_eq_true, List.contains_iff_mem]

theorem among_nil (ks : List TaskKind) : Among ks [] := rfl

theorem Among.append {ks : List TaskKind} {l m : List Task} (h : Among ks l) (k : Among ks m) : Among ks (l ++ m) :=
  among_iff.mpr fun u hu => (List.mem_append.mp hu).elim (among_iff.mp h u) (among_iff.mp k u)

theorem among_map {α : Type} {ks : List TaskKind} {f : α → Task} (h : ∀ x, ks.contains (f x).kind = true) (l : List α) :
    Among ks (l.map f) := by
  refine among_iff.mpr fun u hu => ?_
  obtain ⟨x, -, rfl⟩ := List.mem_map.mp hu
  exact List.contains_iff_mem.mp (h x)

theorem among_flatMap {α : Type} {ks : List TaskKind} {f : α → List Task} (h : ∀ x, Among ks (f x)) (l : List α) :
    Among ks (l.flatMap f) := by
  refine among_iff.mpr fun u hu => ?_
  obtain ⟨x, -, hx⟩ := List.mem_flatMap.mp hu
  exact among_iff.mp (h x) u hx

theorem Among.ite {ks : List TaskKind} {p : Prop} [Decidable p] {l m : List Task} (h : Among ks l) (k : Among ks m) :
    Among ks (if p then l else m) := by split <;> assumption

theorem Among.mono {ks js : List TaskKind} {l : List Task} (h : Among ks l) (sub : ks ⊆ js) : Among js l :=
  among_iff.mpr fun u hu => sub (among_iff.mp h u hu)

/-! ## The lists that several blocks hand over -/

theorem deliveredReports_among (o : OutIx) :
    Among [.pumpDelivered, .pumpReported, .noMotion, .fanReported] (deliveredReports o) := by
  unfold deliveredReports
  (repeat' split) <;> exact rfl

theorem formDelivered_among (o : OutIx) (s : State) :
    Among [.pumpDelivered, .pumpReported, .noMotion, .fanReported] (formDelivered o s).2 :=
  .ite (among_nil _) (deliveredReports_among o)

theorem potTold_among (a : AlarmIx) (set : Bool) : Among [.potAlarm] (potTold a set) := by
  unfold potTold
  split <;> exact rfl

theorem raiseTasks_among (links : BitVec 8) (a : AlarmIx) (x : AlarmState) :
    Among [.holdCause, .activate, .admission, .potAlarm] (raiseTasks links a x) := by
  unfold raiseTasks
  refine .append (.append (.append ?_ (among_map (fun _ => rfl) _)) ?_) ((potTold_among a _).mono (by decide))
  all_goals split <;> exact rfl

theorem clearTasks_among (links : BitVec 8) (a : AlarmIx) : Among [.admission, .potAlarm] (clearTasks links a) := by
  unfold clearTasks
  refine .append ?_ ((potTold_among a _).mono (by decide))
  split <;> exact rfl

theorem changeTasks_among (links : BitVec 8) (a : AlarmIx) (x y : AlarmState) :
    Among [.holdCause, .activate, .admission, .potAlarm] (changeTasks links a x y) := by
  unfold changeTasks
  split
  · exact among_nil _
  · split
    · exact raiseTasks_among links a x
    · split
      · exact (potTold_among a _).mono (by decide)
      · exact .ite ((clearTasks_among links a).mono (by decide)) (among_nil _)

theorem groupChange_among (g : Group) :
    Among [.formDelivered, .flxForcing, .tleGroup, .potGroup] ((groupOutputs g).map Task.formDelivered ++ groupTold g) :=
  .append (among_map (fun _ => rfl) _) (by cases g <;> exact rfl)

theorem arrivalTasks_among (i : SigIx) (status : SampleStatus) (x : Int) : Among (emitted .samplePosition) (arrivalTasks i status x) := by
  unfold arrivalTasks
  dsimp only
  (repeat' split) <;> exact rfl

/-- What POT makes is among what its own effect makes: an idle POT hands nothing. -/
theorem potActs_among {ks : List TaskKind} (s : State) {e : Effect} (h : Among ks e.2) : Among ks (potActs s e).2 := by
  unfold potActs
  split
  · exact among_nil _
  · exact h

theorem setLevel_among (w : List Int) (l : Option Int) (s : State) : Among (emitted .levelArrival) (setLevel w l s).2 := by
  refine .append ?_ (rfl)
  split <;> exact rfl

theorem enterWindow_among (w : Wave) (s : State) : Among [.event] (enterWindow w s).2 :=
  .ite (among_nil _) (among_map (fun _ => rfl) _)

theorem invalidArrival_among (l : LoopIx) (s : State) : Among (emitted .loopArrival) (invalidArrival l s).2 := by
  unfold invalidArrival
  dsimp only
  split <;> exact rfl

theorem bandTasks_among (s : State) (x : Int) (n : BoardNo) : Among (emitted .pyrometer) (bandTasks s x n) := by
  unfold bandTasks
  (repeat' split) <;> exact rfl

/-! ## The hand-overs -/

/-- A hand-over makes hand-overs of the kinds of its table entry only. -/
theorem handle_emits (t : Task) (s : State) : Among (emitted t.kind) (handle t s).2 := by
  cases t
  case samplePosition src channel code v =>
    simp only [handle, samplePosition]
    split
    · exact among_nil _
    · exact arrivalTasks_among ..
  case setAutomatic o v => exact formDelivered_among o _
  case formDelivered o => exact formDelivered_among o s
  case directClose n => exact formDelivered_among _ _
  case handDelivered o =>
    simp only [handle, handDelivered]
    (repeat' split) <;> first | exact deliveredReports_among o | rfl
  case condition a value evaluation =>
    simp only [handle, takeCondition]
    split <;> first | exact changeTasks_among .. | rfl
  case event a =>
    simp only [handle, takeEvent]
    split <;> first | exact raiseTasks_among .. | rfl
  case activate g c =>
    simp only [handle, activateGroup]
    split <;> first | exact groupChange_among g | rfl
  case deactivate g =>
    simp only [handle, deactivateGroup]
    split <;> first | exact groupChange_among g | rfl
  case restartAlarms => exact among_flatMap (fun a => clearTasks_among _ a) _
  case staleDucts => exact among_map (fun _ => rfl) _
  case encoder status =>
    simp only [handle, encoder]
    split
    · exact .append (among_map (fun _ => rfl) _) (rfl)
    · rfl
  case flxForcing =>
    simp only [handle, flxForcing]
    split
    · exact .append (among_map (fun _ => rfl) _) (among_map (fun _ => rfl) _)
    · exact among_nil _
  case flxRunEnds => exact among_map (fun _ => rfl) _
  case loopArrival l i status =>
    simp only [handle, loopArrival, ownArrival, otherArrival]
    (repeat' split) <;> first | exact invalidArrival_among l s | rfl
  case tleGroup g =>
    simp only [handle, tleGroup]
    split <;> first | exact among_map (fun _ => rfl) _ | rfl
  case tleRestart => exact among_map (fun _ => rfl) _
  case phmArm => exact .ite (among_nil _) (among_map (fun _ => rfl) _)
  case pyrometerSilent => exact among_map (fun _ => rfl) _
  case pyrometer status =>
    simp only [handle, pyrometer]
    split
    · exact among_flatMap (fun n => bandTasks_among s _ n) _
    · exact among_map (fun _ => rfl) _
  case potWindows => exact potActs_among s (.append (enterWindow_among ..) (enterWindow_among ..))
  case levelArrival status =>
    refine potActs_among s ?_
    (repeat' split) <;> exact setLevel_among ..
  case levelSilent => exact potActs_among s (setLevel_among ..)
  case holdCause c =>
    simp only [handle, holdCause]
    (repeat' split) <;> first | rfl | exact .append (among_map (fun _ => rfl) _) (rfl)
  case heldBoards => exact among_map (fun _ => rfl) _
  case ductConditions d => exact among_map (fun _ => rfl) _
  case ductSignal i =>
    simp only [handle, ductSignal, giveDuctCondition]
    (repeat' split) <;> rfl
  case potTemperature => exact potActs_among s rfl
  case potLine => exact potActs_among s rfl
  case potNewRecord => exact potActs_among s rfl
  case potRemoved => exact potActs_among s rfl
  case potRecord => exact potActs_among s rfl
  case potSample => exact potActs_among s rfl
  case potGoverning => exact potActs_among s rfl
  case potContact => exact potActs_among s rfl
  case pumpCommand => exact potActs_among s rfl
  case pumpDelivered => exact potActs_among s rfl
  case pumpFeedback => exact potActs_among s rfl
  case pumpFeedbackSilent => exact potActs_among s rfl
  case closeLostCycle =>
    simp only [handle, closeLostCycle]
    (repeat' split) <;> rfl
  case beginCycle =>
    simp only [handle, beginCycle]
    (repeat' split) <;> rfl
  case refresh =>
    simp only [handle, refresh]
    (repeat' split) <;> rfl
  case boardSensor exit status =>
    simp only [handle, boardSensor]
    (repeat' split) <;> rfl
  case entryLead captured =>
    simp only [handle, entryLead]
    (repeat' split) <;> rfl
  case entryTail captured =>
    simp only [handle, entryTail]
    (repeat' split) <;> rfl
  case exitLead captured =>
    simp only [handle, exitLead]
    (repeat' split) <;> rfl
  case exitTail =>
    simp only [handle, exitTail]
    (repeat' split) <;> rfl
  case missingTest =>
    simp only [handle, missingTest]
    (repeat' split) <;> rfl
  case retire lost =>
    simp only [handle, retire]
    (repeat' split) <;> rfl
  case restartGroup g =>
    simp only [handle, restartGroup]
    (repeat' split) <;> rfl
  case admission =>
    simp only [handle, admission]
    (repeat' split) <;> rfl
  case noMotion =>
    simp only [handle, noMotion]
    (repeat' split) <;> rfl
  case defect n d =>
    simp only [handle, writeDefect]
    (repeat' split) <;> rfl
  case disposition n d =>
    simp only [handle, writeDisposition]
    (repeat' split) <;> rfl
  case dispositionTold n =>
    simp only [handle, dispositionTold]
    (repeat' split) <;> rfl
  case flxNewRecord n =>
    simp only [handle, flxNewRecord]
    (repeat' split) <;> rfl
  case flxLength n =>
    simp only [handle, flxLength]
    (repeat' split) <;> rfl
  case flxRework n =>
    simp only [handle, flxRework]
    (repeat' split) <;> rfl
  case flxSample =>
    simp only [handle, flxSample]
    (repeat' split) <;> rfl
  case flxRunEnd n =>
    simp only [handle, flxRunEnd]
    (repeat' split) <;> rfl
  case flxTakeEdges =>
    simp only [handle, flxTakeEdges]
    (repeat' split) <;> rfl
  case flxConsume =>
    simp only [handle, flxConsume]
    (repeat' split) <;> rfl
  case loopSilent l i =>
    simp only [handle, loopSilent]
    (repeat' split) <;> rfl
  case potEvaluate why =>
    simp only [handle, potEvaluate, potActs]
    (repeat' split) <;> rfl
  case potChanged old =>
    simp only [handle, potChanged]
    (repeat' split) <;> rfl
  case potAlarm set =>
    simp only [handle, potAlarm, potActs]
    (repeat' split) <;> rfl
  case potGroup g =>
    simp only [handle, potGroup, potActs]
    (repeat' split) <;> rfl
  case setbackTimer =>
    simp only [handle, setbackTimer, potActs]
    (repeat' split) <;> rfl
  case potStatuses atSample =>
    simp only [handle, potStatuses, potActs]
    (repeat' split) <;> rfl
  case potNotReadyTest =>
    simp only [handle, potNotReadyTest]
    (repeat' split) <;> rfl
  case settleOver =>
    simp only [handle, settleOver]
    (repeat' split) <;> rfl
  case settleFinish =>
    simp only [handle, settleFinish]
    (repeat' split) <;> rfl
  case feederRelease =>
    simp only [handle, feederRelease, potActs]
    (repeat' split) <;> rfl
  case feederRestart =>
    simp only [handle, feederRestart]
    (repeat' split) <;> rfl
  case fanCommand d =>
    simp only [handle, fanCommand]
    (repeat' split) <;> rfl
  case fanReported d =>
    simp only [handle, fanReported]
    (repeat' split) <;> rfl
  case fanGraceOver d =>
    simp only [handle, fanGraceOver]
    (repeat' split) <;> rfl
  case phaseTold =>
    simp only [handle, phaseTold]
    (repeat' split) <;> rfl
  case holdLine n =>
    simp only [handle, holdLine]
    (repeat' split) <;> rfl
  case hldEncoder =>
    simp only [handle, hldEncoder, endEpisode]
    (repeat' split) <;> rfl
  case reachHeld =>
    simp only [handle, reachHeld]
    (repeat' split) <;> rfl
  case lineTold old =>
    simp only [handle, lineTold]
    (repeat' split) <;> rfl
  case drainingTest =>
    simp only [handle, drainingTest]
    (repeat' split) <;> rfl
  case configuredTest =>
    simp only [handle, configuredTest]
    (repeat' split) <;> rfl
  all_goals rfl

/-! ## Events of some kinds -/

/-- The blocks that a hand-over of a kind can change. -/
def blocksOf : TaskKind → List Block
  | .closeLostCycle | .blockComplete | .refresh => [.lif]
  | .beginCycle => [.lif, .flx]
  | .giveLoopLost | .giveSignalStale | .staleDucts | .restartGroup | .missingTest | .entryBlocked | .conveyor
  | .dispositionTold | .flxSample | .flxRunEnds | .tleConditions | .tleRestart | .potChanged | .potLine
  | .potRecord | .potSample | .pumpCommand | .potNotReadyTest | .levelConditions | .fanCommands
  | .ductConditions | .phaseTold | .lineTold => []
  | .loopDown | .encoderSilent => [.btk, .pot, .hld]
  | .samplePosition => [.sig]
  | .setAutomatic | .formDelivered | .handDelivered | .directClose => [.lif, .out]
  | .condition | .a41Btk | .a41Hld | .event | .deactivate | .restartAlarms => [.acu]
  | .activate => [.acu, .out]
  | .encoder | .boardSensor | .boardSensorSilent | .entryTail | .exitLead | .exitTail | .admission
  | .noMotion | .defect | .disposition => [.btk]
  | .entryLead => [.btk, .tbs]
  | .retire => [.btk, .tbs, .lif, .mru]
  | .flxNewRecord | .flxLength | .flxRework | .flxAccount | .flxRunEnd => [.flx, .btk]
  | .flxRemoved | .flxForcing | .flxConsume | .fluxTank => [.flx]
  | .flxEndingCloses => [.flx, .lif, .out]
  | .flxTakeEdges => [.flx, .btk, .lif, .out]
  | .loopArrival | .loopSilent | .tleGroup => [.tle]
  | .phmNewRecord | .phmRemoved | .phmDecide | .phmArm | .phmPhase | .pyrometerSilent => [.phm]
  | .pyrometer => [.phm, .btk]
  | .potTemperature | .potEvaluate | .potAlarm | .potLeavesUnconfigured | .setbackTimer | .potNewRecord
  | .potRemoved | .potGoverning | .potWindows | .pumpDelivered | .pumpFeedback | .pumpFeedbackSilent
  | .pumpFault | .levelArrival | .levelSilent | .feedFaulted | .settleOver | .settleFinish | .feederRelease => [.pot]
  | .potGroup | .feedEvaluate | .feederRestart => [.pot, .out, .lif]
  | .potContact | .potStatuses => [.pot, .btk]
  | .releasePumps => [.out]
  | .duct1Demand | .fanCommand | .pumpReported | .fanReported | .fanGraceOver | .ductSignal | .flame
  | .exmLeavesUnconfigured => [.exm]
  | .holdCause => [.hld, .btk]
  | .hldEncoder | .reachHeld | .heldBoards | .holdLine => [.hld]
  | .drainingTest | .configuredTest => [.mru]

theorem touched_eq_blocksOf (t : Task) : touched t = blocksOf t.kind := by cases t <;> rfl

/-- The hand-overs of some kinds make hand-overs of these kinds only. -/
def closedKinds (ks : List TaskKind) : Bool := ks.all fun k => (emitted k).all fun j => ks.contains j

/-- No hand-over of some kinds can change a block. -/
def sparedBy (b : Block) (ks : List TaskKind) : Bool := ks.all fun k => !(blocksOf k).contains b

theorem handle_among {ks : List TaskKind} (hc : closedKinds ks = true) {t : Task} (s : State) (ht : t.kind ∈ ks) :
    Among ks (handle t s).2 := by
  refine (handle_emits t s).mono fun j hj => ?_
  exact List.contains_iff_mem.mp (List.all_eq_true.mp (List.all_eq_true.mp hc t.kind ht) j hj)

/-- What every hand-over of some kinds keeps, an event of these kinds keeps. -/
theorem settle_kinds {P : State → Prop} (ks : List TaskKind) (hc : closedKinds ks = true)
    (keeps : ∀ t s, t.kind ∈ ks → P s → P (handle t s).1) (mark : ∀ s, P s → P { s with overrun := true })
    (n : Nat) (ts : List Task) (s : State) (ht : Among ks ts) (h : P s) : P (settle n ts s) :=
  settle_keeps (Q := fun t => t.kind ∈ ks) keeps (fun _ s ht _ => among_iff.mp (handle_among hc s ht)) mark n ts s (among_iff.mp ht) h

theorem sameBlock_trans {b : Block} {s t u : State} (h : sameBlock b s t) (k : sameBlock b t u) : sameBlock b s u := by
  cases b <;> exact Eq.trans k h

theorem handle_spares {b : Block} {ks : List TaskKind} (hb : sparedBy b ks = true) {t : Task} (s : State) (ht : t.kind ∈ ks) :
    sameBlock b s (handle t s).1 := by
  refine (handle_touches t s).same b ?_
  rw [touched_eq_blocksOf]
  simpa using List.all_eq_true.mp hb t.kind ht

/-- An event of some kinds leaves a block that they cannot change. -/
theorem settle_spares (b : Block) (hno : b ≠ .overrun) (ks : List TaskKind) (hc : closedKinds ks = true) (hb : sparedBy b ks = true)
    (n : Nat) (ts : List Task) (s : State) (ht : Among ks ts) : sameBlock b s (settle n ts s) := by
  refine settle_kinds (P := sameBlock b s) ks hc (fun t u hu h => sameBlock_trans h (handle_spares hb u hu)) (fun u h => ?_) n ts s ht ?_
  · cases b <;> first | exact absurd rfl hno | exact h
  · cases b <;> rfl

/-! ## What the events begin with -/

/-- The kinds of hand-over that tell the users of a signal of its silence (R18, R19). -/
def silentKinds : List TaskKind :=
  [.loopSilent, .potTemperature, .pyrometerSilent, .encoderSilent, .boardSensorSilent, .levelSilent, .fluxTank, .pumpFeedbackSilent,
   .ductSignal, .flame]

/-- The kinds of hand-over that a beginning can make. -/
def Beginning.first : Beginning → List TaskKind
  | .cycleStart => [.closeLostCycle, .beginCycle, .giveLoopLost, .giveSignalStale, .staleDucts, .refresh]
  | .blockComplete => [.blockComplete]
  | .sample _ => [.samplePosition]
  | .completion _ _ _ _ => [.settleOver, .event, .feedFaulted]
  | .staleTimer _ => silentKinds
  | .noMotionTimer => [.a41Btk]
  | .meltTimer | .setbackTimer | .setback _ => [.potEvaluate]
  | .pumpGrace _ => [.pumpFault]
  | .feedTimer => [.event, .feedFaulted]
  | .settleTimer => [.event, .settleFinish]
  | .fanGrace _ => [.ductConditions]
  | .stopTimer => [.a41Hld, .reachHeld]
  | .resumeTimer => [.a41Hld]
  | .noEffect | .stage _ _ _ _ _ | .discard _ | .lockLimits | .ackHold | .feedNow => []
  | .commit _ _ _ _ =>
    silentKinds ++ [.handDelivered, .formDelivered, .admission, .conveyor, .feedEvaluate, .holdCause, .activate, .potAlarm, .configuredTest]
  | .removeRecipe _ | .selectNext _ => [.admission]
  | .start _ | .enterMaintenance _ => [.lineTold]
  | .stop _ => [.lineTold, .drainingTest]
  | .leaveMaintenance => [.formDelivered, .lineTold]
  | .hold _ => [.holdCause]
  | .rework _ | .goOn _ => [.disposition]
  | .resume => [.phaseTold]
  | .setSpeed _ => [.conveyor]
  | .setOutput _ _ => [.formDelivered]
  | .restart =>
    [.conveyor, .admission, .noMotion, .entryBlocked, .directClose, .flxForcing, .setAutomatic, .phmDecide, .feederRestart, .setbackTimer,
     .potLine, .potGoverning, .duct1Demand, .formDelivered, .restartAlarms, .restartGroup, .tleRestart]
  | .ackLatched _ _ => [.admission, .potAlarm, .feederRelease]
  | .ackClear _ => [.feederRelease]
  | .forceCutoff _ _ => [.activate]
  | .clearCutoff _ => [.deactivate]

theorem silentTasks_among (i : SigIx) : Among silentKinds (silentTasks i) := by
  unfold silentTasks
  dsimp only
  (repeat' split) <;> rfl

theorem sampleTasks_among (x : SampleCell) : Among [.samplePosition] (sampleTasks x) := .ite rfl rfl

theorem applyEntry_among (a : AlarmIx) (new : AlarmEntry) (s : State) :
    Among [.holdCause, .activate, .admission, .potAlarm] (applyEntry a new s).2 := by
  unfold applyEntry
  extract_lets old r next r' s' set
  exact .append (.append (changeTasks_among ..) (.ite (among_map (fun _ => rfl) _) rfl)) (.ite rfl rfl)

theorem writeEntry_among (k : TableKind) (index : Nat) (staged m : FieldMap) (s : State) :
    Among (silentKinds ++ [.handDelivered, .formDelivered, .admission, .conveyor, .feedEvaluate, .holdCause, .activate, .potAlarm,
      .configuredTest]) (writeEntry k index staged m s).2 := by
  cases k with
  | channel => exact among_flatMap (fun i => (silentTasks_among i).mono (List.subset_append_left ..)) _
  | output => exact among_map (fun o => by split <;> rfl) _
  | line =>
    unfold writeEntry
    dsimp only
    split <;> rfl
  | alarm => exact (applyEntry_among ..).mono (by decide)
  | geometry | limits | tuning | recipe => rfl

theorem restartTasks_among (line : LineState) : Among Beginning.restart.first (restartTasks line) := by
  unfold restartTasks
  refine .append (.append (.append (.append (.append (.append (.append (.append rfl ?_) rfl) ?_) ?_) ?_) rfl) ?_) rfl
  case refine_3 => split <;> rfl
  all_goals exact among_map (fun _ => rfl) _

/-- A beginning makes hand-overs of the kinds of its table entry only. -/
theorem Beginning.effect_among (b : Beginning) (s : State) : Among b.first (b.effect s).2 := by
  cases b
  case sample x => exact sampleTasks_among x
  case completion =>
    refine potActs_among s ?_
    (repeat' split) <;> rfl
  case staleTimer i =>
    simp only [Beginning.effect, staleExpiry]
    split
    · exact silentTasks_among i
    · rfl
  case commit r k index x => exact (writeEntry_among ..).append rfl
  case leaveMaintenance => exact .append (among_map (fun _ => rfl) _) rfl
  case restart => exact restartTasks_among _
  case ackLatched r a =>
    simp only [Beginning.effect, acknowledged, ackTasks]
    refine .append ?_ (.ite rfl rfl)
    split
    · exact (clearTasks_among ..).mono (by simp [Beginning.first])
    · rfl
  case ackClear a => exact .ite rfl rfl
  case noMotionTimer | meltTimer | setbackTimer | pumpGrace | feedTimer | settleTimer | fanGrace | stopTimer | resumeTimer =>
    simp only [Beginning.effect, noMotionExpiry, meltDwellExpiry, setbackExpiry, pumpGraceExpiry, feedExpiry, settleOver, fanGraceOver,
      stopExpiry, resumeExpiry]
    (repeat' split) <;> rfl
  all_goals rfl


end Sys2Proof.Machine
end


section
/-! The hold controller (12): the phase lives inside RUN and DRAINING, with its record and its timers. -/

namespace Sys2Proof.Machine

/-- The hold phase, the record, the timers and the counts of HLD, in the line state of MRU, meet the invariant of 12. -/
def HoldFits (line : LineState) (h : Hld) : Prop :=
  (h.phase ≠ .none → line = .run ∨ line = .draining)
  ∧ (h.phase ≠ .none → h.record.isSome = true)
  ∧ (h.stopTimer.isSome = true → h.phase = .stopping)
  ∧ (h.resumeTimer.isSome = true → h.phase = .resuming)
  ∧ h.stillCount ≤ 4
  ∧ ∀ r, h.record = some r → r.later.length ≤ 7 ∧ r.notListed ≤ 255

theorem holdSound_iff (s : State) : HoldSound s ↔ HoldFits s.mru.line s.hld := Iff.rfl

theorem HoldSound.of_eq {s t : State} (h : HoldSound s) (hl : t.mru.line = s.mru.line) (hh : t.hld = s.hld) : HoldSound t := by
  rw [holdSound_iff, hl, hh]
  exact h

/-- Out of an episode any line state will do. -/
theorem HoldFits.of_none {line : LineState} {h : Hld} (k : HoldFits line h) (hp : h.phase = .none) (other : LineState) : HoldFits other h := by
  obtain ⟨-, -, h3, h4, h5, h6⟩ := k
  exact ⟨fun hn => absurd hp hn, fun hn => absurd hp hn, h3, h4, h5, h6⟩

/-- The record may change as long as it is there when it was and its lists stay within their ranges. -/
theorem HoldFits.map_record {line : LineState} {h : Hld} (k : HoldFits line h) (f : HoldRecord → HoldRecord)
    (hf : ∀ r, r.later.length ≤ 7 ∧ r.notListed ≤ 255 → (f r).later.length ≤ 7 ∧ (f r).notListed ≤ 255) :
    HoldFits line { h with record := h.record.map f } := by
  obtain ⟨h1, h2, h3, h4, h5, h6⟩ := k
  refine ⟨h1, fun hn => by simpa using h2 hn, h3, h4, h5, fun r hr => ?_⟩
  obtain ⟨x, hx, rfl⟩ := Option.map_eq_some_iff.mp hr
  exact hf x (h6 x hx)

/-- The still count may be any count up to four. -/
theorem HoldFits.set_still {line : LineState} {h : Hld} (k : HoldFits line h) {n : Nat} (hn : n ≤ 4) :
    HoldFits line { h with stillCount := n } := by
  obtain ⟨h1, h2, h3, h4, -, h6⟩ := k
  exact ⟨h1, h2, h3, h4, hn, h6⟩

/-! ## The hand-overs of HLD -/

theorem joinRecord_bounds (c : Cause) (r : HoldRecord) (h : r.later.length ≤ 7 ∧ r.notListed ≤ 255) :
    (joinRecord c r).later.length ≤ 7 ∧ (joinRecord c r).notListed ≤ 255 := by
  unfold joinRecord
  split
  · refine ⟨?_, h.2⟩
    rw [List.length_append, List.length_singleton]
    omega
  · exact ⟨h.1, satAdd_le ..⟩

theorem newEpisode_hold (c : Cause) {s : State} (hl : lineTakesHolds s = true) : HoldSound (newEpisode c s).1 := by
  have hline : s.mru.line = .run ∨ s.mru.line = .draining := by simpa [lineTakesHolds] using hl
  refine ⟨fun _ => hline, fun _ => rfl, fun _ => rfl, fun h => ?_, Nat.zero_le _, fun r hr => ?_⟩
  · cases h
  · cases hr
    exact ⟨Nat.zero_le _, Nat.zero_le _⟩

theorem holdCause_hold (c : Cause) {s : State} (h : HoldSound s) : HoldSound (holdCause c s).1 := by
  unfold holdCause
  split
  · next hl =>
    split
    · exact newEpisode_hold c hl
    · exact newEpisode_hold c hl
    · exact HoldFits.map_record h _ (joinRecord_bounds c)
    · exact HoldFits.map_record h _ (joinRecord_bounds c)
  · exact h

theorem hldEncoder_hold {s : State} (h : HoldSound s) : HoldSound (hldEncoder s).1 := by
  unfold hldEncoder
  split
  · refine HoldFits.set_still h ?_
    unfold nextStill
    split
    · exact satAdd_le ..
    · exact Nat.zero_le _
  · split
    · obtain ⟨-, -, -, -, h5, h6⟩ := h
      exact ⟨fun hn => absurd rfl hn, fun hn => absurd rfl hn, nofun, nofun, h5, h6⟩
    · exact h
  · exact h
  · exact h

/-- HELD is reached from an episode in progress alone. -/
theorem reachHeld_hold {s : State} (h : HoldSound s) (hp : s.hld.phase ≠ .none) : HoldSound (reachHeld s).1 := by
  obtain ⟨h1, h2, -, -, h5, h6⟩ := h
  refine ⟨fun _ => h1 hp, fun _ => by simpa [reachHeld] using h2 hp, nofun, nofun, h5, fun r hr => ?_⟩
  obtain ⟨x, hx, rfl⟩ := Option.map_eq_some_iff.mp hr
  exact h6 x hx

theorem heldBoards_hold {s : State} (h : HoldSound s) : HoldSound (heldBoards s).1 := HoldFits.map_record h _ fun _ hr => hr

theorem holdLine_hold (n : BoardNo) {s : State} (h : HoldSound s) : HoldSound (holdLine n s).1 := by
  unfold holdLine
  split
  · exact h
  · exact HoldFits.map_record h _ fun _ hr => hr

theorem encoderGap_hold {s : State} (h : HoldSound s) : HoldSound (encoderGap s).1 := by
  have hstill : s.hld.stillCount ≤ 4 := h.2.2.2.2.1
  refine HoldFits.set_still h ?_
  split <;> omega

theorem pushReport_mru_line (r : ExitReport) (s : State) : (pushReport r s).mru.line = s.mru.line := by
  unfold pushReport
  split <;> rfl

theorem retire_mru_line (lost : Bool) (s : State) : (retire lost s).1.mru.line = s.mru.line := by
  unfold retire
  split
  · rfl
  · exact pushReport_mru_line ..

theorem drainingTest_hold {s : State} (h : HoldSound s) : HoldSound (drainingTest s).1 := by
  unfold drainingTest
  split
  · next hd => exact HoldFits.of_none h hd.2.2 _
  · exact h

/-- In UNCONFIGURED no episode is in progress. -/
theorem HoldSound.phase_none {s : State} (h : HoldSound s) (hr : s.mru.line ≠ .run) (hd : s.mru.line ≠ .draining) :
    s.hld.phase = .none := by
  by_contra hp
  exact (h.1 hp).elim hr hd

theorem configuredTest_hold {s : State} (h : HoldSound s) : HoldSound (configuredTest s).1 := by
  unfold configuredTest
  split
  · next hu => exact HoldFits.of_none h (h.phase_none (by rw [hu.1]; decide) (by rw [hu.1]; decide)) _
  · exact h

/-- Every hand-over keeps the invariant; `reachHeld` where an episode is in progress. -/
theorem handle_hold (t : Task) (s : State) (h : HoldSound s) (hreach : t.kind = .reachHeld → s.hld.phase ≠ .none) :
    HoldSound (handle t s).1 := by
  by_cases ht : Block.hld ∈ touched t ∨ Block.mru ∈ touched t
  · cases t
    case loopDown => exact encoderGap_hold h
    case encoderSilent => exact encoderGap_hold h
    case holdCause c => exact holdCause_hold c h
    case hldEncoder => exact hldEncoder_hold h
    case reachHeld => exact reachHeld_hold h (hreach rfl)
    case heldBoards => exact heldBoards_hold h
    case holdLine n => exact holdLine_hold n h
    case retire lost => exact h.of_eq (retire_mru_line lost s) ((retire_touches lost s).same .hld (by decide))
    case drainingTest => exact drainingTest_hold h
    case configuredTest => exact configuredTest_hold h
    all_goals simp [touched] at ht
  · have hm : (handle t s).1.mru = s.mru := (handle_touches t s).same .mru fun k => ht (.inr k)
    exact h.of_eq (by rw [hm]) ((handle_touches t s).same .hld fun k => ht (.inl k))

/-! ## HELD is reached in an episode -/

/-- An episode in progress ends at a GOOD encoder sample alone. -/
theorem handle_quiet_phase (t : Task) (s : State) (hq : quiet t = true) (hp : s.hld.phase ≠ .none) : (handle t s).1.hld.phase ≠ .none := by
  by_cases ht : Block.hld ∈ touched t
  · cases t
    case holdCause c =>
      simp only [handle, holdCause]
      (repeat' split) <;> first | exact hp | exact nofun
    case holdLine n =>
      simp only [handle, holdLine]
      split <;> exact hp
    case loopDown | encoderSilent | hldEncoder | reachHeld | heldBoards => cases hq
    all_goals simp [touched] at ht
  · have hh : (handle t s).1.hld = s.hld := (handle_touches t s).same .hld ht
    rw [hh]
    exact hp

/-- The way to HELD lies open: `reachHeld` does not wait, or it waits once, behind hand-overs that keep the episode in progress. -/
def ReachOpen (ts : List Task) (s : State) : Prop :=
  Task.reachHeld ∉ ts
  ∨ ∃ pre post, ts = pre ++ Task.reachHeld :: post ∧ pre.all quiet = true ∧ Task.reachHeld ∉ post ∧ s.hld.phase ≠ .none

theorem reachHeld_not_quiet {l : List Task} (h : l.all quiet = true) : Task.reachHeld ∉ l :=
  fun hm => absurd (List.all_eq_true.mp h _ hm) (by decide)

/-- Only the encoder sample of HLD hands itself over to HELD, and alone, in STOPPING (R189). -/
theorem handle_reachHeld {t : Task} {s : State} (h : Task.reachHeld ∈ (handle t s).2) :
    (handle t s).2 = [.reachHeld] ∧ (handle t s).1.hld.phase ≠ .none := by
  have hk : TaskKind.reachHeld ∈ emitted t.kind := among_iff.mp (handle_emits t s) _ h
  cases t
  case hldEncoder =>
    simp only [handle, hldEncoder, endEpisode] at h ⊢
    split at h
    · next hp =>
      split at h
      · next hn => simp [hp, hn]
      · simp at h
    · split at h
      · split at h <;> simp at h
      · simp at h
    all_goals simp at h
  all_goals simp [emitted, Task.kind] at hk

theorem reachOpen_next (t : Task) (ts : List Task) (s : State) (h : ReachOpen (t :: ts) s) :
    (t.kind = .reachHeld → s.hld.phase ≠ .none) ∧ ReachOpen ((handle t s).2 ++ ts) (handle t s).1 := by
  rcases h with hno | ⟨pre, post, heq, hpre, hpost, hp⟩
  · obtain ⟨hne, hts⟩ := not_or.mp (mt List.mem_cons.mpr hno)
    refine ⟨fun hk => absurd (by cases t <;> first | rfl | cases hk) hne, ?_⟩
    by_cases he : Task.reachHeld ∈ (handle t s).2
    · obtain ⟨hl, hphase⟩ := handle_reachHeld he
      exact .inr ⟨[], ts, by rw [hl]; rfl, rfl, hts, hphase⟩
    · exact .inl fun hm => (List.mem_append.mp hm).elim he hts
  · cases pre with
    | nil =>
      obtain ⟨rfl, rfl⟩ := List.cons.inj heq
      refine ⟨fun _ => hp, .inl fun hm => (List.mem_append.mp hm).elim (fun he => ?_) hpost⟩
      have hk := among_iff.mp (handle_emits .reachHeld s) _ he
      simp [emitted, Task.kind] at hk
    | cons u pre =>
      obtain ⟨rfl, rfl⟩ := List.cons.inj heq
      obtain ⟨hq, hpre⟩ := Bool.and_eq_true_iff.mp ((List.all_cons ..).symm.trans hpre)
      refine ⟨fun _ => hp, .inr ⟨(handle t s).2 ++ pre, post, by simp, all_quiet_append (handle_quiet t s hq) hpre, hpost, ?_⟩⟩
      exact handle_quiet_phase t s hq hp

theorem runEffect_hold {e : Effect} (h : HoldSound e.1) (hr : ReachOpen e.2 e.1) : HoldSound (runEffect e) :=
  settle_holds (I := fun ts s => HoldSound s ∧ ReachOpen ts s) (P := HoldSound)
    (fun t ts s hs => ⟨handle_hold t s hs.1 (reachOpen_next t ts s hs.2).1, (reachOpen_next t ts s hs.2).2⟩)
    (fun _ hs => hs.1) (fun _ _ hs => hs.1) _ e.2 e.1 ⟨h, hr⟩

/-! ## The beginnings -/

theorem stopExpiry_hold {s : State} (h : HoldSound s) : HoldSound (stopExpiry s).1 := by
  unfold stopExpiry
  split
  · obtain ⟨h1, h2, -, h4, h5, h6⟩ := h
    exact ⟨h1, h2, nofun, h4, h5, h6⟩
  · exact h

theorem resumeExpiry_hold {s : State} (h : HoldSound s) : HoldSound (resumeExpiry s).1 := by
  unfold resumeExpiry
  split
  · obtain ⟨h1, h2, h3, -, h5, h6⟩ := h
    exact ⟨h1, h2, h3, nofun, h5, h6⟩
  · exact h

/-- RESUME is taken from HELD, where neither timer runs (R193). -/
theorem resumed_hold {s : State} (h : HoldSound s) (hp : s.hld.phase = .held) : HoldSound (resumed s) := by
  obtain ⟨h1, h2, h3, -, h5, h6⟩ := h
  have hne : s.hld.phase ≠ .none := by rw [hp]; decide
  refine ⟨fun _ => h1 hne, fun _ => h2 hne, fun hs => ?_, fun _ => rfl, h5, h6⟩
  rw [h3 hs] at hp
  cases hp

theorem restarted_hold (s : State) : HoldSound (restarted s) :=
  ⟨fun hn => absurd rfl hn, fun hn => absurd rfl hn, nofun, nofun, Nat.zero_le _, nofun⟩

theorem commitTaken_line (k : TableKind) (index : Nat) (b : StagingBuffer) (s : State) :
    (commitTaken k index b s).state.mru.line = s.mru.line := by cases k <;> rfl

theorem commitTaken_hld (k : TableKind) (index : Nat) (b : StagingBuffer) (s : State) : (commitTaken k index b s).state.hld = s.hld :=
  (commitTaken_touches k index b s).same .hld (by decide)

theorem beginning_hold {c : Instr} {s : State} (b : Beginning) (hb : b.Allowed c s) (h : HoldSound s) : HoldSound (b.effect s).1 := by
  by_cases ht : Block.hld ∈ b.touched ∨ Block.mru ∈ b.touched
  · cases b
    case stopTimer => exact stopExpiry_hold h
    case resumeTimer => exact resumeExpiry_hold h
    case stage | discard | lockLimits | selectNext | setSpeed => exact h.of_eq rfl rfl
    case commit r k index x => exact h.of_eq (commitTaken_line ..) (commitTaken_hld ..)
    case start r => exact HoldFits.of_none h (h.phase_none (by rw [hb.2]; decide) (by rw [hb.2]; decide)) _
    case stop r =>
      obtain ⟨-, h2, h3, h4, h5, h6⟩ := h
      exact ⟨fun _ => .inr rfl, h2, h3, h4, h5, h6⟩
    case enterMaintenance r => exact HoldFits.of_none h (h.phase_none (by rw [hb.2]; decide) (by rw [hb.2]; decide)) _
    case leaveMaintenance =>
      have hm : s.mru.line = .maintenance := hb
      exact HoldFits.of_none h (h.phase_none (by rw [hm]; decide) (by rw [hm]; decide)) _
    case ackHold => exact HoldFits.map_record h _ fun _ hr => hr
    case resume => exact resumed_hold h hb.2
    case restart => exact restarted_hold s
    all_goals simp [Beginning.touched] at ht
  · have hm : (b.effect s).1.mru = s.mru := (b.effect_touches s).same .mru fun k => ht (.inr k)
    exact h.of_eq (by rw [hm]) ((b.effect_touches s).same .hld fun k => ht (.inl k))

/-- Only the stop timer's expiry begins an event that reaches HELD, in STOPPING (R190). -/
theorem beginning_reachOpen (b : Beginning) (s : State) : ReachOpen (b.effect s).2 (b.effect s).1 := by
  have hfirst (hm : Task.reachHeld ∈ (b.effect s).2) : TaskKind.reachHeld ∈ b.first := among_iff.mp (b.effect_among s) _ hm
  cases b
  case stopTimer =>
    simp only [Beginning.effect, stopExpiry]
    split
    · next hs =>
      have hp : s.hld.phase ≠ .none := by
        have hstopping : s.hld.phase = .stopping := by simpa using (Bool.and_eq_true_iff.mp hs).2
        rw [hstopping]
        decide
      split
      · exact .inr ⟨[.a41Hld], [], rfl, rfl, nofun, hp⟩
      · exact .inl (reachHeld_not_quiet rfl)
    · exact .inl nofun
  all_goals exact .inl fun hm => by simpa [Beginning.first, silentKinds] using hfirst hm

/-! ## Every step -/

theorem counted_line {s t : State} (h : Counted s t) : t.mru.line = s.mru.line := by
  cases h with
  | discard v => cases v <;> rfl
  | close cycle =>
    unfold closeCycle
    split <;> rfl
  | dropped => rfl

theorem exec_hold {c : Instr} {s t : State} (hs : HoldSound s) (h : exec c s = .next t) : HoldSound t := by
  have ends (e : Effect) (he : Begins c s e) : HoldSound (runEffect e) := by
    obtain ⟨b, hb, rfl⟩ := he
    exact runEffect_hold (beginning_hold b hb hs) (beginning_reachOpen b s)
  cases exec_outcomes h with
  | reset => exact ⟨fun hn => absurd rfl hn, fun hn => absurd rfl hn, nofun, nofun, Nat.zero_le _, nofun⟩
  | count _ hu => exact hs.of_eq (counted_line hu) (hu.touches.same .hld (by decide))
  | event e he => exact ends e he
  | reply e _ _ _ _ he => exact (ends e he).of_eq rfl rfl

/-- Settles O7: each change of the phase keeps its record and its timer; HELD is reached in an episode alone. -/
theorem holdStaysSound : Obligations.HoldStaysSound :=
  step_keeps (P := HoldSound) (Q := HoldSound) (fun _ h => h) (fun _ _ h => h) fun _ _ _ hs h => exec_hold hs h

end Sys2Proof.Machine
end


section
/-! The configuration (04) and the line state (03 3.2): what an event leaves of the tables and of MRU, and which commands change them. -/

namespace Sys2Proof.Machine

/-! ## What every event leaves -/

/-- A recipe slot keeps its pointer and its banks but for their reference counts. -/
def SlotHeld (a b : Slot) : Prop :=
  b.pointer = a.pointer ∧ ∀ bank : BankId, slotBank b bank = { slotBank a bank with references := (slotBank b bank).references }

/-- The tables stay but for the reference counts of the recipe banks. -/
def TablesHeld (t u : Tbs) : Prop := u = { t with slots := u.slots } ∧ ∀ i : SlotIx, SlotHeld t.slots[i] u.slots[i]

/-- The tables stay but for the reference counts, and MRU but for the line state and the dropped count. -/
def ConfigurationHeld (s t : State) : Prop :=
  TablesHeld s.tbs t.tbs ∧ t.mru = { s.mru with line := t.mru.line, dropped := t.mru.dropped }

theorem SlotHeld.refl (a : Slot) : SlotHeld a a := ⟨rfl, fun _ => rfl⟩

theorem SlotHeld.trans {a b c : Slot} (h : SlotHeld a b) (k : SlotHeld b c) : SlotHeld a c :=
  ⟨k.1.trans h.1, fun bank => by rw [k.2 bank, h.2 bank]⟩

theorem SlotHeld.fields {a b : Slot} (h : SlotHeld a b) (bank : BankId) : (slotBank b bank).fields = (slotBank a bank).fields := by
  rw [h.2 bank]

theorem TablesHeld.refl (t : Tbs) : TablesHeld t t := ⟨rfl, fun _ => .refl _⟩

theorem TablesHeld.trans {t u v : Tbs} (h : TablesHeld t u) (k : TablesHeld u v) : TablesHeld t v :=
  ⟨by rw [k.1, h.1], fun i => (h.2 i).trans (k.2 i)⟩

theorem ConfigurationHeld.refl (s : State) : ConfigurationHeld s s := ⟨.refl _, rfl⟩

theorem ConfigurationHeld.trans {s t u : State} (h : ConfigurationHeld s t) (k : ConfigurationHeld t u) : ConfigurationHeld s u :=
  ⟨h.1.trans k.1, by rw [k.2, h.2]⟩

theorem ConfigurationHeld.of_eq {s t : State} (ht : t.tbs = s.tbs) (hm : t.mru = s.mru) : ConfigurationHeld s t := by
  rw [ConfigurationHeld, ht, hm]
  exact ConfigurationHeld.refl s

/-- A change of one slot that holds it holds the tables. -/
theorem tablesHeld_vset (t : Tbs) (i : SlotIx) {sl : Slot} (h : SlotHeld t.slots[i] sl) : TablesHeld t { t with slots := vset t.slots i sl } := by
  refine ⟨rfl, fun j => ?_⟩
  by_cases hj : j = i
  · subst hj
    rw [vset_same]
    exact h
  · rw [vset_other _ (Ne.symm hj)]
    exact .refl _

theorem slotHeld_references (sl : Slot) (bank : BankId) (n : Nat) :
    SlotHeld sl (setSlotBank sl bank { slotBank sl bank with references := n }) := by
  refine ⟨setSlotBank_pointer .., fun other => ?_⟩
  cases bank <;> cases other <;> rfl

theorem mapReferences_held (t : Tbs) (p : SlotIx × BankId) (f : Nat → Nat) : TablesHeld t (mapReferences t p f) :=
  tablesHeld_vset t p.1 (slotHeld_references ..)

theorem countReference_held (t : Tbs) (b : Board) (f : Nat → Nat) : TablesHeld t (countReference t b f) := by
  unfold countReference
  split
  · exact mapReferences_held ..
  · exact .refl t

/-- RESTART sets every reference count to 0 and leaves the rest of the tables (R87). -/
theorem btkRestart_held (s : State) : TablesHeld s.tbs (btkRestart s).tbs := by
  refine ⟨rfl, fun i => ?_⟩
  simp only [btkRestart, Fin.getElem_fin, Vector.getElem_map]
  exact ⟨rfl, fun bank => by cases bank <;> rfl⟩

theorem restarted_tbs (s : State) : (restarted s).tbs = (btkRestart s).tbs := by
  simp only [restarted, setLine_tbs, releaseManual_tbs, tleReset, potRestart, phmRestart, flxRestart, btkRestart, hldRestart]

theorem pushReport_configuration (r : ExitReport) (s : State) : ConfigurationHeld s (pushReport r s) := by
  unfold pushReport
  split
  · exact .refl s
  · exact ⟨.refl _, rfl⟩

theorem entryLead_configuration (p : Word32) (s : State) : ConfigurationHeld s (entryLead p s).1 := by
  unfold entryLead
  split
  · exact .refl s
  · exact ⟨countReference_held .., rfl⟩

theorem retire_configuration (lost : Bool) (s : State) : ConfigurationHeld s (retire lost s).1 := by
  unfold retire
  split
  · exact .refl s
  · next b rest _ =>
    exact ConfigurationHeld.trans (t := { s with tbs := countReference s.tbs b (· - 1) }) ⟨countReference_held .., rfl⟩
      (pushReport_configuration ..)

/-- No hand-over changes a table but for a reference count, nor MRU but for the line state and the dropped count. -/
theorem handle_configuration (t : Task) (s : State) : ConfigurationHeld s (handle t s).1 := by
  by_cases ht : Block.tbs ∈ touched t ∨ Block.mru ∈ touched t
  · cases t
    case entryLead p => exact entryLead_configuration p s
    case retire lost => exact retire_configuration lost s
    case drainingTest =>
      simp only [handle, drainingTest]
      split
      · exact ⟨.refl _, rfl⟩
      · exact .refl s
    case configuredTest =>
      simp only [handle, configuredTest]
      split
      · exact ⟨.refl _, rfl⟩
      · exact .refl s
    all_goals simp [touched] at ht
  · exact .of_eq ((handle_touches t s).same .tbs fun k => ht (.inl k)) ((handle_touches t s).same .mru fun k => ht (.inr k))

/-- No event changes the configuration but by what its beginning does. -/
theorem settle_configuration (n : Nat) (ts : List Task) (s : State) : ConfigurationHeld s (settle n ts s) :=
  settle_keeps (P := fun u => ConfigurationHeld s u) (Q := fun _ => True) (fun t u _ h => h.trans (handle_configuration t u))
    (fun _ _ _ _ _ _ => trivial) (fun _ h => h) n ts s (fun _ _ => trivial) (.refl s)

theorem run_configuration (s : State) (ts : List Task) : ConfigurationHeld s (run s ts) := settle_configuration _ ts s

theorem counted_configuration {s t : State} (h : Counted s t) : ConfigurationHeld s t := by
  cases h with
  | discard v => cases v <;> exact .of_eq rfl rfl
  | close cycle =>
    refine .of_eq ?_ ?_ <;>
      · unfold closeCycle
        split <;> rfl
  | dropped => exact ⟨.refl _, rfl⟩

/-! ## What a COMMIT writes (R49, R60) -/

/-- The tables after the write of an entry. -/
def writtenTables (k : TableKind) (index : Nat) (staged m : FieldMap) (t : Tbs) : Tbs :=
  match k with
  | .channel => { t with channel := m }
  | .output => { t with output := m, outputCommitted := Vector.ofFn fun o => t.outputCommitted[o] || outputStaged staged o }
  | .geometry => { t with geometry := m }
  | .line => { t with line := m }
  | .limits => { t with limits := m }
  | .tuning => { t with tuning := m }
  | .alarm => { t with alarms := vset t.alarms (A index) (alarmOfFields m) }
  | .recipe => writeRecipe t index m

@[simp] theorem writeEntry_tbs (k : TableKind) (index : Nat) (staged m : FieldMap) (s : State) :
    (writeEntry k index staged m s).1.tbs = writtenTables k index staged m s.tbs := by
  cases k <;> rfl

/-- The fields that a COMMIT stores: the staged values over the committed ones, brought into their ranges (R49, steps 4 and 7). -/
def committedNext (k : TableKind) (index : Nat) (b : StagingBuffer) (t : Tbs) : FieldMap :=
  storedCandidate k (clampCandidate k (candidateFields (committedFields t k index) b.fields))

theorem commitTaken_tbs (k : TableKind) (index : Nat) (b : StagingBuffer) (s : State) :
    (commitTaken k index b s).state.tbs = writtenTables k index b.fields (committedNext k index b s.tbs) s.tbs :=
  writeEntry_tbs ..

theorem commitTaken_limitsLock (k : TableKind) (index : Nat) (b : StagingBuffer) (s : State) :
    (commitTaken k index b s).state.mru.limitsLock = s.mru.limitsLock := by cases k <;> rfl

theorem writeRecipe_slots (t : Tbs) (index : Nat) (m : FieldMap) (i : SlotIx) :
    (writeRecipe t index m).slots[i] = if i = Fin.ofNat 16 index then
        { setSlotBank t.slots[i] (writeBank t index)
            { filled := true, fields := m, references := (slotBank t.slots[i] (writeBank t index)).references } with
          pointer := writeBank t index }
      else t.slots[i] := by
  split
  · next h =>
    subst h
    exact vset_same ..
  · next h => exact vset_other _ (Ne.symm h) _

/-- A bank that a recipe commit does not write keeps its fields. -/
theorem writeRecipe_fields (t : Tbs) (index : Nat) (m : FieldMap) (i : SlotIx) (bank : BankId)
    (h : ¬(i = Fin.ofNat 16 index ∧ bank = writeBank t index)) :
    (slotBank (writeRecipe t index m).slots[i] bank).fields = (slotBank t.slots[i] bank).fields := by
  rw [writeRecipe_slots]
  split
  · next hi =>
    have hb : bank ≠ writeBank t index := fun hb => h ⟨hi, hb⟩
    generalize writeBank t index = w at *
    cases bank <;> cases w <;> first | rfl | exact absurd rfl hb
  · rfl

/-! ## The configuration is protected (R51, R60, R61) -/

/-- The lock stays set, LIMITS is locked outside MAINTENANCE, the tables stay in RUN and DRAINING, and referenced banks keep their fields. -/
def Protected (s t : State) : Prop :=
  (s.mru.limitsLock = true → t.mru.limitsLock = true)
  ∧ (s.mru.limitsLock = true → s.mru.line ≠ .maintenance → t.tbs.limits = s.tbs.limits)
  ∧ (s.mru.line = .run ∨ s.mru.line = .draining →
      t.tbs.channel = s.tbs.channel ∧ t.tbs.output = s.tbs.output ∧ t.tbs.outputCommitted = s.tbs.outputCommitted
      ∧ t.tbs.geometry = s.tbs.geometry ∧ t.tbs.line = s.tbs.line ∧ t.tbs.limits = s.tbs.limits
      ∧ t.tbs.alarms = s.tbs.alarms)
  ∧ ∀ (i : SlotIx) (bank : BankId), 0 < (slotBank s.tbs.slots[i] bank).references →
      (slotBank t.tbs.slots[i] bank).fields = (slotBank s.tbs.slots[i] bank).fields

theorem Protected.of_tables {s t : State} (hl : s.mru.limitsLock = true → t.mru.limitsLock = true)
    (ht : t.tbs = { s.tbs with slots := t.tbs.slots })
    (hs : ∀ (i : SlotIx) (bank : BankId), 0 < (slotBank s.tbs.slots[i] bank).references →
      (slotBank t.tbs.slots[i] bank).fields = (slotBank s.tbs.slots[i] bank).fields) : Protected s t := by
  refine ⟨hl, fun _ _ => ?_, fun _ => ?_, hs⟩
  · rw [ht]
  · rw [ht]
    exact ⟨rfl, rfl, rfl, rfl, rfl, rfl, rfl⟩

theorem ConfigurationHeld.protected {s t : State} (h : ConfigurationHeld s t) : Protected s t :=
  .of_tables (fun hl => by rw [h.2]; exact hl) h.1.1 fun i bank _ => (h.1.2 i).fields bank

/-- What an event leaves after a beginning leaves what the beginning protects. -/
theorem Protected.trans_held {s t u : State} (h : Protected s t) (k : ConfigurationHeld t u) : Protected s u := by
  obtain ⟨hlock, hlimits, htables, hbanks⟩ := h
  refine ⟨fun hl => by rw [k.2]; exact hlock hl, fun hl hm => ?_, fun hl => ?_, fun i bank hr => ?_⟩
  · rw [k.1.1]
    exact hlimits hl hm
  · rw [k.1.1]
    exact htables hl
  · rw [(k.1.2 i).fields bank]
    exact hbanks i bank hr

/-- A table whose write is permitted is none that the line state or the lock holds (R51). -/
theorem permission_none {m : Mru} {k : TableKind} (h : permission m k = none) :
    (k = .limits → m.limitsLock = true → m.line = .maintenance)
    ∧ (m.line = .run ∨ m.line = .draining → k = .tuning ∨ k = .recipe) := by
  have runs (hl : m.line = .run ∨ m.line = .draining) : lineRuns m.line = true := by
    rcases hl with hl | hl <;> rw [hl] <;> rfl
  constructor
  · rintro rfl hlock
    by_contra hm
    simp [permission, hlock, hm] at h
  · intro hl
    cases k
    case tuning => exact .inl rfl
    case recipe => exact .inr rfl
    case limits =>
      simp only [permission, runs hl, if_true] at h
      split at h <;> cases h
    all_goals simp [permission, runs hl] at h

theorem commit_protected {k : TableKind} {index : Nat} {b : StagingBuffer} {s : State} (hp : permission s.mru k = none)
    (hr : k = .recipe → (slotBank s.tbs.slots[Fin.ofNat 16 index] (writeBank s.tbs index)).references = 0) :
    Protected s (commitTaken k index b s).state := by
  obtain ⟨hlimits, hruns⟩ := permission_none hp
  refine ⟨fun hl => (commitTaken_limitsLock ..).trans hl, fun hl hm => ?_, fun hl => ?_, fun i bank hpos => ?_⟩
  · rw [commitTaken_tbs]
    cases k
    case limits => exact absurd (hlimits rfl hl) hm
    all_goals simp only [writtenTables, writeRecipe]
  · rw [commitTaken_tbs]
    rcases hruns hl with rfl | rfl <;> simp only [writtenTables, writeRecipe, and_self]
  · rw [commitTaken_tbs]
    cases k
    case recipe =>
      refine writeRecipe_fields _ _ _ _ _ ?_
      rintro ⟨rfl, rfl⟩
      exact absurd (hr rfl) (Nat.pos_iff_ne_zero.mp hpos)
    all_goals simp only [writtenTables]

theorem removedSlot_fields (sl : Slot) (bank : BankId) : (slotBank (removedSlot sl) bank).fields = (slotBank sl bank).fields := by
  unfold removedSlot admitBank
  generalize sl.pointer = p
  cases bank <;> cases p <;> rfl

theorem beginning_protected {c : Instr} {s : State} (b : Beginning) (hb : b.Allowed c s) : Protected s (b.effect s).1 := by
  by_cases ht : Block.tbs ∈ b.touched ∨ Block.mru ∈ b.touched
  · cases b
    case commit r k index x =>
      obtain ⟨-, hperm, -, hrefs⟩ := hb
      exact commit_protected hperm hrefs
    case removeRecipe i =>
      refine Protected.of_tables id rfl fun j bank _ => ?_
      by_cases hj : j = i
      · subst hj
        simp only [Beginning.effect, vset_same, removedSlot_fields]
      · simp only [Beginning.effect, vset_other _ (Ne.symm hj)]
    case restart =>
      have ht : (restarted s).tbs = (btkRestart s).tbs := restarted_tbs s
      refine Protected.of_tables id (by rw [Beginning.effect, ht]; rfl) fun j bank _ => ?_
      rw [Beginning.effect, ht, ((btkRestart_held s).2 j).fields bank]
    case lockLimits => exact Protected.of_tables (fun _ => rfl) rfl fun _ _ _ => rfl
    all_goals first | exact Protected.of_tables id rfl fun _ _ _ => rfl | simp [Beginning.touched] at ht
  · exact (ConfigurationHeld.of_eq ((b.effect_touches s).same .tbs fun k => ht (.inl k))
      ((b.effect_touches s).same .mru fun k => ht (.inr k))).protected

/-- Settles O13: hand-overs change no table but a reference count; a COMMIT is refused where the table is protected. -/
theorem configurationIsProtected : Obligations.ConfigurationIsProtected := by
  intro c s t hc h
  have ends (e : Effect) (he : Begins c s e) : Protected s (runEffect e) := by
    obtain ⟨b, hb, rfl⟩ := he
    exact (beginning_protected b hb).trans_held (run_configuration ..)
  cases exec_outcomes h with
  | reset hr => exact absurd hr hc
  | count _ hu => exact (counted_configuration hu).protected
  | event e he => exact ends e he
  | reply e _ _ _ _ he => exact (ends e he).trans_held (.of_eq rfl rfl)

/-! ## The line state (03 3.2) -/

/-- The line state that a beginning's own effect leaves. -/
def Beginning.entersLine (s : State) : Beginning → LineState
  | .start _ => .run
  | .stop _ => .draining
  | .enterMaintenance _ => .maintenance
  | .leaveMaintenance | .restart => .standby
  | _ => s.mru.line

theorem Beginning.effect_line (b : Beginning) (s : State) : (b.effect s).1.mru.line = b.entersLine s := by
  by_cases ht : Block.mru ∈ b.touched
  · cases b
    case commit => exact commitTaken_line ..
    all_goals first | rfl | simp [Beginning.touched] at ht
  · rw [show (b.effect s).1.mru = s.mru from (b.effect_touches s).same .mru ht]
    cases b
    case start | stop | enterMaintenance | leaveMaintenance | restart => exact absurd (by simp [Beginning.touched]) ht
    all_goals rfl

/-- A hand-over moves the line to STANDBY or not at all. -/
theorem handle_line (t : Task) (s : State) : (handle t s).1.mru.line = s.mru.line ∨ (handle t s).1.mru.line = .standby := by
  by_cases ht : Block.mru ∈ touched t
  · cases t
    case retire lost => exact .inl (retire_mru_line lost s)
    case drainingTest =>
      simp only [handle, drainingTest]
      split
      · exact .inr rfl
      · exact .inl rfl
    case configuredTest =>
      simp only [handle, configuredTest]
      split
      · exact .inr rfl
      · exact .inl rfl
    all_goals simp [touched] at ht
  · exact .inl (congrArg Mru.line ((handle_touches t s).same .mru ht))

theorem settle_line (n : Nat) (ts : List Task) (s : State) :
    (settle n ts s).mru.line = s.mru.line ∨ (settle n ts s).mru.line = .standby :=
  settle_keeps (P := fun u => u.mru.line = s.mru.line ∨ u.mru.line = .standby) (Q := fun _ => True)
    (fun t u _ h => (handle_line t u).elim (fun k => h.imp k.trans k.trans) .inr) (fun _ _ _ _ _ _ => trivial) (fun _ h => h) n ts s
    (fun _ _ => trivial) (.inl rfl)

/-- A beginning other than the requests that name a line state leaves the line or takes it to STANDBY. -/
theorem entersLine_cases {c : Instr} {s : State} (b : Beginning) (hb : b.Allowed c s) :
    b.entersLine s = s.mru.line ∨ b.entersLine s = .standby
    ∨ (b.entersLine s = .run ∧ ∃ r, carriedRequest c = some (7, r))
    ∨ (b.entersLine s = .draining ∧ ∃ r, carriedRequest c = some (8, r))
    ∨ (b.entersLine s = .maintenance ∧ ∃ r, carriedRequest c = some (15, r)) := by
  cases b
  case start r => exact .inr (.inr (.inl ⟨rfl, r, hb.1⟩))
  case stop r => exact .inr (.inr (.inr (.inl ⟨rfl, r, hb.1⟩)))
  case enterMaintenance r => exact .inr (.inr (.inr (.inr ⟨rfl, r, hb.1⟩)))
  case leaveMaintenance | restart => exact .inr (.inl rfl)
  all_goals exact .inl rfl

/-- Settles O14: hand-overs move the line to STANDBY alone, and each other state is entered by its request's own effect. -/
theorem lineStatesEnteredByTheirRequests : Obligations.LineStatesEnteredByTheirRequests := by
  intro c s t h hne
  have ends (e : Effect) (he : Begins c s e) (l : LineState) (hl : (runEffect e).mru.line = l) (hn : l ≠ s.mru.line) :
      (l = .run → ∃ r, carriedRequest c = some (7, r)) ∧ (l = .draining → ∃ r, carriedRequest c = some (8, r))
      ∧ (l = .maintenance → ∃ r, carriedRequest c = some (15, r)) ∧ (l = .unconfigured → c = .powerOnReset) := by
    obtain ⟨b, hb, rfl⟩ := he
    have hend := settle_line Config.cascadeBudget (b.effect s).2 (b.effect s).1
    rw [b.effect_line] at hend
    rcases hend with hend | hend
    · have hlk : l = b.entersLine s := hl.symm.trans hend
      rcases entersLine_cases b hb with k | k | ⟨k, hr⟩ | ⟨k, hr⟩ | ⟨k, hr⟩
      · exact absurd (hlk.trans k) hn
      · simp [hlk.trans k]
      all_goals
        rw [hlk.trans k]
        simpa using hr
    · simp [hl.symm.trans hend]
  cases exec_outcomes h with
  | reset hr => exact ⟨nofun, nofun, nofun, fun _ => hr⟩
  | count _ hu => exact absurd (counted_line hu) hne
  | event e he => exact ends e he _ rfl hne
  | reply e _ _ _ _ he => exact ends e he _ rfl hne

end Sys2Proof.Machine
end


section
/-! HARD alarms (11): nothing but its own ACK_ALARM and a COMMIT clears one that is set. -/

namespace Sys2Proof.Machine

theorem alarmSet_iff (s : State) (a : AlarmIx) :
    alarmSet s a = true ↔ (s.acu.alarms[a]).state = .active ∨ (s.acu.alarms[a]).state = .latched := by
  simp [alarmSet]

/-- The alarm is of class HARD, and ACTIVE or LATCHED. -/
def HardSet (a : AlarmIx) (s : State) : Prop := (s.tbs.alarms[a]).cls = .hard ∧ alarmSet s a = true

theorem HardSet.of_eq {a : AlarmIx} {s t : State} (h : HardSet a s) (ht : t.tbs.alarms = s.tbs.alarms) (ha : t.acu.alarms = s.acu.alarms) :
    HardSet a t := by
  rw [HardSet, alarmSet_iff, ht, ha, ← alarmSet_iff]
  exact h

/-- A change of one record keeps every HARD alarm set if it leaves its own set. -/
theorem HardSet.setAlarm {a x : AlarmIx} {s : State} {r : AlarmRecord} (h : HardSet a s)
    (hr : x = a → r.state = .active ∨ r.state = .latched) : HardSet a (setAlarm s x r) := by
  refine ⟨h.1, (alarmSet_iff ..).mpr ?_⟩
  rw [setAlarm_acu_alarms]
  by_cases hx : x = a
  · subst hx
    rw [vset_same]
    exact hr rfl
  · rw [vset_other _ hx]
    exact (alarmSet_iff ..).mp h.2

/-- A condition handed over to a HARD alarm that is set leaves it set (R171). -/
theorem levelNext_set {e : AlarmEntry} {x : AlarmState} (count : Nat) (value evaluation : Bool) (he : e.cls = .hard)
    (hx : x = .active ∨ x = .latched) :
    (levelNext e x count value evaluation).1 = .active ∨ (levelNext e x count value evaluation).1 = .latched := by
  rcases hx with rfl | rfl <;> cases value <;> simp [levelNext, he]

theorem takeCondition_hard {a : AlarmIx} (x : AlarmIx) (value evaluation : Bool) {s : State} (h : HardSet a s) :
    HardSet a (takeCondition x value evaluation s).1 := by
  unfold takeCondition
  dsimp only
  split
  · exact h
  · refine h.setAlarm fun hx => ?_
    subst hx
    have hn := levelNext_set (s.acu.alarms[x]).count value evaluation h.1 ((alarmSet_iff ..).mp h.2)
    split <;> exact hn

theorem takeEvent_hard {a : AlarmIx} (x : AlarmIx) {s : State} (h : HardSet a s) : HardSet a (takeEvent x s).1 := by
  unfold takeEvent
  dsimp only
  split
  · exact h
  · exact h.setAlarm fun _ => .inr rfl

theorem restartAlarms_hard {a : AlarmIx} {s : State} (h : HardSet a s) : HardSet a (restartAlarms s).1 := by
  refine ⟨h.1, (alarmSet_iff ..).mpr ?_⟩
  simp only [restartAlarms, Fin.getElem_fin, Vector.getElem_ofFn]
  rw [if_neg]
  · exact (alarmSet_iff ..).mp h.2
  · intro hc
    exact absurd (h.1.symm.trans hc) nofun

theorem handle_alarms (t : Task) (s : State) : (handle t s).1.tbs.alarms = s.tbs.alarms := by rw [(handle_configuration t s).1.1]

theorem captureHeld_acu (g : Group) (s : State) : (captureHeld g s).acu = s.acu := (captureHeld_touches g s).same .acu (by decide)

theorem activateGroup_alarms (g : Group) (x : Cause) (s : State) : (activateGroup g x s).1.acu.alarms = s.acu.alarms := by
  unfold activateGroup
  dsimp only
  split
  · rfl
  · rw [setGroup_acu_alarms, captureHeld_acu]

theorem deactivateGroup_alarms (g : Group) (s : State) : (deactivateGroup g s).1.acu.alarms = s.acu.alarms := by
  unfold deactivateGroup
  split <;> rfl

theorem handle_hard {a : AlarmIx} (t : Task) {s : State} (h : HardSet a s) : HardSet a (handle t s).1 := by
  by_cases ht : Block.acu ∈ touched t
  · cases t
    case condition x value evaluation => exact takeCondition_hard x value evaluation h
    case event x => exact takeEvent_hard x h
    case restartAlarms => exact restartAlarms_hard h
    case activate g x => exact h.of_eq (handle_alarms ..) (activateGroup_alarms ..)
    case deactivate g => exact h.of_eq (handle_alarms ..) (deactivateGroup_alarms ..)
    case a41Btk | a41Hld => exact h.of_eq rfl rfl
    all_goals simp [touched] at ht
  · exact h.of_eq (handle_alarms ..) (congrArg Acu.alarms ((handle_touches t s).same .acu ht))

theorem acknowledged_hard {a x : AlarmIx} {s : State} (h : HardSet a s) (hx : x ≠ a) : HardSet a (acknowledged x s).1 := by
  unfold acknowledged
  dsimp only
  split
  · exact h.setAlarm fun hxa => absurd hxa hx
  · exact h

theorem beginning_hard {c : Instr} {s : State} {a : AlarmIx} (b : Beginning) (hb : b.Allowed c s)
    (hc : ∀ code r, carriedRequest c = some (code, r) → code ≠ 2 ∧ (code = 19 → reqByte r 6 ≠ a.val)) (h : HardSet a s) :
    HardSet a (b.effect s).1 := by
  by_cases ht : Block.acu ∈ b.touched ∨ Block.tbs ∈ b.touched
  · cases b
    case commit => exact absurd rfl (hc _ _ hb.1).1
    case removeRecipe => exact h.of_eq rfl rfl
    case restart => exact h.of_eq (by rw [Beginning.effect, restarted_tbs]; rfl) (congrArg Acu.alarms ((restarted_touches s).same .acu (by decide)))
    case forceCutoff => exact h.of_eq rfl rfl
    case ackLatched r x =>
      obtain ⟨hr, hx⟩ := hb
      exact acknowledged_hard h fun hxa => (hc _ _ hr).2 rfl (hxa ▸ hx)
    all_goals simp [Beginning.touched] at ht
  · exact h.of_eq (congrArg Tbs.alarms ((b.effect_touches s).same .tbs fun k => ht (.inr k)))
      (congrArg Acu.alarms ((b.effect_touches s).same .acu fun k => ht (.inl k)))

/-- Settles O12: every hand-over keeps a set HARD alarm set, and no beginning but its own ACK_ALARM and COMMIT touches it. -/
theorem hardAlarmsStaySet : Obligations.HardAlarmsStaySet := by
  intro c s t a hreset hc hcls hset h
  have ends (e : Effect) (he : Begins c s e) : HardSet a (runEffect e) := by
    obtain ⟨b, hb, rfl⟩ := he
    exact run_keeps (fun t _ => handle_hard t) (fun _ h => h) _ _ (beginning_hard b hb hc ⟨hcls, hset⟩)
  cases exec_outcomes h with
  | reset hr => exact absurd hr hreset
  | count _ hu =>
    exact (HardSet.of_eq ⟨hcls, hset⟩ (congrArg Tbs.alarms (hu.touches.same .tbs (by decide)))
      (congrArg Acu.alarms (hu.touches.same .acu (by decide)))).2
  | event e he => exact (ends e he).2
  | reply e _ _ _ _ he => exact (ends e he).2

end Sys2Proof.Machine
end


section
/-! The pot (09) and the thermal loops (07): counts, flags, timers and integrators within their ranges. -/

namespace Sys2Proof.Machine

/-! ## POT -/

/-- A pump's at-speed count is at most 3, and its flag is set only with the count at 3 (R145). -/
def PumpSound (x : Pump) : Prop := x.atSpeedCount ≤ 3 ∧ (x.atSpeed = true → x.atSpeedCount = 3)

theorem PotSound.pump {p : Pot} (h : PotSound p) (w : Wave) : PumpSound (pumpOf p w) := h.2.1 w

theorem PotSound.set_pump {s : State} (h : PotSound s.pot) (w : Wave) {x : Pump} (hx : PumpSound x) : PotSound (setPump s w x).pot := by
  obtain ⟨hwindow, hpumps, hrest⟩ := h
  refine ⟨by cases w <;> exact hwindow, fun v => ?_, by cases w <;> exact hrest⟩
  cases w <;> cases v <;> first | exact hx | exact hpumps .chip | exact hpumps .laminar

theorem PotSound.set_window {p : Pot} (h : PotSound p) {window : List Int} (level : Option Int) (hw : window.length ≤ 5) :
    PotSound { p with levelWindow := window, level := level } :=
  ⟨hw, fun w => h.pump w, h.2.2⟩

theorem PotSound.set_feeder {s : State} (h : PotSound s.pot) {f : Feeder} (hf : f.ineffective ≤ 3) : PotSound (setFeeder s f).pot := by
  obtain ⟨hwindow, hpumps, -, hrest⟩ := h
  exact ⟨hwindow, hpumps, hf, hrest⟩

/-- A change of the pot state takes the melt dwell timer with it. -/
theorem PotSound.set_state {p : Pot} (h : PotSound p) {state : PotState} {melt : Option Nat} (setback : Option Nat)
    (hm : melt.isSome = true → state = .melting) : PotSound { p with state := state, meltTimer := melt, setbackTimer := setback } := by
  obtain ⟨hwindow, hpumps, hfeeder, hignored, -⟩ := h
  exact ⟨hwindow, hpumps, hfeeder, hignored, hm⟩

theorem PotSound.ineffective_le {p : Pot} (h : PotSound p) : p.feeder.ineffective ≤ 3 := h.2.2.1

/-- A block's effect outside UNCONFIGURED alone keeps what it keeps when it acts. -/
theorem potActs_keeps {P : State → Prop} {s : State} {e : Effect} (h : P s) (k : P e.1) : P (potActs s e).1 := by
  unfold potActs
  split
  · exact h
  · exact k

theorem feedbackSample_sound {x : Pump} (within : Bool) (h : PumpSound x) : PumpSound (feedbackSample x within) := by
  obtain ⟨hle, hflag⟩ := h
  unfold feedbackSample
  split
  · refine ⟨satAdd_le .., fun hs => ?_⟩
    simp only [satAdd]
    rcases Bool.or_eq_true_iff.mp hs with hs | hs
    · rw [hflag hs]
      rfl
    · have hc := of_decide_eq_true hs
      omega
  · exact ⟨Nat.zero_le _, nofun⟩

theorem pushDistance_length {w : List Int} (d : Int) (h : w.length ≤ 5) : (pushDistance w d).length ≤ 5 := by
  unfold pushDistance
  dsimp only
  split
  · simp only [List.length_drop, List.length_append, List.length_singleton]
    omega
  · next hl => exact Nat.not_lt.mp hl

theorem levelArrival_pot (status : SampleStatus) {s : State} (h : PotSound s.pot) : PotSound (levelArrival status s).1.pot := by
  unfold levelArrival
  refine potActs_keeps (P := fun s => PotSound s.pot) h ?_
  (repeat' split)
  · exact h.set_window _ (pushDistance_length _ h.1)
  · exact h.set_window _ h.1
  · exact h.set_window _ (Nat.zero_le _)

theorem levelSilent_pot {s : State} (h : PotSound s.pot) : PotSound (levelSilent s).1.pot :=
  potActs_keeps (P := fun s => PotSound s.pot) h (h.set_window _ (Nat.zero_le _))

theorem potEvaluate_pot (why : PotEvent) {s : State} (h : PotSound s.pot) : PotSound (potEvaluate why s).1.pot := by
  unfold potEvaluate
  refine potActs_keeps (P := fun s => PotSound s.pot) h ?_
  split
  · exact h
  · refine h.set_state _ fun hm => ?_
    unfold nextMeltTimer at hm
    split at hm
    · next hn => exact hn
    · cases hm

/-- In FAULT no melt dwell runs, so the pot may leave it for COLD. -/
theorem potAlarm_pot (set : Bool) {s : State} (h : PotSound s.pot) : PotSound (potAlarm set s).1.pot := by
  unfold potAlarm
  refine potActs_keeps (P := fun s => PotSound s.pot) h ?_
  split
  · next hf =>
    split
    · exact h
    · exact h.set_state s.pot.setbackTimer fun hm => absurd ((h.2.2.2.2 hm).symm.trans hf) nofun
  · split
    · exact h.set_state _ nofun
    · exact h

theorem setbackTimer_pot {s : State} (h : PotSound s.pot) : PotSound (setbackTimer s).1.pot := by
  unfold setbackTimer
  refine potActs_keeps (P := fun s => PotSound s.pot) h ?_
  (repeat' split) <;> exact h

theorem mapWaveFlags_pot (n : BoardNo) (w : Wave) (f : WaveFlags → WaveFlags) {s : State} (h : PotSound s.pot) :
    PotSound (mapWaveFlags s n w f).pot := h

theorem governWave_pot (w : Wave) {s : State} (h : PotSound s.pot) : PotSound (governWave w s).pot := by
  have hp := h.set_pump w (x := { pumpOf s.pot w with governing := waveGoverning s w }) (h.pump w)
  unfold governWave
  dsimp only
  split <;> exact hp

theorem potGoverning_pot {s : State} (h : PotSound s.pot) : PotSound (potGoverning s).1.pot :=
  potActs_keeps (P := fun s => PotSound s.pot) h (governWave_pot _ (governWave_pot _ h))

theorem enterWindow_pot (w : Wave) {s : State} (h : PotSound s.pot) : PotSound (enterWindow w s).1.pot :=
  List.foldlRecOn (motive := fun s : State => PotSound s.pot) _ _ h fun _ hs _ _ => mapWaveFlags_pot _ _ _ hs

theorem potWindows_pot {s : State} (h : PotSound s.pot) : PotSound (potWindows s).1.pot :=
  potActs_keeps (P := fun s => PotSound s.pot) h (enterWindow_pot _ (enterWindow_pot _ h))

theorem accrueWave_pot (w : Wave) (ms : Nat) (s : State) : (accrueWave w ms s).pot = s.pot := (accrueWave_touches w ms s).same .pot (by decide)

theorem potContact_pot {s : State} (h : PotSound s.pot) : PotSound (potContact s).1.pot := by
  unfold potContact
  refine potActs_keeps (P := fun s => PotSound s.pot) h ?_
  dsimp only
  split
  · exact h
  · rw [accrueWave_pot, accrueWave_pot]
    exact h

theorem contactFlags_pot {s : State} (h : PotSound s.pot) : PotSound (contactFlags s).pot :=
  List.foldlRecOn (motive := fun s : State => PotSound s.pot) _ _ h fun _ hs _ _ => hs

theorem potStatuses_pot (atSample : Bool) {s : State} (h : PotSound s.pot) : PotSound (potStatuses atSample s).1.pot :=
  potActs_keeps (P := fun s => PotSound s.pot) h (contactFlags_pot (s := { s with btk := _ }) h)

theorem pumpFeedback_pot (w : Wave) (status : SampleStatus) {s : State} (h : PotSound s.pot) : PotSound (pumpFeedback w status s).1.pot :=
  potActs_keeps (P := fun s => PotSound s.pot) h (h.set_pump w (feedbackSample_sound _ (h.pump w)))

theorem pumpFeedbackSilent_pot (w : Wave) {s : State} (h : PotSound s.pot) : PotSound (pumpFeedbackSilent w s).1.pot :=
  potActs_keeps (P := fun s => PotSound s.pot) h (h.set_pump w (feedbackSample_sound _ (h.pump w)))

theorem pumpDelivered_pot (w : Wave) {s : State} (h : PotSound s.pot) : PotSound (pumpDelivered w s).1.pot :=
  potActs_keeps (P := fun s => PotSound s.pot) h (h.set_pump w ⟨Nat.zero_le _, nofun⟩)

theorem pumpFault_pot (w : Wave) (evaluation : Bool) {s : State} (h : PotSound s.pot) : PotSound (pumpFault w evaluation s).1.pot :=
  h.set_pump w (h.pump w)

/-- A fresh judgment raises the ineffective count by one, up to 3, or clears it (R156). -/
theorem nextIneffective_le {s : State} (h : PotSound s.pot) : nextIneffective s ≤ 3 := by
  unfold nextIneffective
  (repeat' split)
  · exact satAdd_le ..
  · exact Nat.zero_le _
  · exact h.ineffective_le

theorem settleOver_pot {s : State} (h : PotSound s.pot) : PotSound (settleOver s).1.pot := by
  unfold settleOver
  split
  · exact h.set_feeder (nextIneffective_le h)
  · exact h

theorem settleFinish_pot {s : State} (h : PotSound s.pot) : PotSound (settleFinish s).1.pot := by
  unfold settleFinish
  dsimp only
  split
  · exact h
  · exact PotSound.set_feeder (s := { s with pot := _ }) h h.ineffective_le

theorem feederRelease_pot {s : State} (h : PotSound s.pot) : PotSound (feederRelease s).1.pot := by
  unfold feederRelease
  refine potActs_keeps (P := fun s => PotSound s.pot) h ?_
  split
  · exact h.set_feeder (Nat.zero_le _)
  · exact h

theorem handOperation_pot (op : FeederOperation) (s : State) : (handOperation op s).pot = s.pot :=
  (handOperation_touches op s).same .pot (by decide)

theorem startFeed_pot {s : State} (h : PotSound s.pot) : PotSound (startFeed s).pot := by
  unfold startFeed
  dsimp only
  rw [handOperation_pot]
  exact h.set_feeder h.ineffective_le

theorem feedEvaluate_pot {s : State} (h : PotSound s.pot) : PotSound (feedEvaluate s).1.pot := by
  unfold feedEvaluate
  split
  · exact startFeed_pot h
  · exact h

theorem potGroup_pot (g : Group) {s : State} (h : PotSound s.pot) : PotSound (potGroup g s).1.pot := by
  unfold potGroup
  refine potActs_keeps (P := fun s => PotSound s.pot) h ?_
  (repeat' split)
  case isTrue.isTrue =>
    obtain ⟨hwindow, hpumps, hrest⟩ := h
    exact ⟨hwindow, hpumps, hrest⟩
  all_goals exact h

theorem feederRestart_pot {s : State} (h : PotSound s.pot) : PotSound (feederRestart s).1.pot := by
  unfold feederRestart
  dsimp only
  split
  · exact PotSound.set_feeder (s := handOperation _ s) (by rw [handOperation_pot]; exact h) h.ineffective_le
  · exact h.set_feeder h.ineffective_le
  · exact h
  · exact h

theorem handle_pot (t : Task) (s : State) (h : PotSound s.pot) : PotSound (handle t s).1.pot := by
  by_cases ht : Block.pot ∈ touched t
  · cases t
    case loopDown | encoderSilent => exact h
    case potTemperature => exact potActs_keeps (P := fun s => PotSound s.pot) h h
    case potEvaluate why => exact potEvaluate_pot why h
    case potAlarm set => exact potAlarm_pot set h
    case potLeavesUnconfigured => exact h
    case setbackTimer => exact setbackTimer_pot h
    case potNewRecord | potRemoved => exact potActs_keeps (P := fun s => PotSound s.pot) h h
    case potGoverning => exact potGoverning_pot h
    case potWindows => exact potWindows_pot h
    case pumpDelivered w => exact pumpDelivered_pot w h
    case pumpFeedback w status => exact pumpFeedback_pot w status h
    case pumpFeedbackSilent w => exact pumpFeedbackSilent_pot w h
    case pumpFault w evaluation => exact pumpFault_pot w evaluation h
    case levelArrival status => exact levelArrival_pot status h
    case levelSilent => exact levelSilent_pot h
    case feedFaulted => exact h.set_feeder h.ineffective_le
    case settleOver => exact settleOver_pot h
    case settleFinish => exact settleFinish_pot h
    case feederRelease => exact feederRelease_pot h
    case potGroup g => exact potGroup_pot g h
    case feedEvaluate => exact feedEvaluate_pot h
    case feederRestart => exact feederRestart_pot h
    case potContact => exact potContact_pot h
    case potStatuses atSample => exact potStatuses_pot atSample h
    all_goals simp [touched] at ht
  · have hp : (handle t s).1.pot = s.pot := (handle_touches t s).same .pot ht
    rw [hp]
    exact h

/-! ### The beginnings of POT -/

theorem takeCompletion_pot (src number result : Byte) (quantity : Nat) {s : State} (h : PotSound s.pot) :
    PotSound (takeCompletion src number result quantity s).1.pot := by
  unfold takeCompletion
  refine potActs_keeps (P := fun s => PotSound s.pot) h ?_
  (repeat' split)
  case isFalse =>
    obtain ⟨hwindow, hpumps, hfeeder, -, hmelt⟩ := h
    exact ⟨hwindow, hpumps, hfeeder, satAdd_le .., hmelt⟩
  all_goals exact h.set_feeder h.ineffective_le

theorem meltDwellExpiry_pot {s : State} (h : PotSound s.pot) : PotSound (meltDwellExpiry s).1.pot := by
  unfold meltDwellExpiry
  split
  · obtain ⟨hwindow, hpumps, hfeeder, hignored, -⟩ := h
    exact ⟨hwindow, hpumps, hfeeder, hignored, nofun⟩
  · exact h

theorem pumpGraceExpiry_pot (w : Wave) {s : State} (h : PotSound s.pot) : PotSound (pumpGraceExpiry w s).1.pot := by
  unfold pumpGraceExpiry
  split
  · exact h.set_pump w (h.pump w)
  · exact h

theorem writeEntry_pot (k : TableKind) (index : Nat) (staged m : FieldMap) {s : State} (h : PotSound s.pot) :
    PotSound (writeEntry k index staged m s).1.pot := by
  cases k <;> simp only [writeEntry, channelCommitted, clampDebt, limitSetpoints, applyEntry, setAlarm_pot] <;> exact h

theorem commitTaken_pot (k : TableKind) (index : Nat) (b : StagingBuffer) {s : State} (h : PotSound s.pot) :
    PotSound (commitTaken k index b s).state.pot :=
  writeEntry_pot k index b.fields (committedNext k index b s.tbs) (s := setStaging s k none) h

theorem restarted_pot (s : State) : (restarted s).pot = { s.pot with waves := [] } := by
  simp only [restarted, setLine_pot, releaseManual_pot, tleReset, potRestart, phmRestart, flxRestart, btkRestart, hldRestart]

theorem beginning_pot (b : Beginning) (s : State) (h : PotSound s.pot) : PotSound (b.effect s).1.pot := by
  by_cases ht : Block.pot ∈ b.touched
  · cases b
    case completion => exact takeCompletion_pot _ _ _ _ h
    case meltTimer => exact meltDwellExpiry_pot h
    case setbackTimer =>
      simp only [Beginning.effect, setbackExpiry]
      split <;> exact h
    case pumpGrace w => exact pumpGraceExpiry_pot w h
    case feedTimer =>
      simp only [Beginning.effect, feedExpiry]
      split
      · exact h.set_feeder h.ineffective_le
      · exact h
    case settleTimer => exact settleOver_pot h
    case commit k index x => exact commitTaken_pot _ _ _ h
    case restart =>
      rw [Beginning.effect, restarted_pot]
      exact h
    case feedNow => exact startFeed_pot h
    all_goals simp [Beginning.touched] at ht
  · have hp : (b.effect s).1.pot = s.pot := (b.effect_touches s).same .pot ht
    rw [hp]
    exact h

theorem potSound_reset : PotSound Pot.reset :=
  ⟨Nat.zero_le _, fun w => by cases w <;> exact ⟨Nat.zero_le _, nofun⟩, Nat.zero_le _, Nat.zero_le _, nofun⟩

/-! ## TLE -/

/-- A loop's integrator and invalid count are within their bounds (07 7.1). -/
def LoopSound (r : LoopRecord) : Prop := -4096000 ≤ r.integrator ∧ r.integrator ≤ 4096000 ∧ r.invalidCount ≤ 255

theorem LoopsSound.set {s : State} (h : LoopsSound s.tle) (l : LoopIx) {r : LoopRecord} (hr : LoopSound r) : LoopsSound (setLoop s l r).tle := by
  intro j
  show LoopSound ((setLoop s l r).tle.loops[j])
  rw [setLoop_tle_loops]
  by_cases hj : l = j
  · subst hj
    rw [vset_same]
    exact hr
  · rw [vset_other _ hj]
    exact h j

/-- Stages 6 and 7 keep the integrator within its bounds (R110). -/
theorem nextIntegrator_bounds (ki uMax p f e n : Int) {old : Int} (h : -4096000 ≤ old ∧ old ≤ 4096000) :
    -4096000 ≤ nextIntegrator ki uMax old p f e n ∧ nextIntegrator ki uMax old p f e n ≤ 4096000 := by
  unfold nextIntegrator
  dsimp only
  split
  · exact h
  · exact clamp_bounds _ (by decide)

theorem computed_sound (l : LoopIx) (tm : Int) (stamp : Word32) {s : State} (h : LoopsSound s.tle) : LoopSound (computed s l tm stamp) := by
  obtain ⟨hlo, hhi, -⟩ := h l
  unfold computed
  dsimp only
  split
  · exact ⟨hlo, hhi, Nat.zero_le _⟩
  · obtain ⟨klo, khi⟩ := nextIntegrator_bounds (gainKi s.tbs l) (outputMax s.tbs l) _ _ _ _ ⟨hlo, hhi⟩
    exact ⟨klo, khi, Nat.zero_le _⟩

theorem invalidArrival_loops (l : LoopIx) {s : State} (h : LoopsSound s.tle) : LoopsSound (invalidArrival l s).1.tle := by
  obtain ⟨hlo, hhi, -⟩ := h l
  unfold invalidArrival
  dsimp only
  split <;> exact h.set l ⟨hlo, hhi, satAdd_le ..⟩

theorem ownArrival_loops (l : LoopIx) (i : SigIx) (status : SampleStatus) {s : State} (h : LoopsSound s.tle) :
    LoopsSound (ownArrival l i status s).1.tle := by
  unfold ownArrival
  split
  · exact h.set l (computed_sound l _ _ h)
  · split
    · split
      · exact h.set l (computed_sound l _ _ h)
      · exact invalidArrival_loops l h
    · exact invalidArrival_loops l h

theorem otherArrival_loops (l : LoopIx) (i : SigIx) (status : SampleStatus) {s : State} (h : LoopsSound s.tle) :
    LoopsSound (otherArrival l i status s).1.tle := by
  unfold otherArrival
  split
  · exact h
  · split
    · exact h.set l (computed_sound l _ _ h)
    · exact invalidArrival_loops l h

theorem loopArrival_loops (l : LoopIx) (i : SigIx) (status : SampleStatus) {s : State} (h : LoopsSound s.tle) :
    LoopsSound (loopArrival l i status s).1.tle := by
  unfold loopArrival
  (repeat' split)
  · exact h
  · exact ownArrival_loops l i status h
  · exact otherArrival_loops l i status h
  · exact h

theorem loopSilent_loops (l : LoopIx) (i : SigIx) {s : State} (h : LoopsSound s.tle) : LoopsSound (loopSilent l i s).1.tle := by
  unfold loopSilent
  (repeat' split) <;> first
    | exact h
    | exact h.set l (h l)

theorem tleGroup_loops (g : Group) {s : State} (h : LoopsSound s.tle) : LoopsSound (tleGroup g s).1.tle := by
  unfold tleGroup
  split
  · exact List.foldlRecOn (motive := fun s : State => LoopsSound s.tle) _ _ h fun u hu l _ => hu.set l (hu l)
  · exact h

theorem handle_loops (t : Task) (s : State) (h : LoopsSound s.tle) : LoopsSound (handle t s).1.tle := by
  by_cases ht : Block.tle ∈ touched t
  · cases t
    case loopArrival l i status => exact loopArrival_loops l i status h
    case loopSilent l i => exact loopSilent_loops l i h
    case tleGroup g => exact tleGroup_loops g h
    all_goals simp [touched] at ht
  · have hp : (handle t s).1.tle = s.tle := (handle_touches t s).same .tle ht
    rw [hp]
    exact h

theorem limitSetpoints_loops {s : State} (h : LoopsSound s.tle) : LoopsSound (limitSetpoints s).tle := by
  intro l
  simp only [limitSetpoints, Fin.getElem_fin, Vector.getElem_ofFn]
  exact h l

theorem loopSound_reset : LoopSound LoopRecord.reset := ⟨by decide, by decide, Nat.zero_le _⟩

theorem writeEntry_loops (k : TableKind) (index : Nat) (staged m : FieldMap) {s : State} (h : LoopsSound s.tle) :
    LoopsSound (writeEntry k index staged m s).1.tle := by
  cases k
  case limits => exact limitSetpoints_loops (s := { s with tbs := { s.tbs with limits := m } }) h
  all_goals
    simp only [writeEntry, channelCommitted, clampDebt, applyEntry, setAlarm_tle]
    exact h

theorem restarted_loops (s : State) : LoopsSound (restarted s).tle := by
  intro l
  simp only [restarted, setLine_tle, releaseManual_tle, tleReset, Fin.getElem_fin, Vector.getElem_ofFn]
  exact loopSound_reset

theorem beginning_loops (b : Beginning) (s : State) (h : LoopsSound s.tle) : LoopsSound (b.effect s).1.tle := by
  by_cases ht : Block.tle ∈ b.touched
  · cases b
    case commit r k index x =>
      exact writeEntry_loops k index x.fields (committedNext k index x s.tbs) (s := setStaging s k none) h
    case restart => exact restarted_loops s
    all_goals simp [Beginning.touched] at ht
  · have hp : (b.effect s).1.tle = s.tle := (b.effect_touches s).same .tle ht
    rw [hp]
    exact h

/-- A step keeps what a block's hand-overs and beginnings keep of it, where LIF's counts and replies leave the block alone. -/
theorem step_keeps_block {P : State → Prop} (of_touches : ∀ s t, Touches [.lif, .mru] s t → P s → P t)
    (reset : P State.reset) (pending : ∀ s p, P s → P { s with pending := p }) (begin : ∀ b s, P s → P (Beginning.effect s b).1)
    (keeps : ∀ t s, P s → P (handle t s).1) (mark : ∀ s, P s → P { s with overrun := true }) (s t : State) (hs : P s)
    (h : step s = .next t) : P t :=
  step_keeps (P := P) (Q := P) (fun _ h => h) pending
    (fun _ s _ hs h => exec_keeps (pending _ s.pending reset) (fun u hu => of_touches s u hu.touches hs) (fun b _ => begin b s hs) keeps mark
      (fun u _ _ _ _ _ hu => of_touches u _ ((pushReply_touches ..).mono (by decide)) hu) h) s t hs h

/-- Settles O9: every hand-over and every beginning keeps POT's counts and the loops' integrators within their ranges. -/
theorem potAndLoopsStayBounded : Obligations.PotAndLoopsStayBounded := by
  constructor
  · exact step_keeps_block (P := fun s => PotSound s.pot)
      (fun s t ht h => by rw [show t.pot = s.pot from ht.same .pot (by decide)]; exact h) potSound_reset (fun _ _ h => h) beginning_pot
      handle_pot (fun _ h => h)
  · refine step_keeps_block (P := fun s => LoopsSound s.tle)
      (fun s t ht h => by rw [show t.tle = s.tle from ht.same .tle (by decide)]; exact h) ?_ (fun _ _ h => h) beginning_loops
      handle_loops (fun _ h => h)
    intro l
    simp only [State.reset, Fin.getElem_fin, Vector.getElem_replicate]
    exact loopSound_reset

end Sys2Proof.Machine
end


section
/-! Tables and recipes (04): every table and buffer names its fields in rising order, each once. -/

namespace Sys2Proof.Machine

/-! ## What keeps a map in order -/

theorem sortedFields_nil : SortedFields [] := List.Pairwise.nil

theorem sortedFields_single (item field : Nat) (v : Int) : SortedFields [(item, field, v)] := List.pairwise_singleton ..

theorem foldl_sorted {α : Type} {f : FieldMap → α → FieldMap} (hf : ∀ m x, SortedFields m → SortedFields (f m x)) (l : List α) {m : FieldMap}
    (h : SortedFields m) : SortedFields (l.foldl f m) :=
  List.foldlRecOn (motive := SortedFields) l f h fun _ hm x _ => hf _ x hm

theorem clampItem_sorted (lo hi : Int) (field : Nat) (m : FieldMap) (item : Nat) (h : SortedFields m) :
    SortedFields (clampItem lo hi field m item) := by
  unfold clampItem
  dsimp only
  split
  · exact h
  · exact putField_sorted _ _ _ _ h

theorem clampField_sorted (items : FieldSpec → List Nat) (m : FieldMap) (f : FieldSpec) (h : SortedFields m) :
    SortedFields (clampField items m f) := by
  unfold clampField
  split
  · exact foldl_sorted (clampItem_sorted _ _ _) _ h
  · exact h

theorem clampAction_sorted (m : FieldMap) (o : OutIx) (h : SortedFields m) : SortedFields (clampAction m o) := by
  unfold clampAction
  split
  · exact putField_sorted _ _ _ _ h
  · exact h

theorem dropField_sorted {m : FieldMap} (item field : Nat) (h : SortedFields m) : SortedFields (dropField m item field) :=
  List.Pairwise.filter _ h

theorem dropAction_sorted (m : FieldMap) (o : OutIx) (h : SortedFields m) : SortedFields (dropAction m o) := by
  unfold dropAction
  split
  · exact dropField_sorted _ _ h
  · exact h

theorem candidateFields_sorted {base : FieldMap} (staged : FieldMap) (h : SortedFields base) : SortedFields (candidateFields base staged) :=
  foldl_sorted (fun _ _ hm => putField_sorted _ _ _ _ hm) _ h

theorem clampCandidate_sorted (k : TableKind) {m : FieldMap} (h : SortedFields m) : SortedFields (clampCandidate k m) := by
  cases k
  case output =>
    exact foldl_sorted (fun m _ hm => clampItem_sorted _ _ _ m _ hm) _ (foldl_sorted clampAction_sorted _ (foldl_sorted (clampField_sorted _) _ h))
  all_goals exact foldl_sorted (clampField_sorted _) _ h

theorem storedCandidate_sorted (k : TableKind) {m : FieldMap} (h : SortedFields m) : SortedFields (storedCandidate k m) := by
  cases k
  case output => exact foldl_sorted dropAction_sorted _ h
  all_goals exact h

theorem stageField_sorted {b : Option StagingBuffer} (index item field : Nat) (v : Int) (h : ∀ x, b = some x → SortedFields x.fields) :
    SortedFields (stageField b index item field v).1.fields := by
  unfold stageField
  split
  · exact sortedFields_single ..
  · split
    · exact putField_sorted _ _ _ _ (h _ rfl)
    · exact sortedFields_single ..

/-! ## The committed tables -/

/-- Every table and every recipe bank names its fields in order, each once. -/
def CommittedSorted (t : Tbs) : Prop :=
  SortedFields t.channel ∧ SortedFields t.output ∧ SortedFields t.geometry ∧ SortedFields t.line
  ∧ SortedFields t.limits ∧ SortedFields t.tuning ∧ ∀ (i : SlotIx) (bank : BankId), SortedFields (slotBank t.slots[i] bank).fields

/-- Every staging buffer names its fields in order, each once. -/
def StagedSorted (b : StagingBuffers) : Prop := ∀ k x, stagingOf b k = some x → SortedFields x.fields

theorem tablesSorted_iff (s : State) : TablesSorted s ↔ StagedSorted s.mru.staging ∧ CommittedSorted s.tbs := Iff.rfl

/-- Tables with the same fields are in order together. -/
theorem CommittedSorted.of_slots {t u : Tbs} (h : CommittedSorted t) (hu : u = { t with slots := u.slots })
    (hs : ∀ (i : SlotIx) (bank : BankId), SortedFields (slotBank u.slots[i] bank).fields) : CommittedSorted u := by
  obtain ⟨h1, h2, h3, h4, h5, h6, -⟩ := h
  rw [hu]
  exact ⟨h1, h2, h3, h4, h5, h6, hs⟩

theorem CommittedSorted.bank {t : Tbs} (h : CommittedSorted t) (i : SlotIx) (bank : BankId) : SortedFields (slotBank t.slots[i] bank).fields :=
  h.2.2.2.2.2.2 i bank

theorem StagedSorted.set {b : StagingBuffers} (h : StagedSorted b) (k : TableKind) {x : Option StagingBuffer}
    (hx : ∀ y, x = some y → SortedFields y.fields) : StagedSorted (setStagingOf b k x) := by
  intro j y hy
  by_cases hj : j = k
  · subst hj
    rw [stagingOf_setStagingOf] at hy
    exact hx y hy
  · rw [stagingOf_setStagingOf_other _ _ hj] at hy
    exact h j y hy

theorem TablesSorted.held {s t : State} (h : TablesSorted s) (k : ConfigurationHeld s t) : TablesSorted t := by
  obtain ⟨hstaged, hcommitted⟩ := (tablesSorted_iff s).mp h
  obtain ⟨htables, hmru⟩ := k
  refine (tablesSorted_iff t).mpr ⟨by rw [hmru]; exact hstaged, hcommitted.of_slots htables.1 fun i bank => ?_⟩
  rw [(htables.2 i).fields bank]
  exact hcommitted.bank i bank

theorem committedFields_sorted {t : Tbs} (h : CommittedSorted t) (k : TableKind) (index : Nat) : SortedFields (committedFields t k index) := by
  obtain ⟨h1, h2, h3, h4, h5, h6, hs⟩ := h
  cases k
  case channel => exact h1
  case output => exact h2
  case geometry => exact h3
  case line => exact h4
  case limits => exact h5
  case tuning => exact h6
  case alarm => simp [committedFields, alarmFieldMap, SortedFields]
  case recipe =>
    simp only [committedFields]
    split
    · exact hs _ _
    · exact sortedFields_nil

theorem committedNext_sorted {t : Tbs} (h : CommittedSorted t) (k : TableKind) (index : Nat) (b : StagingBuffer) :
    SortedFields (committedNext k index b t) :=
  storedCandidate_sorted k (clampCandidate_sorted k (candidateFields_sorted _ (committedFields_sorted h k index)))

theorem writeRecipe_sorted {t : Tbs} (h : CommittedSorted t) (index : Nat) {m : FieldMap} (hm : SortedFields m) :
    CommittedSorted (writeRecipe t index m) := by
  refine h.of_slots rfl fun i bank => ?_
  rw [writeRecipe_slots]
  split
  · generalize writeBank t index = w
    have hi := h.bank i bank
    cases w <;> cases bank <;> first | exact hm | exact hi
  · exact h.bank i bank

theorem writtenTables_sorted {t : Tbs} (h : CommittedSorted t) (k : TableKind) (index : Nat) (staged : FieldMap) {m : FieldMap}
    (hm : SortedFields m) : CommittedSorted (writtenTables k index staged m t) := by
  obtain ⟨h1, h2, h3, h4, h5, h6, hs⟩ := id h
  cases k
  case channel => exact ⟨hm, h2, h3, h4, h5, h6, hs⟩
  case output => exact ⟨h1, hm, h3, h4, h5, h6, hs⟩
  case geometry => exact ⟨h1, h2, hm, h4, h5, h6, hs⟩
  case line => exact ⟨h1, h2, h3, hm, h5, h6, hs⟩
  case limits => exact ⟨h1, h2, h3, h4, hm, h6, hs⟩
  case tuning => exact ⟨h1, h2, h3, h4, h5, hm, hs⟩
  case alarm => exact ⟨h1, h2, h3, h4, h5, h6, hs⟩
  case recipe => exact writeRecipe_sorted h index hm

/-! ## Every step -/

theorem commitTaken_staging (k : TableKind) (index : Nat) (b : StagingBuffer) (s : State) :
    (commitTaken k index b s).state.mru.staging = setStagingOf s.mru.staging k none := by cases k <;> rfl

theorem beginning_sorted (b : Beginning) (s : State) (h : TablesSorted s) : TablesSorted (b.effect s).1 := by
  obtain ⟨hstaged, hcommitted⟩ := (tablesSorted_iff s).mp h
  by_cases ht : Block.tbs ∈ b.touched ∨ Block.mru ∈ b.touched
  · cases b
    case stage k index item field v =>
      exact ⟨hstaged.set k fun y hy => by cases hy; exact stageField_sorted _ _ _ _ (hstaged k), hcommitted⟩
    case discard k => exact ⟨hstaged.set k nofun, hcommitted⟩
    case commit r k index x =>
      refine (tablesSorted_iff _).mpr ⟨?_, ?_⟩
      · rw [Beginning.effect, commitTaken_staging]
        exact hstaged.set k nofun
      · rw [Beginning.effect, commitTaken_tbs]
        exact writtenTables_sorted hcommitted k index _ (committedNext_sorted hcommitted k index x)
    case removeRecipe i =>
      refine ⟨hstaged, hcommitted.of_slots rfl fun j bank => ?_⟩
      by_cases hj : j = i
      · subst hj
        simp only [Beginning.effect, vset_same, removedSlot_fields]
        exact hcommitted.bank j bank
      · simp only [Beginning.effect, vset_other _ (Ne.symm hj)]
        exact hcommitted.bank j bank
    case restart =>
      refine (tablesSorted_iff _).mpr ⟨hstaged, ?_⟩
      rw [Beginning.effect, restarted_tbs]
      refine hcommitted.of_slots rfl fun i bank => ?_
      rw [((btkRestart_held s).2 i).fields bank]
      exact hcommitted.bank i bank
    all_goals first | exact h | simp [Beginning.touched] at ht
  · exact h.held (.of_eq ((b.effect_touches s).same .tbs fun k => ht (.inl k)) ((b.effect_touches s).same .mru fun k => ht (.inr k)))

theorem tablesSorted_reset : TablesSorted State.reset := by
  refine ⟨fun k b hb => ?_, sortedFields_nil, sortedFields_nil, sortedFields_nil, sortedFields_nil, sortedFields_nil, sortedFields_nil, fun i bank => ?_⟩
  · cases k <;> cases hb
  · simp only [State.reset, Tbs.reset, Fin.getElem_fin, Vector.getElem_replicate]
    cases bank <;> exact sortedFields_nil

theorem tablesStaySorted (s t : State) (hs : TablesSorted s) (h : step s = .next t) : TablesSorted t :=
  step_keeps (P := TablesSorted) (Q := TablesSorted) (fun _ h => h) (fun _ _ h => h)
    (fun _ _ _ hs h => exec_keeps tablesSorted_reset (fun _ hu => hs.held (counted_configuration hu)) (fun b _ => beginning_sorted b _ hs)
      (fun t u hu => hu.held (handle_configuration t u)) (fun _ h => h) (fun _ _ _ _ _ _ hu => hu) h) s t hs h

end Sys2Proof.Machine
end


section
/-! The board train (05): what other blocks' writes keep of a record, the numbers of the train, and the reference counts of the banks. -/

namespace Sys2Proof.Machine

/-! ## What a write keeps of a record (R74, R78) -/

/-- A record after a write of a block: number, bank, lead and plan stay, and it keeps to R78 if it did. -/
structure RecordKept (b c : Board) : Prop where
  number : c.number = b.number
  bank : c.bank = b.bank
  lead : c.lead = b.lead
  unplanned : c.unplanned = b.unplanned
  rework : (b.defects ≠ 0 → b.disposition = .rework) → c.defects ≠ 0 → c.disposition = .rework

/-- From `s` to `t` the train keeps its records, and BTK its position, its speed, its exits, its next number and the gate. -/
def TrainKept (s t : State) : Prop :=
  List.Forall₂ RecordKept s.btk.train t.btk.train
  ∧ t.btk = { s.btk with train := t.btk.train, entryFilter := t.btk.entryFilter, exitFilter := t.btk.exitFilter,
                         entryBoard := t.btk.entryBoard, lastEntryTail := t.btk.lastEntryTail, exitMatch := t.btk.exitMatch,
                         noMotionTimer := t.btk.noMotionTimer, faultCondition := t.btk.faultCondition }

theorem RecordKept.refl (b : Board) : RecordKept b b := ⟨rfl, rfl, rfl, rfl, id⟩

theorem RecordKept.trans {a b c : Board} (h : RecordKept a b) (k : RecordKept b c) : RecordKept a c :=
  ⟨k.number.trans h.number, k.bank.trans h.bank, k.lead.trans h.lead, k.unplanned.trans h.unplanned, fun ha => k.rework (h.rework ha)⟩

theorem recordsKept_refl (l : List Board) : List.Forall₂ RecordKept l l := List.forall₂_same.mpr fun b _ => .refl b

theorem recordsKept_map {f : Board → Board} {l : List Board} (h : ∀ b ∈ l, RecordKept b (f b)) : List.Forall₂ RecordKept l (l.map f) :=
  List.forall₂_map_right_iff.mpr (List.forall₂_same.mpr h)

theorem recordsKept_trans : ∀ {a b c : List Board}, List.Forall₂ RecordKept a b → List.Forall₂ RecordKept b c → List.Forall₂ RecordKept a c
  | _, _, _, .nil, .nil => .nil
  | _, _, _, .cons h hs, .cons k ks => .cons (h.trans k) (recordsKept_trans hs ks)

theorem TrainKept.refl (s : State) : TrainKept s s := ⟨recordsKept_refl _, rfl⟩

theorem TrainKept.trans {s t u : State} (h : TrainKept s t) (k : TrainKept t u) : TrainKept s u := by
  refine ⟨recordsKept_trans h.1 k.1, ?_⟩
  rw [k.2, h.2]

theorem TrainKept.of_eq {s t : State} (h : t.btk = s.btk) : TrainKept s t := by
  rw [TrainKept, h]
  exact TrainKept.refl s

/-- Only the writes to the records are in question where the rest of BTK that is kept stays. -/
theorem TrainKept.of_train {s t : State} (h : List.Forall₂ RecordKept s.btk.train t.btk.train) (hb : t.btk = { s.btk with train := t.btk.train }) :
    TrainKept s t := by
  refine ⟨h, ?_⟩
  rw [hb]

/-- A write into the records of one number. -/
theorem recordsKept_write (n : BoardNo) (l : List Board) {f : Board → Board} (h : ∀ b, RecordKept b (f b)) :
    List.Forall₂ RecordKept l (l.map fun b => if b.number = n then f b else b) := by
  refine recordsKept_map fun b _ => ?_
  split
  · exact h b
  · exact .refl b

theorem mapBoard_kept (s : State) (n : BoardNo) {f : Board → Board} (h : ∀ b, RecordKept b (f b)) : TrainKept s (mapBoard s n f) :=
  .of_train (recordsKept_write n _ h) rfl

theorem writeFlux_kept (n : BoardNo) (f : FluxStatus) (s : State) : TrainKept s (writeFlux n f s) := mapBoard_kept s n fun _ => ⟨rfl, rfl, rfl, rfl, id⟩

theorem foldl_kept {α : Type} {f : State → α → State} (h : ∀ s x, TrainKept s (f s x)) (l : List α) (s : State) : TrainKept s (l.foldl f s) :=
  List.foldlRecOn (motive := fun t : State => TrainKept s t) l f (.refl s) fun _ ht _ _ => ht.trans (h ..)

theorem TrainKept.of_touches {bs : List Block} {s t : State} (h : Touches bs s t) (hb : Block.btk ∉ bs) : TrainKept s t := .of_eq (h.same .btk hb)

theorem withFlux_kept (s : State) (x : Flx) : TrainKept s { s with flx := x } := .of_eq rfl

theorem RecordKept.of_rework {b c : Board} (hn : c.number = b.number) (hb : c.bank = b.bank) (hl : c.lead = b.lead) (hu : c.unplanned = b.unplanned)
    (hr : c.disposition = .rework) : RecordKept b c := ⟨hn, hb, hl, hu, fun _ _ => hr⟩

/-! ### The hand-overs that write into records -/

theorem setSensorFilter_kept (s : State) (exit : Bool) (f : SensorFilter) : TrainKept s (setSensorFilter s exit f) := by
  cases exit <;> exact ⟨recordsKept_refl _, rfl⟩

theorem boardSensor_kept (exit : Bool) (status : SampleStatus) (s : State) : TrainKept s (boardSensor exit status s).1 := by
  unfold boardSensor
  split
  · split
    · exact setSensorFilter_kept ..
    · exact setSensorFilter_kept ..
  · exact .refl s

theorem entryTail_kept (p : Word32) (s : State) : TrainKept s (entryTail p s).1 := by
  unfold entryTail
  dsimp only
  split
  · split
    · refine ⟨recordsKept_write _ _ ?_, rfl⟩
      exact fun _ => ⟨rfl, rfl, rfl, rfl, id⟩
    · exact ⟨recordsKept_refl _, rfl⟩
  · exact ⟨recordsKept_refl _, rfl⟩

theorem exitLead_kept (p : Word32) (s : State) : TrainKept s (exitLead p s).1 := by
  unfold exitLead
  dsimp only
  (repeat' split)
  · exact ⟨recordsKept_refl _, rfl⟩
  · exact ⟨recordsKept_refl _, rfl⟩
  · refine ⟨recordsKept_write _ _ ?_, rfl⟩
    exact fun _ => ⟨rfl, rfl, rfl, rfl, id⟩
  · exact .refl s

theorem exitTail_kept (s : State) : TrainKept s (exitTail s).1 := by
  unfold exitTail
  dsimp only
  (repeat' split) <;> exact ⟨recordsKept_refl _, rfl⟩

theorem noMotion_kept (s : State) : TrainKept s (noMotion s).1 := by
  unfold noMotion
  (repeat' split) <;> exact ⟨recordsKept_refl _, rfl⟩

theorem writeDefect_kept (n : BoardNo) (d : Defect) (s : State) : TrainKept s (writeDefect n d s).1 := by
  unfold writeDefect
  split
  · exact .refl s
  · exact mapBoard_kept s n fun _ => .of_rework rfl rfl rfl rfl rfl

theorem writeDisposition_kept (n : BoardNo) (s : State) : TrainKept s (writeDisposition n .rework s).1 := by
  unfold writeDisposition
  split
  · exact .refl s
  · exact mapBoard_kept s n fun _ => .of_rework rfl rfl rfl rfl rfl

theorem flxNewRecord_kept (n : BoardNo) (s : State) : TrainKept s (flxNewRecord n s).1 := by
  have skip : TrainKept s (writeFlux n .skipped { s with flx := { s.flx with sprays := s.flx.sprays ++ [⟨n, [], false, 0⟩] } }) :=
    .trans (t := { s with flx := _ }) (.of_eq rfl) (writeFlux_kept ..)
  unfold flxNewRecord
  dsimp only
  split
  · exact .refl s
  · split
    · exact skip
    · split
      · exact skip
      · exact List.foldlRecOn (motive := fun t : State => TrainKept s t) _ _ (.of_eq rfl) fun _ ht _ _ => ht.trans (.of_eq rfl)

theorem flxLength_kept (n : BoardNo) (s : State) : TrainKept s (flxLength n s).1 := by
  have clips (b : Board) (m : FieldMap) (len : Int) (gs : List Segment) : TrainKept s (gs.foldl (fun s g => clipSegment b m len g s) s) :=
    foldl_kept (fun _ _ => .of_touches (clipSegment_touches ..) (by decide)) gs s
  unfold flxLength
  dsimp only
  (repeat' split)
  · exact (clips ..).trans (writeFlux_kept ..)
  · exact clips ..
  · exact (clips ..).trans (.of_eq rfl)
  · exact clips ..
  all_goals exact .refl s

theorem flxRework_kept (n : BoardNo) (s : State) : TrainKept s (flxRework n s).1 := by
  have stop (f : FluxStatus) (u : State) (hu : u.btk = s.btk) : TrainKept s (writeFlux n f u) := .trans (.of_eq hu) (writeFlux_kept ..)
  unfold flxRework
  dsimp only
  split
  · exact stop _ _ rfl
  · exact stop _ _ rfl
  all_goals exact .refl s

theorem writeDoses_kept (s : State) : TrainKept s (writeDoses s) := by
  refine foldl_kept (fun s r => mapBoard_kept s _ ?_) _ s
  exact fun _ => ⟨rfl, rfl, rfl, rfl, id⟩

theorem flxAccount_kept (s : State) : TrainKept s (flxAccount s).1 := by
  unfold flxAccount
  dsimp only
  split
  · exact .of_eq rfl
  · have accounts (d : Nat) : TrainKept s (allNozzles.foldl (accountNozzle d) s) :=
      .of_touches (.foldl (accountNozzle_touches d) _ s) (by decide)
    exact ((accounts _).trans (writeDoses_kept _)).trans (withFlux_kept ..)

theorem flxRunEnd_kept (n : BoardNo) (s : State) : TrainKept s (flxRunEnd n s).1 := by
  have ends : TrainKept s (writeFlux n .done (mapSpray s n fun r => { r with runClosing := false })) := .trans (.of_eq rfl) (writeFlux_kept ..)
  unfold flxRunEnd
  dsimp only
  split
  · split
    · split
      · exact ends
      · exact ends
    · exact .refl s
  · exact .refl s

theorem applyEdge_kept (s : State) (e : Edge) : TrainKept s (applyEdge s e) := by
  unfold applyEdge
  split
  · dsimp only
    split
    · exact (writeFlux_kept ..).trans (.of_eq rfl)
    · exact .of_eq rfl
  · exact .of_eq rfl
  · exact .refl s

theorem applyGroup_kept (s : State) (g : Nat × List Edge) : TrainKept s (applyGroup s g) :=
  (foldl_kept applyEdge_kept _ s).trans (foldl_kept (fun t n => .trans (.of_touches (handValve_touches ..) (by decide))
    (.of_touches (planChange_touches ..) (by decide))) _ _)

theorem flxTakeEdges_kept (s : State) : TrainKept s (flxTakeEdges s).1 := by
  unfold flxTakeEdges takeEdges
  (repeat' split)
  · exact .refl s
  · exact .refl s
  · have drops (k : Nat) (p : Edge → Bool) : TrainKept s (countLateEdges k (dropEdges p s)) := .of_eq rfl
    exact ((drops ..).trans (foldl_kept applyGroup_kept _ _)).trans (.of_touches (closeRuns_touches ..) (by decide))
  · exact .refl s

theorem pyrometer_kept (status : SampleStatus) (s : State) : TrainKept s (pyrometer status s).1 := by
  unfold pyrometer
  split
  · have writes (x : Int) (l : List BoardNo) :
        TrainKept s (l.foldl (fun s n => mapBoard s n fun b => { b with topside := some x }) s) := by
      refine foldl_kept (fun s n => mapBoard_kept s n ?_) l s
      exact fun _ => ⟨rfl, rfl, rfl, rfl, id⟩
    exact (writes ..).trans (.of_eq rfl)
  · exact .of_eq rfl

theorem accrueWave_kept (w : Wave) (ms : Nat) (s : State) : TrainKept s (accrueWave w ms s) := by
  unfold accrueWave
  dsimp only
  split
  · refine .of_train (recordsKept_map fun b _ => ?_) rfl
    split
    · cases w <;> exact ⟨rfl, rfl, rfl, rfl, id⟩
    · exact .refl b
  · exact .refl s

theorem potActs_kept {s : State} {e : Effect} (h : TrainKept s e.1) : TrainKept s (potActs s e).1 :=
  potActs_keeps (P := fun t => TrainKept s t) (.refl s) h

theorem potContact_kept (s : State) : TrainKept s (potContact s).1 := by
  refine potActs_kept ?_
  dsimp only
  split
  · exact .of_eq rfl
  · exact ((accrueWave_kept ..).trans (accrueWave_kept ..)).trans (.of_eq rfl)

theorem potStatuses_kept (atSample : Bool) (s : State) : TrainKept s (potStatuses atSample s).1 := by
  refine potActs_kept (.trans (.trans (t := { s with btk := { s.btk with train := s.btk.train.map fun b =>
      { b with wave := nextWaveStatus s atSample b } } }) ?_ (.of_touches (contactFlags_touches _) (by decide))) (.of_eq rfl))
  exact .of_train (recordsKept_map fun b _ => ⟨rfl, rfl, rfl, rfl, id⟩) rfl

theorem capturedBoard_kept (b : Board) : RecordKept b (capturedBoard b) := by
  unfold capturedBoard
  dsimp only
  split
  · exact .of_rework rfl rfl rfl rfl rfl
  · exact ⟨rfl, rfl, rfl, rfl, id⟩

theorem newEpisode_kept (c : Cause) (s : State) : TrainKept s (newEpisode c s).1 := .of_train (recordsKept_map fun b _ => capturedBoard_kept b) rfl

theorem holdCause_kept (c : Cause) (s : State) : TrainKept s (holdCause c s).1 := by
  unfold holdCause
  (repeat' split)
  · exact newEpisode_kept c s
  · exact newEpisode_kept c s
  all_goals exact .refl s

/-- The hand-overs that move the position or the gate, add or remove a record, or set CONTINUE. -/
def movesTrain : Task → Bool
  | .admission | .loopDown | .encoderSilent | .encoder _ | .entryLead _ | .retire _ | .disposition _ .goOn => true
  | _ => false

/-- Every other hand-over keeps the train. -/
theorem handle_train (t : Task) (s : State) (h : movesTrain t = false) : TrainKept s (handle t s).1 := by
  by_cases ht : Block.btk ∈ touched t
  · cases t
    case boardSensor exit status => exact boardSensor_kept exit status s
    case boardSensorSilent exit => exact setSensorFilter_kept ..
    case entryTail p => exact entryTail_kept p s
    case exitLead p => exact exitLead_kept p s
    case exitTail => exact exitTail_kept s
    case noMotion => exact noMotion_kept s
    case defect n d => exact writeDefect_kept n d s
    case disposition n d =>
      cases d
      case goOn => cases h
      case rework => exact writeDisposition_kept n s
    case flxNewRecord n => exact flxNewRecord_kept n s
    case flxLength n => exact flxLength_kept n s
    case flxRework n => exact flxRework_kept n s
    case flxAccount => exact flxAccount_kept s
    case flxRunEnd n => exact flxRunEnd_kept n s
    case flxTakeEdges => exact flxTakeEdges_kept s
    case pyrometer status => exact pyrometer_kept status s
    case potContact => exact potContact_kept s
    case potStatuses atSample => exact potStatuses_kept atSample s
    case holdCause c => exact holdCause_kept c s
    case admission | loopDown | encoderSilent | encoder | entryLead | retire => cases h
    all_goals simp [touched] at ht
  · exact .of_eq ((handle_touches t s).same .btk ht)

/-! ## The form of the train (R67, R73, R77, R78, R84) -/

theorem numbersRun_of_kept : ∀ {l m : List Board} {next : BoardNo}, List.Forall₂ RecordKept l m → NumbersRun l next → NumbersRun m next
  | _, _, _, .nil, h => h
  | _, _, _, .cons hb hs, ⟨hn, hrest⟩ => ⟨by rw [hb.number, ← hs.length_eq]; exact hn, numbersRun_of_kept hs hrest⟩

theorem rework_of_kept {l m : List Board} (h : List.Forall₂ RecordKept l m) (hl : ∀ b ∈ l, b.defects ≠ 0 → b.disposition = .rework) :
    ∀ b ∈ m, b.defects ≠ 0 → b.disposition = .rework := by
  induction h with
  | nil => exact hl
  | cons hb _ ih =>
    obtain ⟨hfirst, hrest⟩ := List.forall_mem_cons.mp hl
    exact List.forall_mem_cons.mpr ⟨hb.rework hfirst, ih hrest⟩

theorem TrainSound.of_kept {s t : State} (h : TrainSound s.btk) (k : TrainKept s t) : TrainSound t.btk := by
  obtain ⟨hlen, hexits, hhistory, hv8, hnumbers, hrework⟩ := h
  obtain ⟨hrecords, hb⟩ := k
  refine ⟨hrecords.length_eq ▸ hlen, ?_, ?_, ?_, ?_, rework_of_kept hrecords hrework⟩
  · rw [hb]; exact hexits
  · rw [hb]; exact hhistory
  · rw [hb]; exact hv8
  · rw [show t.btk.nextNumber = s.btk.nextNumber by rw [hb]]
    exact numbersRun_of_kept hrecords hnumbers

/-- A train with the same records but for their loss marks, under a new speed history. -/
theorem TrainSound.rebase {b c : Btk} (h : TrainSound b) (hr : List.Forall₂ RecordKept b.train c.train) (he : c.exits = b.exits)
    (hn : c.nextNumber = b.nextNumber) (hh : c.history.length ≤ 9) (hv : c.v8 = speedOf c.history) : TrainSound c := by
  obtain ⟨hlen, hexits, -, -, hnumbers, hrework⟩ := h
  exact ⟨hr.length_eq ▸ hlen, he ▸ hexits, hh, hv, hn ▸ numbersRun_of_kept hr hnumbers, rework_of_kept hr hrework⟩

theorem lossMarks_kept (l : List Board) (x : Bool) : List.Forall₂ RecordKept l (l.map fun r => { r with lossMark := x }) :=
  recordsKept_map fun _ _ => ⟨rfl, rfl, rfl, rfl, id⟩

theorem encoderGap_train {s : State} (h : TrainSound s.btk) : TrainSound (encoderGap s).1.btk :=
  h.rebase (lossMarks_kept _ _) rfl rfl (Nat.zero_le _) rfl

theorem pushHistory_length (h : List Word32) (p : Word32) (hl : h.length ≤ 9) : (pushHistory h p).length ≤ 9 := by
  unfold pushHistory
  dsimp only
  split
  · simp only [List.length_drop, List.length_append, List.length_singleton]
    omega
  · next hn => exact Nat.not_lt.mp hn

theorem encoder_train (status : SampleStatus) {s : State} (h : TrainSound s.btk) : TrainSound (encoder status s).1.btk := by
  unfold encoder
  split
  · have hh := pushHistory_length s.btk.history (nextPosition s.btk (BitVec.ofInt 16 (lastGood s (S 10)))) h.2.2.1
    dsimp only
    split
    · exact h.rebase (lossMarks_kept _ _) rfl rfl hh rfl
    · exact h.rebase (recordsKept_refl _) rfl rfl hh rfl
  · exact h

/-- A record with the next number joins the end of a train whose numbers run on. -/
theorem numbersRun_append : ∀ {l : List Board} {b : Board} {next : BoardNo}, NumbersRun l next → b.number = next → NumbersRun (l ++ [b]) (next + 1)
  | [], b, next, _, hb => ⟨by rw [hb]; simp, trivial⟩
  | c :: l, b, next, ⟨hc, hl⟩, hb => by
    refine ⟨?_, numbersRun_append hl hb⟩
    show c.number = next + 1 - BitVec.ofNat 16 ((l ++ [b]).length + 1)
    rw [hc, List.length_append, List.length_singleton]
    rw [BitVec.ofNat_add (l.length + 1) 1]
    grind

theorem newRecord_rework (s : State) (p : Word32) (h : (newRecord s p).defects ≠ 0) : (newRecord s p).disposition = .rework := by
  cases hg : s.btk.gateOpen
  · simp [newRecord, hg]
  · simp [newRecord, hg] at h

theorem entryLead_train (p : Word32) {s : State} (h : TrainSound s.btk) : TrainSound (entryLead p s).1.btk := by
  obtain ⟨hlen, hexits, hhistory, hv8, hnumbers, hrework⟩ := h
  unfold entryLead
  split
  · exact ⟨hlen, hexits, hhistory, hv8, hnumbers, hrework⟩
  · next hroom =>
    refine ⟨?_, hexits, hhistory, hv8, numbersRun_append hnumbers rfl, fun b hb => ?_⟩
    · simp only [List.length_append, List.length_singleton]
      omega
    · rcases List.mem_append.mp hb with hb | hb
      · exact hrework b hb
      · rw [List.mem_singleton.mp hb]
        exact newRecord_rework s p

theorem pushReport_btk (r : ExitReport) (s : State) : (pushReport r s).btk = s.btk := by
  unfold pushReport
  split <;> rfl

theorem pushReport_tbs (r : ExitReport) (s : State) : (pushReport r s).tbs = s.tbs := by
  unfold pushReport
  split <;> rfl

theorem retire_train (lost : Bool) {s : State} (h : TrainSound s.btk) : TrainSound (retire lost s).1.btk := by
  obtain ⟨hlen, hexits, hhistory, hv8, hnumbers, hrework⟩ := id h
  unfold retire
  split
  · exact h
  · next b rest hb =>
    dsimp only
    rw [pushReport_btk]
    rw [hb] at hlen hnumbers hrework
    exact ⟨(Nat.le_succ _).trans hlen, List.length_take_le .., hhistory, hv8, hnumbers.2, fun c hc => hrework c (List.mem_cons_of_mem _ hc)⟩

theorem findBoard_mem {l : List Board} {n : BoardNo} {b : Board} (h : findBoard l n = some b) : b ∈ l ∧ b.number = n :=
  ⟨List.mem_of_find?_eq_some h, by simpa using List.find?_some h⟩

/-- In a train whose numbers run on, a record's number tells its distance from the end. -/
theorem numbersRun_mem {l : List Board} {next : BoardNo} (h : NumbersRun l next) :
    ∀ c ∈ l, ∃ k < l.length, c.number = next - BitVec.ofNat 16 (k + 1) := by
  induction l with
  | nil => exact fun c hc => absurd hc List.not_mem_nil
  | cons b rest ih =>
    refine List.forall_mem_cons.mpr ⟨⟨rest.length, Nat.lt_succ_self _, h.1⟩, fun c hc => ?_⟩
    obtain ⟨k, hk, hn⟩ := ih h.2 c hc
    exact ⟨k, Nat.lt_succ_of_lt hk, hn⟩

/-- Two records of a train have different numbers. -/
theorem numbers_distinct : ∀ {l : List Board} {next : BoardNo}, NumbersRun l next → l.length ≤ 12 → l.Pairwise fun a b => a.number ≠ b.number
  | [], _, _, _ => .nil
  | b :: rest, next, ⟨hb, hrest⟩, hlen => by
    rw [List.length_cons] at hlen
    refine .cons (fun c hc heq => ?_) (numbers_distinct hrest (Nat.le_of_succ_le hlen))
    obtain ⟨k, hk, hn⟩ := numbersRun_mem hrest c hc
    rw [hb, hn] at heq
    have hlt : rest.length < 12 := hlen
    generalize rest.length = m at *
    bv_omega

theorem findBoard_unique {l : List Board} {next : BoardNo} (h : NumbersRun l next) (hlen : l.length ≤ 12) {n : BoardNo} {b c : Board}
    (hb : findBoard l n = some b) (hc : c ∈ l) (hn : c.number = n) : c = b := by
  obtain ⟨hm, hbn⟩ := findBoard_mem hb
  by_contra hne
  have symmetric : Std.Symm fun x y : Board => x.number ≠ y.number := ⟨fun _ _ k => k.symm⟩
  exact (numbers_distinct h hlen).forall hc hm hne (hn.trans hbn.symm)

/-- CONTINUE for a board without a defect keeps the train's form (R192). -/
theorem goOn_train {n : BoardNo} {b : Board} {s : State} (h : TrainSound s.btk) (hb : findBoard s.btk.train n = some b) (hd : b.defects = 0) :
    TrainSound (writeDisposition n .goOn s).1.btk := by
  have hkept : TrainKept s (mapBoard s n fun r => { r with disposition := .goOn }) := by
    refine .of_train (recordsKept_map fun c hc => ?_) rfl
    split
    · next hn => exact ⟨rfl, rfl, rfl, rfl, fun _ hc' => absurd ((findBoard_unique h.2.2.2.2.1 h.1 hb hc hn).symm ▸ hd) hc'⟩
    · exact .refl c
  unfold writeDisposition
  rw [hb]
  exact h.of_kept hkept

/-- No hand-over sets CONTINUE. -/
theorem handle_no_disposition (t : Task) (s : State) : ∀ u ∈ (handle t s).2, u.kind ≠ .disposition := by
  intro u hu hk
  have hm := among_iff.mp (handle_emits t s) u hu
  rw [hk] at hm
  revert hm
  cases t <;> simp [emitted, Task.kind]

theorem handle_trainSound (t : Task) (s : State) (ht : t.kind ≠ .disposition) (h : TrainSound s.btk) : TrainSound (handle t s).1.btk := by
  by_cases hm : movesTrain t = false
  · exact h.of_kept (handle_train t s hm)
  · cases t
    case admission => exact h
    case loopDown | encoderSilent => exact encoderGap_train h
    case encoder status => exact encoder_train status h
    case entryLead p => exact entryLead_train p h
    case retire lost => exact retire_train lost h
    case disposition => exact absurd rfl ht
    all_goals exact absurd rfl hm

theorem settle_trainSound (n : Nat) (ts : List Task) (s : State) (ht : ∀ t ∈ ts, t.kind ≠ .disposition) (h : TrainSound s.btk) :
    TrainSound (settle n ts s).btk :=
  settle_keeps (P := fun s => TrainSound s.btk) (Q := fun t => t.kind ≠ .disposition) (fun t s hq hs => handle_trainSound t s hq hs)
    (fun t s _ _ => handle_no_disposition t s) (fun _ hs => hs) n ts s ht h

theorem restarted_btk (s : State) : (restarted s).btk = (btkRestart s).btk := by
  simp only [restarted, setLine_btk, releaseManual_btk, tleReset, potRestart, phmRestart, flxRestart, btkRestart, hldRestart]

theorem beginning_trainSound (b : Beginning) (s : State) (h : TrainSound s.btk) : TrainSound (b.effect s).1.btk := by
  obtain ⟨-, hexits, hhistory, hv8, -, -⟩ := id h
  by_cases ht : Block.btk ∈ b.touched
  · cases b
    case noMotionTimer =>
      simp only [Beginning.effect, noMotionExpiry]
      split <;> exact h
    case restart =>
      rw [Beginning.effect, restarted_btk]
      exact ⟨Nat.zero_le _, hexits, hhistory, hv8, trivial, fun _ hb => absurd hb List.not_mem_nil⟩
    all_goals simp [Beginning.touched] at ht
  · have hb : (b.effect s).1.btk = s.btk := (b.effect_touches s).same .btk ht
    rw [hb]
    exact h

/-- Only SET_DISPOSITION begins an event with a disposition. -/
theorem beginning_no_disposition (b : Beginning) (s : State) (hb : ∀ n, b ≠ .rework n ∧ b ≠ .goOn n) :
    ∀ t ∈ (b.effect s).2, t.kind ≠ .disposition := by
  intro t ht hk
  have hm := among_iff.mp (b.effect_among s) t ht
  rw [hk] at hm
  revert hm
  cases b
  case rework n => exact absurd rfl (hb n).1
  case goOn n => exact absurd rfl (hb n).2
  all_goals simp [Beginning.first, silentKinds]

theorem runEffect_trainSound {c : Instr} {s : State} (b : Beginning) (hb : b.Allowed c s) (h : TrainSound s.btk) :
    TrainSound (runEffect (b.effect s)).btk := by
  by_cases hd : ∀ n, b ≠ .rework n ∧ b ≠ .goOn n
  · exact settle_trainSound _ _ _ (beginning_no_disposition b s hd) (beginning_trainSound b s h)
  · have once (n : BoardNo) (d : Disposition) (k : TrainSound (writeDisposition n d s).1.btk) : TrainSound (run s [.disposition n d]).btk := by
      rw [run_cons, List.append_nil]
      exact settle_trainSound _ _ _ (handle_no_disposition (.disposition n d) s) k
    cases b
    case rework n => exact once n .rework (h.of_kept (writeDisposition_kept n s))
    case goOn n =>
      obtain ⟨x, hx, hx0⟩ := hb
      exact once n .goOn (goOn_train h hx hx0)
    all_goals exact absurd (fun _ => ⟨nofun, nofun⟩) hd

theorem exec_trainSound {c : Instr} {s t : State} (hs : TrainSound s.btk) (h : exec c s = .next t) : TrainSound t.btk := by
  have ends (e : Effect) (he : Begins c s e) : TrainSound (runEffect e).btk := by
    obtain ⟨b, hb, rfl⟩ := he
    exact runEffect_trainSound b hb hs
  cases exec_outcomes h with
  | reset => exact ⟨Nat.zero_le _, Nat.zero_le _, Nat.zero_le _, rfl, trivial, fun _ hb => absurd hb List.not_mem_nil⟩
  | count _ hu =>
    rw [show t.btk = s.btk from hu.touches.same .btk (by decide)]
    exact hs
  | event e he => exact ends e he
  | reply e _ _ _ _ he => exact ends e he

/-- Settles O6: writes of other blocks keep the records, a new one takes the next number, and CONTINUE is set without a defect alone. -/
theorem trainStaysSound : Obligations.TrainStaysSound :=
  step_keeps (P := fun s => TrainSound s.btk) (Q := fun s => TrainSound s.btk) (fun _ h => h) (fun _ _ h => h)
    fun _ _ _ hs h => exec_trainSound hs h

/-! ## Reference counts (R60) -/

theorem namedBy_of_kept (p : SlotIx × BankId) : ∀ {l m : List Board}, List.Forall₂ RecordKept l m → namedBy m p = namedBy l p
  | _, _, .nil => rfl
  | _, _, .cons (a := b) (b := c) hb hs => by
    have ih := namedBy_of_kept p hs
    unfold namedBy at ih ⊢
    simp only [List.filter_cons, hb.bank]
    split
    · rw [List.length_cons, List.length_cons, ih]
    · exact ih

theorem namedBy_append (l : List Board) (b : Board) (p : SlotIx × BankId) :
    namedBy (l ++ [b]) p = namedBy l p + if b.bank = some p then 1 else 0 := by
  simp only [namedBy, List.filter_append, List.length_append, List.filter_cons, List.filter_nil, beq_iff_eq]
  split <;> rfl

theorem namedBy_cons (l : List Board) (b : Board) (p : SlotIx × BankId) :
    namedBy (b :: l) p = namedBy l p + if b.bank = some p then 1 else 0 := by
  simp only [namedBy, List.filter_cons, beq_iff_eq]
  split <;> rfl

theorem mapReferences_references (t : Tbs) (p : SlotIx × BankId) (f : Nat → Nat) (i : SlotIx) (bank : BankId) :
    (slotBank (mapReferences t p f).slots[i] bank).references
      = if p = (i, bank) then f (slotBank t.slots[i] bank).references else (slotBank t.slots[i] bank).references := by
  obtain ⟨j, other⟩ := p
  unfold mapReferences
  dsimp only
  by_cases hj : j = i
  · subst hj
    rw [vset_same]
    cases other <;> cases bank <;> simp [slotBank, setSlotBank]
  · rw [vset_other _ hj, if_neg fun h => hj (Prod.mk.inj h).1]

theorem countReference_references (t : Tbs) (b : Board) (f : Nat → Nat) (i : SlotIx) (bank : BankId) :
    (slotBank (countReference t b f).slots[i] bank).references
      = if b.bank = some (i, bank) then f (slotBank t.slots[i] bank).references else (slotBank t.slots[i] bank).references := by
  unfold countReference
  split
  · next p hp =>
    rw [mapReferences_references, hp]
    simp only [Option.some.injEq]
  · next hp => rw [hp, if_neg nofun]

theorem ReferencesAgree.of_kept {s t : State} (h : ReferencesAgree s) (k : TrainKept s t) (ht : t.tbs.slots = s.tbs.slots) : ReferencesAgree t := by
  intro i bank
  rw [ht, namedBy_of_kept _ k.1]
  exact h i bank

/-- The same records name the same banks, whatever else of BTK changed. -/
theorem ReferencesAgree.of_records {s t : State} (h : ReferencesAgree s) (k : List.Forall₂ RecordKept s.btk.train t.btk.train)
    (ht : t.tbs.slots = s.tbs.slots) : ReferencesAgree t := by
  intro i bank
  rw [ht, namedBy_of_kept _ k]
  exact h i bank

theorem entryLead_references (p : Word32) {s : State} (h : ReferencesAgree s) : ReferencesAgree (entryLead p s).1 := by
  unfold entryLead
  split
  · exact h
  · intro i bank
    dsimp only
    rw [countReference_references, namedBy_append, ← h i bank]
    split <;> rfl

theorem retire_references (lost : Bool) {s : State} (h : ReferencesAgree s) : ReferencesAgree (retire lost s).1 := by
  unfold retire
  split
  · exact h
  · next b rest hb =>
    intro i bank
    have hib := h i bank
    rw [hb, namedBy_cons] at hib
    dsimp only
    rw [pushReport_tbs, pushReport_btk, countReference_references, hib]
    split <;> rfl

theorem writeDisposition_references (n : BoardNo) (d : Disposition) {s : State} (h : ReferencesAgree s) : ReferencesAgree (writeDisposition n d s).1 := by
  unfold writeDisposition
  split
  · exact h
  · intro i bank
    rw [mapBoard_tbs, mapBoard_btk_train, h i bank]
    simp only [namedBy, List.filter_map, List.length_map]
    congr 2
    funext b
    simp only [Function.comp]
    split <;> rfl

theorem handle_references (t : Task) (s : State) (h : ReferencesAgree s) : ReferencesAgree (handle t s).1 := by
  by_cases hm : movesTrain t = false
  · by_cases ht : Block.tbs ∈ touched t
    · cases t
      case entryLead | retire => cases hm
      all_goals simp [touched] at ht
    · exact h.of_kept (handle_train t s hm) (congrArg Tbs.slots ((handle_touches t s).same .tbs ht))
  · cases t
    case admission => exact h
    case loopDown | encoderSilent => exact h.of_records (lossMarks_kept ..) rfl
    case encoder status =>
      refine h.of_records ?_ (congrArg Tbs.slots ((encoder_touches status s).same .tbs (by decide)))
      simp only [handle, encoder]
      split
      · split
        · exact lossMarks_kept ..
        · exact recordsKept_refl _
      · exact recordsKept_refl _
    case entryLead p => exact entryLead_references p h
    case retire lost => exact retire_references lost h
    case disposition n d => exact writeDisposition_references n d h
    all_goals exact absurd rfl hm

/-- A COMMIT writes fields and pointers, no reference count (R60). -/
theorem writtenTables_references (k : TableKind) (index : Nat) (staged m : FieldMap) (t : Tbs) (i : SlotIx) (bank : BankId) :
    (slotBank (writtenTables k index staged m t).slots[i] bank).references = (slotBank t.slots[i] bank).references := by
  cases k
  case recipe =>
    simp only [writtenTables]
    rw [writeRecipe_slots]
    split
    · generalize writeBank t index = w
      cases w <;> cases bank <;> rfl
    · rfl
  all_goals simp only [writtenTables]

theorem removedSlot_references (sl : Slot) (bank : BankId) : (slotBank (removedSlot sl) bank).references = (slotBank sl bank).references := by
  unfold removedSlot admitBank
  generalize sl.pointer = p
  cases bank <;> cases p <;> rfl

theorem beginning_references (b : Beginning) (s : State) (h : ReferencesAgree s) : ReferencesAgree (b.effect s).1 := by
  by_cases ht : Block.tbs ∈ b.touched ∨ Block.btk ∈ b.touched
  · cases b
    case noMotionTimer =>
      simp only [Beginning.effect, noMotionExpiry]
      split <;> exact h
    case commit r k index x =>
      intro i bank
      rw [Beginning.effect, commitTaken_tbs, writtenTables_references,
        show (commitTaken k index x s).state.btk = s.btk from (commitTaken_touches k index x s).same .btk (by decide)]
      exact h i bank
    case removeRecipe j =>
      intro i bank
      refine Eq.trans ?_ (h i bank)
      by_cases hj : j = i
      · subst hj
        simp only [Beginning.effect, vset_same, removedSlot_references]
      · simp only [Beginning.effect, vset_other _ hj]
    case restart =>
      intro i bank
      rw [Beginning.effect, restarted_tbs, restarted_btk]
      simp only [btkRestart, Fin.getElem_fin, Vector.getElem_map]
      cases bank <;> rfl
    all_goals simp [Beginning.touched] at ht
  · exact h.of_kept (.of_touches (b.effect_touches s) fun k => ht (.inr k))
      (congrArg Tbs.slots ((b.effect_touches s).same .tbs fun k => ht (.inl k)))

theorem referencesAgree_reset : ReferencesAgree State.reset := by
  intro i bank
  simp only [State.reset, Tbs.reset, Fin.getElem_fin, Vector.getElem_replicate]
  cases bank <;> rfl

/-- Settles O11: fields are put in their place, and a reference is counted with the record that names it. -/
theorem tablesStaySound : Obligations.TablesStaySound :=
  ⟨tablesStaySorted, step_keeps_block
    (fun _ _ ht h => h.of_kept (.of_touches ht (by decide)) (congrArg Tbs.slots (ht.same .tbs (by decide))))
    referencesAgree_reset (fun _ _ h => h) beginning_references handle_references fun _ h => h⟩

end Sys2Proof.Machine
end


section
/-! The cutoff groups (11): a cause exactly while ACTIVE, and ACTIVE while a linked alarm is. -/

namespace Sys2Proof.Machine

/-! ## Group records -/

theorem groupIx_inj {g h : Group} (k : groupIx g = groupIx h) : g = h := by
  cases g <;> cases h <;> first | rfl | exact absurd k (by decide)

theorem groupRecord_setGroup_same (s : State) (g : Group) (r : GroupRecord) : groupRecord (setGroup s g r) g = r := vset_same ..

theorem groupRecord_setGroup_other (s : State) {g h : Group} (r : GroupRecord) (k : g ≠ h) : groupRecord (setGroup s g r) h = groupRecord s h :=
  vset_other _ (fun e => k (groupIx_inj e)) _

theorem groupActive_iff (s : State) (g : Group) : groupActive s g = (groupRecord s g).active := rfl

theorem GroupsSound.of_eq {s t : State} (h : GroupsSound s) (k : t.acu.groups = s.acu.groups) : GroupsSound t := by
  intro g
  rw [groupRecord, k]
  exact h g

theorem GroupsSound.set {s : State} (h : GroupsSound s) (g : Group) {r : GroupRecord} (hc : r.active = true ↔ r.cause.isSome = true)
    (hm : r.manual = true → r.active = true) : GroupsSound (setGroup s g r) := by
  intro j
  by_cases hj : g = j
  · subst hj
    rw [groupRecord_setGroup_same]
    exact ⟨hc, hm⟩
  · rw [groupRecord_setGroup_other _ _ hj]
    exact h j

theorem activateGroup_active {g : Group} {x : Cause} {s : State} (h : (groupRecord s g).active = true) : activateGroup g x s = (s, []) := if_pos h

theorem activateGroup_inactive {g : Group} {x : Cause} {s : State} (h : (groupRecord s g).active = false) :
    (activateGroup g x s).1 = setGroup (captureHeld g s) g { groupRecord s g with active := true, cause := some x } := by
  unfold activateGroup
  dsimp only
  rw [if_neg (by rw [h]; exact nofun)]

theorem activateGroup_sound (g : Group) (x : Cause) {s : State} (h : GroupsSound s) : GroupsSound (activateGroup g x s).1 := by
  by_cases ha : (groupRecord s g).active = true
  · rw [activateGroup_active ha]
    exact h
  · rw [activateGroup_inactive (Bool.eq_false_iff.mpr ha)]
    exact (h.of_eq (congrArg Acu.groups (captureHeld_acu g s))).set g ⟨fun _ => rfl, fun _ => rfl⟩ fun _ => rfl

theorem deactivateGroup_sound (g : Group) {s : State} (h : GroupsSound s) : GroupsSound (deactivateGroup g s).1 := by
  unfold deactivateGroup
  split
  · exact h.set g ⟨nofun, nofun⟩ nofun
  · exact h

theorem restartAlarms_groups {s : State} (h : GroupsSound s) : GroupsSound (restartAlarms s).1 := by
  intro g
  simp only [restartAlarms, groupRecord, Fin.getElem_fin, Vector.getElem_map]
  exact ⟨(h g).1, nofun⟩

theorem takeCondition_groups (a : AlarmIx) (value evaluation : Bool) (s : State) : (takeCondition a value evaluation s).1.acu.groups = s.acu.groups := by
  unfold takeCondition
  dsimp only
  split <;> rfl

theorem takeEvent_groups (a : AlarmIx) (s : State) : (takeEvent a s).1.acu.groups = s.acu.groups := by
  unfold takeEvent
  dsimp only
  split <;> rfl

theorem acknowledged_groups (a : AlarmIx) (s : State) : (acknowledged a s).1.acu.groups = s.acu.groups := by
  unfold acknowledged
  dsimp only
  split <;> rfl

/-- Only the hand-overs that activate, deactivate or restart a group change a group record. -/
theorem handle_groups (t : Task) (s : State) (h : t.kind ≠ .activate) (k : t.kind ≠ .deactivate) (r : t.kind ≠ .restartAlarms) :
    (handle t s).1.acu.groups = s.acu.groups := by
  by_cases ht : Block.acu ∈ touched t
  · cases t
    case condition => exact takeCondition_groups ..
    case event => exact takeEvent_groups ..
    case activate => exact absurd rfl h
    case deactivate => exact absurd rfl k
    case restartAlarms => exact absurd rfl r
    case a41Btk | a41Hld => rfl
    all_goals simp [touched] at ht
  · exact congrArg Acu.groups ((handle_touches t s).same .acu ht)

theorem handle_groupsSound (t : Task) (s : State) (h : GroupsSound s) : GroupsSound (handle t s).1 := by
  by_cases hk : t.kind ≠ .activate ∧ t.kind ≠ .deactivate ∧ t.kind ≠ .restartAlarms
  · exact h.of_eq (handle_groups t s hk.1 hk.2.1 hk.2.2)
  · cases t
    case activate g x => exact activateGroup_sound g x h
    case deactivate g => exact deactivateGroup_sound g h
    case restartAlarms => exact restartAlarms_groups h
    all_goals exact absurd ⟨nofun, nofun, nofun⟩ hk

/-- FORCE_CUTOFF sets the manual flag and activates the group at once (R180). -/
theorem forceCutoff_groups (g : Group) (x : Cause) {s : State} (h : GroupsSound s) : GroupsSound (activateGroup g x (setManualFlag g s)).1 := by
  have hg : groupRecord (setManualFlag g s) g = { groupRecord s g with manual := true } := groupRecord_setGroup_same ..
  by_cases ha : (groupRecord s g).active = true
  · rw [activateGroup_active (by rw [hg]; exact ha)]
    exact h.set g (h g).1 fun _ => ha
  · rw [activateGroup_inactive (by rw [hg]; exact Bool.eq_false_iff.mpr ha), hg]
    intro j
    by_cases hj : g = j
    · subst hj
      rw [groupRecord_setGroup_same]
      exact ⟨⟨fun _ => rfl, fun _ => rfl⟩, fun _ => rfl⟩
    · rw [groupRecord_setGroup_other _ _ hj, groupRecord, captureHeld_acu]
      have ho : (setManualFlag g s).acu.groups[groupIx j] = groupRecord s j := groupRecord_setGroup_other s _ hj
      rw [ho]
      exact h j

theorem writeEntry_groups (k : TableKind) (index : Nat) (staged m : FieldMap) (s : State) :
    (writeEntry k index staged m s).1.acu.groups = s.acu.groups := by
  cases k <;> simp only [writeEntry, channelCommitted, clampDebt, limitSetpoints, applyEntry, setAlarm_acu_groups]

theorem commitTaken_groups (k : TableKind) (index : Nat) (b : StagingBuffer) (s : State) :
    (commitTaken k index b s).state.acu.groups = s.acu.groups :=
  writeEntry_groups k index b.fields (committedNext k index b s.tbs) (setStaging s k none)

/-- Every beginning but FORCE_CUTOFF leaves the group records. -/
theorem beginning_groups (b : Beginning) (s : State) (hb : ∀ g x, b ≠ .forceCutoff g x) : (b.effect s).1.acu.groups = s.acu.groups := by
  by_cases ht : Block.acu ∈ b.touched
  · cases b
    case commit => exact commitTaken_groups ..
    case ackLatched r a => exact acknowledged_groups a s
    case forceCutoff g x => exact absurd rfl (hb g x)
    all_goals simp [Beginning.touched] at ht
  · exact congrArg Acu.groups ((b.effect_touches s).same .acu ht)

theorem settle_groupsSound (n : Nat) (ts : List Task) (s : State) (h : GroupsSound s) : GroupsSound (settle n ts s) :=
  settle_keeps (Q := fun _ => True) (fun t s _ hs => handle_groupsSound t s hs) (fun _ _ _ _ _ _ => trivial) (fun _ hs => hs) n ts s
    (fun _ _ => trivial) h

theorem runEffect_groupsSound (b : Beginning) {s : State} (h : GroupsSound s) : GroupsSound (runEffect (b.effect s)) := by
  by_cases hb : ∀ g x, b ≠ .forceCutoff g x
  · exact settle_groupsSound _ _ _ (h.of_eq (beginning_groups b s hb))
  · cases b
    case forceCutoff g x =>
      show GroupsSound (run (setManualFlag g s) [.activate g x])
      rw [run_cons]
      exact settle_groupsSound _ _ _ (forceCutoff_groups g x h)
    all_goals exact absurd (fun _ _ => nofun) hb

theorem exec_groupsSound {c : Instr} {s t : State} (hs : GroupsSound s) (h : exec c s = .next t) : GroupsSound t := by
  have ends (e : Effect) (he : Begins c s e) : GroupsSound (runEffect e) := by
    obtain ⟨b, -, rfl⟩ := he
    exact runEffect_groupsSound b hs
  cases exec_outcomes h with
  | reset =>
    intro g
    simp only [State.reset, Acu.reset, groupRecord, Fin.getElem_fin, Vector.getElem_replicate]
    exact ⟨⟨nofun, nofun⟩, nofun⟩
  | count _ hu => exact hs.of_eq (congrArg Acu.groups (hu.touches.same .acu (by decide)))
  | event e he => exact ends e he
  | reply e _ _ _ _ he => exact ends e he

/-! ## Linked groups (R174, R179, R182) -/

/-- A group linked to a set alarm is ACTIVE, or its activation waits. -/
def LinksServed (ts : List Task) (s : State) : Prop :=
  ∀ (a : AlarmIx) (g : Group), groupLink (s.tbs.alarms[a]).links g = true → alarmSet s a = true →
    groupActive s g = true ∨ ∃ x, Task.activate g x ∈ ts

/-- No deactivation waits, or one is next, of a group without a linked alarm. -/
def DeactivationNext (ts : List Task) (s : State) : Prop :=
  (∀ t ∈ ts, t.kind ≠ .deactivate)
  ∨ ∃ g rest, ts = Task.deactivate g :: rest ∧ (∀ t ∈ rest, t.kind ≠ .deactivate) ∧ linkedAlarmPresent s g = false

theorem alarmSet_of_eq {s t : State} (h : t.acu.alarms = s.acu.alarms) (a : AlarmIx) : alarmSet t a = alarmSet s a := by
  rw [alarmSet, h]
  rfl

theorem groupActive_of_eq {s t : State} (h : t.acu.groups = s.acu.groups) (g : Group) : groupActive t g = groupActive s g := by
  rw [groupActive, h]
  rfl

/-- A linked alarm that is set keeps its group from being free. -/
theorem linkedAlarmPresent_of_set {s : State} {a : AlarmIx} {g : Group} (hl : groupLink (s.tbs.alarms[a]).links g = true) (hs : alarmSet s a = true) :
    linkedAlarmPresent s g = true := by
  refine List.any_eq_true.mpr ⟨a, List.mem_finRange a, ?_⟩
  rw [hl]
  rcases (alarmSet_iff s a).mp hs with h | h <;> rw [h] <;> rfl

/-- Links served stay served where no alarm becomes set and no group inactive. -/
theorem LinksServed.weaken {ts us : List Task} {s t : State} (h : LinksServed ts s) (hlinks : t.tbs.alarms = s.tbs.alarms)
    (hset : ∀ a, alarmSet t a = true → alarmSet s a = true) (hactive : ∀ g, groupActive s g = true → groupActive t g = true)
    (hwait : ∀ g x, Task.activate g x ∈ ts → groupActive t g = true ∨ Task.activate g x ∈ us) : LinksServed us t := by
  intro a g hl hs
  rw [hlinks] at hl
  rcases h a g hl (hset a hs) with hg | ⟨x, hx⟩
  · exact .inl (hactive g hg)
  · exact (hwait g x hx).imp id fun hu => ⟨x, hu⟩

theorem activate_mem_raiseTasks {links : BitVec 8} {g : Group} (h : groupLink links g = true) (a : AlarmIx) (x : AlarmState) :
    Task.activate g (.alarm a) ∈ raiseTasks links a x := by
  have hg : g ∈ allGroups.filter (groupLink links) := List.mem_filter.mpr ⟨by cases g <;> decide, h⟩
  unfold raiseTasks
  simp only [List.mem_append, List.mem_map]
  exact .inl (.inl (.inr ⟨g, hg, rfl⟩))

theorem activate_mem_changeTasks {links : BitVec 8} {g : Group} (h : groupLink links g = true) (a : AlarmIx) {x : AlarmState} (hx : x ≠ .active) :
    Task.activate g (.alarm a) ∈ changeTasks links a x .active := by
  rw [changeTasks, if_neg (Ne.symm hx), if_pos rfl]
  exact activate_mem_raiseTasks h a x

/-- A condition takes an alarm out of CLEAR and PENDING to ACTIVE alone (R171). -/
theorem levelNext_becomes_set {e : AlarmEntry} {x : AlarmState} {count : Nat} {value evaluation : Bool}
    (h : (levelNext e x count value evaluation).1 = .active ∨ (levelNext e x count value evaluation).1 = .latched) :
    x = .active ∨ x = .latched ∨ (levelNext e x count value evaluation).1 = .active := by
  cases x
  case active => exact .inl rfl
  case latched => exact .inr (.inl rfl)
  all_goals
    refine .inr (.inr (h.resolve_right ?_))
    cases value <;> simp only [levelNext] <;> (repeat' split) <;> exact nofun

theorem alarmSet_setAlarm_same (s : State) (a : AlarmIx) (r : AlarmRecord) : alarmSet (setAlarm s a r) a = true ↔ r.state = .active ∨ r.state = .latched := by
  rw [alarmSet_iff, setAlarm_acu_alarms, vset_same]

theorem alarmSet_setAlarm_other (s : State) {a b : AlarmIx} (r : AlarmRecord) (h : a ≠ b) : alarmSet (setAlarm s a r) b = alarmSet s b := by
  rw [alarmSet, setAlarm_acu_alarms, vset_other _ h]
  rfl

/-- A change of one alarm record serves the links if it hands over the activations of an alarm that becomes set. -/
theorem LinksServed.setAlarm {ts us : List Task} {s : State} (h : LinksServed ts s) (a : AlarmIx) (r : AlarmRecord)
    (hr : r.state = .active ∨ r.state = .latched → alarmSet s a = true
      ∨ ∀ g, groupLink (s.tbs.alarms[a]).links g = true → ∃ x, Task.activate g x ∈ us) :
    LinksServed (us ++ ts) (setAlarm s a r) := by
  intro b g hl hs
  have old (k : alarmSet s b = true) : groupActive s g = true ∨ ∃ x, Task.activate g x ∈ us ++ ts :=
    (h b g hl k).imp id fun ⟨x, hx⟩ => ⟨x, List.mem_append_right _ hx⟩
  by_cases hb : a = b
  · subst hb
    rcases hr ((alarmSet_setAlarm_same ..).mp hs) with k | k
    · exact old k
    · obtain ⟨x, hx⟩ := k g hl
      exact .inr ⟨x, List.mem_append_left _ hx⟩
  · exact old ((alarmSet_setAlarm_other s r hb).symm.trans hs)

theorem takeCondition_links (a : AlarmIx) (value evaluation : Bool) {ts : List Task} {s : State} (h : LinksServed ts s) :
    LinksServed ((takeCondition a value evaluation s).2 ++ ts) (takeCondition a value evaluation s).1 := by
  unfold takeCondition
  dsimp only
  split
  · exact h
  · refine h.setAlarm a _ fun hr => ?_
    have hr' : (levelNext s.tbs.alarms[a] (s.acu.alarms[a]).state (s.acu.alarms[a]).count value evaluation).1 = .active
        ∨ (levelNext s.tbs.alarms[a] (s.acu.alarms[a]).state (s.acu.alarms[a]).count value evaluation).1 = .latched := by
      split at hr <;> exact hr
    by_cases hs : alarmSet s a = true
    · exact .inl hs
    · have hns := (not_congr (alarmSet_iff s a)).mp hs
      obtain ⟨hna, hnl⟩ := not_or.mp hns
      have hactive := ((levelNext_becomes_set hr').resolve_left hna).resolve_left hnl
      refine .inr fun g hg => ⟨.alarm a, ?_⟩
      have hm := activate_mem_changeTasks hg a hna
      rw [← hactive] at hm
      exact hm

theorem takeEvent_links (a : AlarmIx) {ts : List Task} {s : State} (h : LinksServed ts s) :
    LinksServed ((takeEvent a s).2 ++ ts) (takeEvent a s).1 := by
  unfold takeEvent
  dsimp only
  split
  · exact h
  · exact h.setAlarm a _ fun _ => .inr fun g hg => ⟨.alarm a, activate_mem_raiseTasks hg a _⟩

theorem restartAlarms_set {s : State} {a : AlarmIx} (h : alarmSet (restartAlarms s).1 a = true) : alarmSet s a = true := by
  rw [alarmSet_iff] at h ⊢
  simp only [restartAlarms, Fin.getElem_fin, Vector.getElem_ofFn] at h
  split at h
  · rcases h with h | h <;> cases h
  · exact h

theorem restartAlarms_active (s : State) (g : Group) : groupActive (restartAlarms s).1 g = groupActive s g := by
  simp only [restartAlarms, groupActive, Fin.getElem_fin, Vector.getElem_map]

theorem activateGroup_groupActive (g : Group) (x : Cause) (s : State) : groupActive (activateGroup g x s).1 g = true := by
  by_cases ha : (groupRecord s g).active = true
  · rw [activateGroup_active ha]
    exact ha
  · rw [activateGroup_inactive (Bool.eq_false_iff.mpr ha), groupActive_iff, groupRecord_setGroup_same]

theorem activateGroup_keeps_active (g : Group) (x : Cause) {s : State} {j : Group} (h : groupActive s j = true) :
    groupActive (activateGroup g x s).1 j = true := by
  by_cases hj : g = j
  · subst hj
    exact activateGroup_groupActive ..
  · by_cases ha : (groupRecord s g).active = true
    · rw [activateGroup_active ha]
      exact h
    · rw [activateGroup_inactive (Bool.eq_false_iff.mpr ha), groupActive_iff, groupRecord_setGroup_other _ _ hj, groupRecord, captureHeld_acu]
      exact h

theorem deactivateGroup_keeps_active {g j : Group} (hj : g ≠ j) (s : State) : groupActive (deactivateGroup g s).1 j = groupActive s j := by
  unfold deactivateGroup
  split
  · rw [groupActive_iff, groupRecord_setGroup_other _ _ hj]
    rfl
  · rfl

theorem activate_links (g : Group) (x : Cause) {ts : List Task} {s : State} (h : LinksServed (.activate g x :: ts) s) :
    LinksServed ((activateGroup g x s).2 ++ ts) (activateGroup g x s).1 := by
  refine h.weaken (handle_alarms (.activate g x) s) (fun a ha => (alarmSet_of_eq (activateGroup_alarms g x s) a) ▸ ha)
    (fun j => activateGroup_keeps_active g x) fun j y hy => ?_
  rcases List.mem_cons.mp hy with heq | hy
  · cases heq
    exact .inl (activateGroup_groupActive ..)
  · exact .inr (List.mem_append_right _ hy)

/-- A group without a linked alarm is deactivated without harm (R181, R182, R184). -/
theorem deactivate_links (g : Group) {ts : List Task} {s : State} (h : LinksServed (.deactivate g :: ts) s)
    (hfree : linkedAlarmPresent s g = false) : LinksServed ((deactivateGroup g s).2 ++ ts) (deactivateGroup g s).1 := by
  intro a j hl hs
  rw [alarmSet_of_eq (deactivateGroup_alarms g s)] at hs
  have hl' : groupLink (s.tbs.alarms[a]).links j = true := by
    rw [← (show (deactivateGroup g s).1.tbs.alarms = s.tbs.alarms from handle_alarms (.deactivate g) s)]
    exact hl
  have hj : g ≠ j := by
    rintro rfl
    exact absurd (linkedAlarmPresent_of_set hl' hs) (by rw [hfree]; exact nofun)
  rw [deactivateGroup_keeps_active hj]
  refine (h a j hl' hs).imp id fun ⟨x, hx⟩ => ⟨x, List.mem_append_right _ ?_⟩
  exact (List.mem_cons.mp hx).resolve_left nofun

/-- Only the restart of a group hands over a deactivation, and of a group without a linked alarm (R184). -/
theorem handle_deactivate {t : Task} {s : State} (h : t.kind ≠ .restartGroup) : ∀ u ∈ (handle t s).2, u.kind ≠ .deactivate := by
  intro u hu hk
  have hm := among_iff.mp (handle_emits t s) u hu
  rw [hk] at hm
  revert hm
  cases t
  case restartGroup => exact absurd rfl h
  all_goals simp [emitted, Task.kind]

theorem linksServed_next (t : Task) (ts : List Task) (s : State) (h : LinksServed (t :: ts) s) (hd : DeactivationNext (t :: ts) s) :
    LinksServed ((handle t s).2 ++ ts) (handle t s).1 := by
  have rest (hne : ∀ g x, t ≠ .activate g x) : LinksServed ts s := by
    intro a g hl hs
    refine (h a g hl hs).imp id fun ⟨x, hx⟩ => ⟨x, (List.mem_cons.mp hx).resolve_left fun k => hne g x k.symm⟩
  have still (hne : ∀ g x, t ≠ .activate g x) (hset : ∀ a, alarmSet (handle t s).1 a = true → alarmSet s a = true)
      (hactive : ∀ g, groupActive s g = true → groupActive (handle t s).1 g = true) : LinksServed ((handle t s).2 ++ ts) (handle t s).1 :=
    (rest hne).weaken (handle_alarms t s) hset hactive fun _ _ hx => .inr (List.mem_append_right _ hx)
  by_cases ht : Block.acu ∈ touched t
  · cases t
    case condition a value evaluation => exact takeCondition_links a value evaluation (rest nofun)
    case event a => exact takeEvent_links a (rest nofun)
    case activate g x => exact activate_links g x h
    case deactivate g =>
      refine deactivate_links g h ?_
      rcases hd with hno | ⟨j, r, heq, -, hfree⟩
      · exact absurd rfl (hno _ (List.mem_cons_self ..))
      · cases heq
        exact hfree
    case restartAlarms => exact still nofun (fun _ => restartAlarms_set) fun g hg => (restartAlarms_active s g).trans hg
    case a41Btk | a41Hld => exact still nofun (fun _ ha => ha) fun _ hg => hg
    all_goals simp [touched] at ht
  · have hacu : (handle t s).1.acu = s.acu := (handle_touches t s).same .acu ht
    exact still (by rintro g x rfl; exact ht (by simp [touched])) (fun a ha => (alarmSet_of_eq (congrArg Acu.alarms hacu) a) ▸ ha)
      fun g hg => (groupActive_of_eq (congrArg Acu.groups hacu) g).trans hg

theorem deactivationNext_next (t : Task) (ts : List Task) (s : State) (h : DeactivationNext (t :: ts) s) :
    DeactivationNext ((handle t s).2 ++ ts) (handle t s).1 := by
  have hts : ∀ u ∈ ts, u.kind ≠ .deactivate := by
    rcases h with hno | ⟨g, rest, heq, hrest, -⟩
    · exact fun u hu => hno u (List.mem_cons_of_mem _ hu)
    · cases heq
      exact hrest
  by_cases ht : t.kind = .restartGroup
  · cases t
    case restartGroup g =>
      by_cases hg : (groupActive s g && !linkedAlarmPresent s g) = true
      · refine .inr ⟨g, ts, ?_, hts, ?_⟩
        · simp [handle, restartGroup, hg]
        · exact Bool.not_eq_true' _ ▸ (Bool.and_eq_true_iff.mp hg).2
      · refine .inl ?_
        simp only [handle, restartGroup, hg]
        exact hts
    all_goals cases ht
  · exact .inl fun u hu => (List.mem_append.mp hu).elim (handle_deactivate ht u) (hts u)

theorem runEffect_links {e : Effect} (h : LinksServed e.2 e.1) (hd : DeactivationNext e.2 e.1) :
    (runEffect e).overrun = true ∨ LinkedGroupsActive (runEffect e) :=
  settle_holds (I := fun ts s => LinksServed ts s ∧ DeactivationNext ts s) (P := fun s => s.overrun = true ∨ LinkedGroupsActive s)
    (fun t ts s hs => ⟨linksServed_next t ts s hs.1 hs.2, deactivationNext_next t ts s hs.2⟩)
    (fun _ hs => .inr fun a g hl ha => (hs.1 a g hl ha).resolve_right (by simp)) (fun _ _ _ => .inl rfl) _ e.2 e.1 ⟨h, hd⟩

/-! ### The beginnings -/

theorem linksServed_of {s : State} (h : LinkedGroupsActive s) (ts : List Task) : LinksServed ts s := fun a g hl hs => .inl (h a g hl hs)

theorem LinkedGroupsActive.of_eq {s t : State} (h : LinkedGroupsActive s) (hl : t.tbs.alarms = s.tbs.alarms)
    (ha : ∀ a, alarmSet t a = true → alarmSet s a = true) (hg : ∀ g, groupActive s g = true → groupActive t g = true) : LinkedGroupsActive t := by
  intro a g hlink hset
  rw [hl] at hlink
  exact hg g (h a g hlink (ha a hset))

theorem maskedState_set {cls : AlarmClass} {x : AlarmState} (h : maskedState cls x = .active ∨ maskedState cls x = .latched) :
    x = .active ∨ x = .latched := by
  cases x
  case active => exact .inl rfl
  case latched => exact .inr rfl
  all_goals simp [maskedState] at h

/-- A commit of an ALARM entry activates the groups whose links it adds to a set alarm (R178). -/
theorem applyEntry_links (a : AlarmIx) (new : AlarmEntry) {s : State} (h : LinkedGroupsActive s) (after : List Task) :
    LinksServed ((applyEntry a new s).2 ++ after) (applyEntry a new s).1 := by
  intro b g hl hs
  have hgroups : groupActive (applyEntry a new s).1 g = groupActive s g := groupActive_of_eq (by simp only [applyEntry, setAlarm_acu_groups]) g
  have halarms : (applyEntry a new s).1.tbs.alarms = vset s.tbs.alarms a new := rfl
  rw [hgroups]
  rw [halarms] at hl
  by_cases hb : a = b
  · subst hb
    rw [vset_same] at hl
    unfold applyEntry at hs ⊢
    dsimp only at hs ⊢
    have hnext := (alarmSet_setAlarm_same ..).mp hs
    dsimp only at hnext
    have hold : alarmSet s a = true := by
      rw [alarmSet_iff]
      split at hnext
      · exact maskedState_set hnext
      · exact hnext
    by_cases hlink : groupLink (s.tbs.alarms[a]).links g = true
    · exact .inl (h a g hlink hold)
    · refine .inr ⟨.alarm a, List.mem_append_left _ (List.mem_append_left _ (List.mem_append_right _ ?_))⟩
      rw [if_pos (by rcases hnext with k | k <;> rw [k] <;> rfl)]
      refine List.mem_map.mpr ⟨g, List.mem_filter.mpr ⟨by cases g <;> decide, ?_⟩, rfl⟩
      rw [hl, Bool.eq_false_iff.mpr hlink]
      rfl
  · rw [vset_other _ hb] at hl
    refine .inl (h b g hl ?_)
    exact (alarmSet_setAlarm_other { s with tbs := { s.tbs with alarms := vset s.tbs.alarms a new } } _ hb).symm.trans hs

theorem writeEntry_links (k : TableKind) (index : Nat) (staged m : FieldMap) {s : State} (h : LinkedGroupsActive s) (after : List Task) :
    LinksServed ((writeEntry k index staged m s).2 ++ after) (writeEntry k index staged m s).1 := by
  by_cases hk : k = .alarm
  · subst hk
    exact applyEntry_links _ _ h after
  · have hacu : (writeEntry k index staged m s).1.acu = s.acu := by
      cases k
      case alarm => exact absurd rfl hk
      all_goals simp only [writeEntry, channelCommitted, clampDebt, limitSetpoints]
    refine linksServed_of (h.of_eq ?_ (fun a ha => (alarmSet_of_eq (congrArg Acu.alarms hacu) a) ▸ ha)
      fun g hg => (groupActive_of_eq (congrArg Acu.groups hacu) g).trans hg) _
    rw [writeEntry_tbs]
    cases k
    case alarm => exact absurd rfl hk
    all_goals simp only [writtenTables, writeRecipe]

theorem acknowledged_set {a b : AlarmIx} {s : State} (h : alarmSet (acknowledged a s).1 b = true) : alarmSet s b = true := by
  unfold acknowledged at h
  dsimp only at h
  split at h
  · by_cases hb : a = b
    · subst hb
      rcases (alarmSet_setAlarm_same ..).mp h with k | k <;> cases k
    · exact (alarmSet_setAlarm_other s _ hb).symm.trans h
  · exact h

theorem setManualFlag_active (g : Group) (s : State) (j : Group) : groupActive (setManualFlag g s) j = groupActive s j := by
  by_cases hj : g = j
  · subst hj
    rw [groupActive_iff, setManualFlag, groupRecord_setGroup_same]
    rfl
  · rw [groupActive_iff, setManualFlag, groupRecord_setGroup_other _ _ hj]
    rfl

theorem beginning_links (b : Beginning) {s : State} (h : LinkedGroupsActive s) : LinksServed (b.effect s).2 (b.effect s).1 := by
  by_cases ht : Block.acu ∈ b.touched ∨ Block.tbs ∈ b.touched
  · cases b
    case commit r k index x =>
      exact writeEntry_links k index x.fields (committedNext k index x s.tbs) (s := setStaging s k none) h [.configuredTest]
    case removeRecipe => exact linksServed_of h _
    case restart =>
      have hacu : (restarted s).acu = s.acu := (restarted_touches s).same .acu (by decide)
      exact linksServed_of (h.of_eq (t := restarted s) (by rw [restarted_tbs]; rfl) (fun a ha => (alarmSet_of_eq (congrArg Acu.alarms hacu) a) ▸ ha)
        fun g hg => (groupActive_of_eq (congrArg Acu.groups hacu) g).trans hg) _
    case ackLatched r a =>
      exact linksServed_of (h.of_eq (congrArg Tbs.alarms ((acknowledged_touches a s).same .tbs (by decide))) (fun _ => acknowledged_set)
        fun g hg => (groupActive_of_eq (acknowledged_groups a s) g).trans hg) _
    case forceCutoff g x => exact linksServed_of (h.of_eq (t := setManualFlag g s) rfl (fun _ ha => ha) fun j hj => (setManualFlag_active g s j).trans hj) _
    all_goals simp [Beginning.touched] at ht
  · have hacu : (b.effect s).1.acu = s.acu := (b.effect_touches s).same .acu fun k => ht (.inl k)
    exact linksServed_of (h.of_eq (congrArg Tbs.alarms ((b.effect_touches s).same .tbs fun k => ht (.inr k)))
      (fun a ha => (alarmSet_of_eq (congrArg Acu.alarms hacu) a) ▸ ha) fun g hg => (groupActive_of_eq (congrArg Acu.groups hacu) g).trans hg) _

/-- Only CLEAR_CUTOFF begins with a deactivation, of a group without a linked alarm (R181). -/
theorem beginning_deactivation {c : Instr} {s : State} (b : Beginning) (hb : b.Allowed c s) : DeactivationNext (b.effect s).2 (b.effect s).1 := by
  by_cases hk : ∃ g, b = .clearCutoff g
  · obtain ⟨g, rfl⟩ := hk
    exact .inr ⟨g, [], rfl, by simp, hb⟩
  · refine .inl fun t ht hd => ?_
    have hm := among_iff.mp (b.effect_among s) t ht
    rw [hd] at hm
    revert hm
    cases b
    case clearCutoff g => exact absurd ⟨g, rfl⟩ hk
    all_goals simp [Beginning.first, silentKinds]

theorem exec_links {c : Instr} {s t : State} (hs : LinkedGroupsActive s) (h : exec c s = .next t) : t.overrun = true ∨ LinkedGroupsActive t := by
  have ends (e : Effect) (he : Begins c s e) : (runEffect e).overrun = true ∨ LinkedGroupsActive (runEffect e) := by
    obtain ⟨b, hb, rfl⟩ := he
    exact runEffect_links (beginning_links b hs) (beginning_deactivation b hb)
  cases exec_outcomes h with
  | reset =>
    refine .inr fun a g _ ha => ?_
    rw [alarmSet_iff] at ha
    simp only [State.reset, Acu.reset, Fin.getElem_fin, Vector.getElem_replicate] at ha
    rcases ha with ha | ha <;> cases ha
  | count _ hu =>
    have hacu := hu.touches.same .acu (by decide)
    exact .inr (hs.of_eq (congrArg Tbs.alarms (hu.touches.same .tbs (by decide))) (fun a ha => (alarmSet_of_eq (congrArg Acu.alarms hacu) a) ▸ ha)
      fun g hg => (groupActive_of_eq (congrArg Acu.groups hacu) g).trans hg)
  | event e he => exact ends e he
  | reply e _ _ _ _ he => exact ends e he

/-- Settles O8: a raise hands over the activation of every linked group, and only a group without linked alarms is deactivated. -/
theorem groupsStaySound : Obligations.GroupsStaySound :=
  ⟨step_keeps (P := GroupsSound) (Q := GroupsSound) (fun _ h => h) (fun _ _ h => h) fun _ _ _ hs h => exec_groupsSound hs h,
   step_keeps (P := LinkedGroupsActive) (Q := fun s => s.overrun = true ∨ LinkedGroupsActive s) (fun _ h => .inr h) (fun _ _ h => h)
     fun _ _ _ hs h => exec_links hs h⟩

end Sys2Proof.Machine
end


section
/-! The gate (05 5.3): OPEN only in RUN with hold phase NONE and room in the train. -/

namespace Sys2Proof.Machine

/-! ## Who moves the gate, the line state, the phase and the train -/

theorem handle_gateOpen (t : Task) (s : State) (h : t.kind ≠ .admission) : (handle t s).1.btk.gateOpen = s.btk.gateOpen := by
  by_cases hm : movesTrain t = false
  · rw [(handle_train t s hm).2]
  · cases t
    case loopDown | encoderSilent => rfl
    case encoder status =>
      simp only [handle, encoder]
      (repeat' split) <;> rfl
    case entryLead p =>
      simp only [handle, entryLead]
      split <;> rfl
    case retire lost =>
      simp only [handle, retire]
      split
      · rfl
      · rw [pushReport_btk]
    case disposition n d =>
      simp only [handle, writeDisposition]
      split <;> rfl
    case admission => exact absurd rfl h
    all_goals exact absurd rfl hm

/-- No hand-over but a new record makes the train longer. -/
theorem handle_train_length (t : Task) (s : State) (h : t.kind ≠ .entryLead) : (handle t s).1.btk.train.length ≤ s.btk.train.length := by
  by_cases hm : movesTrain t = false
  · exact (handle_train t s hm).1.length_eq.ge
  · cases t
    case admission => exact Nat.le_refl _
    case loopDown | encoderSilent => exact (List.length_map ..).le
    case encoder status =>
      simp only [handle, encoder]
      (repeat' split)
      · exact (List.length_map ..).le
      all_goals exact Nat.le_refl _
    case retire lost =>
      simp only [handle, retire]
      split
      · exact Nat.le_refl _
      · next b rest hb =>
        rw [pushReport_btk, hb]
        exact Nat.le_succ _
    case disposition n d =>
      simp only [handle, writeDisposition]
      split
      · exact Nat.le_refl _
      · exact (List.length_map ..).le
    case entryLead => exact absurd rfl h
    all_goals exact absurd rfl hm

/-- A hand-over that moves the line state tells of it. -/
theorem handle_line_told (t : Task) (s : State) : (handle t s).1.mru.line = s.mru.line ∨ ∃ u ∈ (handle t s).2, u.kind = .lineTold := by
  by_cases ht : Block.mru ∈ touched t
  · cases t
    case retire lost => exact .inl (retire_mru_line lost s)
    case drainingTest =>
      simp only [handle, drainingTest]
      split
      · exact .inr ⟨_, List.mem_singleton_self _, rfl⟩
      · exact .inl rfl
    case configuredTest =>
      simp only [handle, configuredTest]
      split
      · exact .inr ⟨_, List.mem_singleton_self _, rfl⟩
      · exact .inl rfl
    all_goals simp [touched] at ht
  · exact .inl (congrArg Mru.line ((handle_touches t s).same .mru ht))

/-- A hand-over that moves the hold phase tells of it (R195). -/
theorem handle_phase_told (t : Task) (s : State) : (handle t s).1.hld.phase = s.hld.phase ∨ ∃ u ∈ (handle t s).2, u.kind = .phaseTold := by
  have told (l : List Task) : ∃ u ∈ l ++ [Task.phaseTold], u.kind = .phaseTold :=
    ⟨.phaseTold, List.mem_append_right _ (List.mem_singleton_self _), rfl⟩
  by_cases ht : Block.hld ∈ touched t
  · cases t
    case loopDown | encoderSilent => exact .inl rfl
    case holdCause c =>
      simp only [handle, holdCause]
      (repeat' split)
      · exact .inr (told _)
      · exact .inr (told _)
      all_goals exact .inl rfl
    case hldEncoder =>
      simp only [handle, hldEncoder]
      split
      · exact .inl rfl
      · split
        · exact .inr (told _)
        · exact .inl rfl
      all_goals exact .inl rfl
    case reachHeld => exact .inr ⟨.phaseTold, List.mem_append_right _ (List.mem_cons_of_mem _ (List.mem_singleton_self _)), rfl⟩
    case heldBoards => exact .inl rfl
    case holdLine n =>
      simp only [handle, holdLine]
      split <;> exact .inl rfl
    all_goals simp [touched] at ht
  · exact .inl (congrArg Hld.phase ((handle_touches t s).same .hld ht))

/-! ## The gate -/

/-- An evaluation of admission waits, or a notice that makes one. -/
def AdmissionWaits (ts : List Task) : Prop := ∃ t ∈ ts, t.kind = .admission ∨ t.kind = .lineTold ∨ t.kind = .phaseTold

theorem AdmissionWaits.append_left {ts : List Task} (h : AdmissionWaits ts) (us : List Task) : AdmissionWaits (ts ++ us) := by
  obtain ⟨t, ht, hk⟩ := h
  exact ⟨t, List.mem_append_left _ ht, hk⟩

theorem AdmissionWaits.append_right {ts : List Task} (h : AdmissionWaits ts) (us : List Task) : AdmissionWaits (us ++ ts) := by
  obtain ⟨t, ht, hk⟩ := h
  exact ⟨t, List.mem_append_right _ ht, hk⟩

theorem gateSafe_admission (s : State) : GateSafe (admission s).1 := by
  intro h
  have ho : admissionOpen s = true := h
  simp only [admissionOpen, Bool.and_eq_true, beq_iff_eq, decide_eq_true_eq] at ho
  obtain ⟨⟨⟨⟨⟨⟨hline, hphase⟩, -⟩, hroom⟩, -⟩, -⟩, -⟩ := ho
  exact ⟨hline, hphase, hroom⟩

/-- A GateSafe state stays so where nothing of the gate's conditions moves. -/
theorem GateSafe.of_le {s t : State} (h : GateSafe s) (hg : t.btk.gateOpen = s.btk.gateOpen) (hl : t.mru.line = s.mru.line)
    (hp : t.hld.phase = s.hld.phase) (hlen : t.btk.train.length ≤ s.btk.train.length) : GateSafe t := by
  intro ho
  obtain ⟨h1, h2, h3⟩ := h (hg.symm.trans ho)
  exact ⟨hl.trans h1, hp.trans h2, Nat.lt_of_le_of_lt hlen h3⟩

/-- A hand-over keeps the gate safe, or admission waits after it. -/
theorem handle_gate (t : Task) (s : State) (h : GateSafe s) : GateSafe (handle t s).1 ∨ AdmissionWaits (handle t s).2 := by
  by_cases ha : t.kind = .admission
  · cases t
    case admission => exact .inl (gateSafe_admission s)
    all_goals cases ha
  by_cases he : t.kind = .entryLead
  · cases t
    case entryLead p =>
      refine .inr ⟨.admission, ?_, .inl rfl⟩
      simp only [handle, entryLead]
      split <;> simp
    all_goals cases he
  rcases handle_line_told t s with hl | ⟨u, hu, hk⟩
  · rcases handle_phase_told t s with hp | ⟨u, hu, hk⟩
    · exact .inl (h.of_le (handle_gateOpen t s ha) hl hp (handle_train_length t s he))
    · exact .inr ⟨u, hu, .inr (.inr hk)⟩
  · exact .inr ⟨u, hu, .inr (.inl hk)⟩

theorem gate_next (t : Task) (ts : List Task) (s : State) (h : GateSafe s ∨ AdmissionWaits (t :: ts)) :
    GateSafe (handle t s).1 ∨ AdmissionWaits ((handle t s).2 ++ ts) := by
  rcases h with h | ⟨u, hu, hk⟩
  · exact (handle_gate t s h).imp id fun k => k.append_left _
  · rcases List.mem_cons.mp hu with rfl | hu
    · cases u
      case admission => exact .inl (gateSafe_admission s)
      case lineTold => exact .inr ⟨.admission, by simp [handle, lineTold], .inl rfl⟩
      case phaseTold => exact .inr ⟨.admission, by simp [handle, phaseTold], .inl rfl⟩
      all_goals simp [Task.kind] at hk
    · exact .inr (AdmissionWaits.append_right ⟨u, hu, hk⟩ _)

theorem runEffect_gate {e : Effect} (h : GateSafe e.1 ∨ AdmissionWaits e.2) : (runEffect e).overrun = true ∨ GateSafe (runEffect e) :=
  settle_holds (I := fun ts s => GateSafe s ∨ AdmissionWaits ts) (P := fun s => s.overrun = true ∨ GateSafe s)
    gate_next (fun _ hs => .inr (hs.resolve_right fun ⟨_, hm, _⟩ => absurd hm List.not_mem_nil)) (fun _ _ _ => .inl rfl) _ e.2 e.1 h

theorem beginning_gate (b : Beginning) (s : State) (h : GateSafe s) : GateSafe (b.effect s).1 ∨ AdmissionWaits (b.effect s).2 := by
  have told (old : LineState) (us : List Task) : AdmissionWaits (.lineTold old :: us) := ⟨_, List.mem_cons_self .., .inr (.inl rfl)⟩
  by_cases ht : Block.mru ∈ b.touched ∨ Block.hld ∈ b.touched ∨ Block.btk ∈ b.touched
  · cases b
    case start | stop | enterMaintenance => exact .inr (told ..)
    case leaveMaintenance => exact .inr ((told _ []).append_right _)
    case restart => exact .inr ⟨.admission, by simp [Beginning.effect, restartTasks], .inl rfl⟩
    case resume => exact .inr ⟨.phaseTold, List.mem_singleton_self _, .inr (.inr rfl)⟩
    case commit r k index x =>
      have hb : (commitTaken k index x s).state.btk = s.btk := (commitTaken_touches k index x s).same .btk (by decide)
      exact .inl (h.of_le (congrArg Btk.gateOpen hb) (commitTaken_line ..) (congrArg Hld.phase (commitTaken_hld ..))
        (congrArg (fun x : Btk => x.train.length) hb).le)
    case noMotionTimer =>
      simp only [Beginning.effect, noMotionExpiry]
      split <;> exact .inl h
    case stopTimer =>
      simp only [Beginning.effect, stopExpiry]
      split <;> exact .inl h
    case resumeTimer =>
      simp only [Beginning.effect, resumeExpiry]
      split <;> exact .inl h
    all_goals first | exact .inl h | simp [Beginning.touched] at ht
  · obtain ⟨hm, hh⟩ := not_or.mp ht
    obtain ⟨hh, hb⟩ := not_or.mp hh
    have hbtk : (b.effect s).1.btk = s.btk := (b.effect_touches s).same .btk hb
    exact .inl (h.of_le (congrArg Btk.gateOpen hbtk) (congrArg Mru.line ((b.effect_touches s).same .mru hm))
      (congrArg Hld.phase ((b.effect_touches s).same .hld hh)) (congrArg (fun x : Btk => x.train.length) hbtk).le)

theorem exec_gate {c : Instr} {s t : State} (hs : GateSafe s) (h : exec c s = .next t) : t.overrun = true ∨ GateSafe t := by
  have ends (e : Effect) (he : Begins c s e) : (runEffect e).overrun = true ∨ GateSafe (runEffect e) := by
    obtain ⟨b, -, rfl⟩ := he
    exact runEffect_gate (beginning_gate b s hs)
  cases exec_outcomes h with
  | reset => exact .inr nofun
  | count _ hu =>
    have hbtk : t.btk = s.btk := hu.touches.same .btk (by decide)
    exact .inr (hs.of_le (congrArg Btk.gateOpen hbtk) (counted_line hu) (congrArg Hld.phase (hu.touches.same .hld (by decide)))
      (congrArg (fun x : Btk => x.train.length) hbtk).le)
  | event e he => exact ends e he
  | reply e _ _ _ _ he => exact ends e he

end Sys2Proof.Machine
end

section
/-! The delivered commands (02 2.2): every output but the feeder carries what its record, its group and the tables form. -/

namespace Sys2Proof.Machine

/-! ## What forms a delivered command (R23, R24) -/

/-- The delivered command of an output is the one that R23 forms. -/
def Formed (s : State) (o : OutIx) : Prop := (outputRecord s o).delivered = deliveredValue s o

theorem clampUse_of_eq {t u : Tbs} (houtput : t.output = u.output) (hlimits : t.limits = u.limits) (o : OutIx) (v : Nat) :
    clampUse t o v = clampUse u o v := by
  unfold clampUse
  cases heaterLoop o <;> simp only [outputLimit, outputMax, houtput, hlimits]

theorem cutOff_of_eq {s t : State} (hg : ∀ g, groupActive t g = groupActive s g) (o : OutIx) : cutOff t o = cutOff s o := by
  unfold cutOff
  split
  · exact hg _
  · rfl

/-- The values of LIMITS and OUTPUT, the group and the parts of a record that R23 uses. -/
theorem deliveredValue_of_eq {s t : State} {o : OutIx} (ha : (outputRecord t o).automatic = (outputRecord s o).automatic)
    (hm : (outputRecord t o).manual = (outputRecord s o).manual) (hh : (outputRecord t o).held = (outputRecord s o).held)
    (houtput : t.tbs.output = s.tbs.output) (hlimits : t.tbs.limits = s.tbs.limits) (hg : ∀ g, groupActive t g = groupActive s g) :
    deliveredValue t o = deliveredValue s o := by
  simp only [deliveredValue, cutOff_of_eq hg, cutoffLevel, clampUse_of_eq houtput hlimits, outputAction, outputSafe, houtput, ha, hm, hh]

theorem Formed.of_eq {s t : State} {o : OutIx} (h : Formed s o) (hr : outputRecord t o = outputRecord s o) (houtput : t.tbs.output = s.tbs.output)
    (hlimits : t.tbs.limits = s.tbs.limits) (hg : ∀ g, groupActive t g = groupActive s g) : Formed t o := by
  rw [Formed, hr, deliveredValue_of_eq (by rw [hr]) (by rw [hr]) (by rw [hr]) houtput hlimits hg]
  exact h

/-- Every formed delivered command stays formed. -/
structure KeepsFormed (s t : State) : Prop where
  formed : ∀ o, o ≠ O 21 → Formed s o → Formed t o

theorem KeepsFormed.refl (s : State) : KeepsFormed s s := ⟨fun _ _ h => h⟩

theorem KeepsFormed.trans {s t u : State} (h : KeepsFormed s t) (k : KeepsFormed t u) : KeepsFormed s u :=
  ⟨fun o ho hs => k.formed o ho (h.formed o ho hs)⟩

/-- Nothing that R23 uses has changed. -/
theorem KeepsFormed.of_eq {s t : State} (hr : t.out.records = s.out.records) (houtput : t.tbs.output = s.tbs.output)
    (hlimits : t.tbs.limits = s.tbs.limits) (hg : t.acu.groups = s.acu.groups) : KeepsFormed s t :=
  ⟨fun o _ h => h.of_eq (by rw [outputRecord, hr]; rfl) houtput hlimits (groupActive_of_eq hg)⟩

/-- Only LIF, OUT and FLX change, and of OUT no record. -/
theorem KeepsFormed.of_touches {bs : List Block} {s t : State} (h : Touches bs s t) (hr : t.out.records = s.out.records)
    (htbs : Block.tbs ∉ bs) (hacu : Block.acu ∉ bs) : KeepsFormed s t :=
  .of_eq hr (congrArg Tbs.output (h.same .tbs htbs)) (congrArg Tbs.limits (h.same .tbs htbs)) (congrArg Acu.groups (h.same .acu hacu))

/-! ## Forming one output -/

theorem outputRecord_set_same (s : State) (o : OutIx) (r : OutputRecord) : outputRecord (setOutputRecord s o r) o = r := vset_same ..

theorem outputRecord_set_other (s : State) {o p : OutIx} (r : OutputRecord) (h : o ≠ p) : outputRecord (setOutputRecord s o r) p = outputRecord s p :=
  vset_other _ h _

theorem handCommand_records (o : OutIx) (s : State) : (handCommand o s).out = s.out := (handCommand_touches o s).same .out (by decide)

/-- The record of an output after its delivered command is formed. -/
theorem formPure_record_same {o : OutIx} (s : State) (ho : o ≠ O 21) :
    outputRecord (formPure o s) o = { outputRecord s o with delivered := deliveredValue s o } := by
  unfold formPure
  dsimp only
  split
  · next h => rw [h.resolve_left ho]
  · rw [outputRecord, handCommand_records]
    exact outputRecord_set_same ..

theorem formPure_record_other {o p : OutIx} (s : State) (h : o ≠ p) : outputRecord (formPure o s) p = outputRecord s p := by
  unfold formPure
  dsimp only
  split
  · rfl
  · rw [outputRecord, handCommand_records]
    refine (outputRecord_set_other _ _ h).trans ?_
    split <;> rfl

theorem formPure_tbs (o : OutIx) (s : State) : (formPure o s).tbs = s.tbs := (formPure_touches o s).same .tbs (by decide)
theorem formPure_acu (o : OutIx) (s : State) : (formPure o s).acu = s.acu := (formPure_touches o s).same .acu (by decide)

/-- An output is formed after its delivered command is formed, and no other output is disturbed. -/
theorem formPure_formed {o : OutIx} (s : State) (ho : o ≠ O 21) : Formed (formPure o s) o := by
  have hr := formPure_record_same s ho
  rw [Formed, deliveredValue_of_eq (s := s) (by rw [hr]) (by rw [hr]) (by rw [hr]) (by rw [formPure_tbs]) (by rw [formPure_tbs])
    (groupActive_of_eq (by rw [formPure_acu])), hr]

theorem formPure_keeps (o : OutIx) (s : State) : KeepsFormed s (formPure o s) := by
  refine ⟨fun p hp h => ?_⟩
  by_cases hop : o = p
  · subst hop
    exact formPure_formed s hp
  · exact h.of_eq (formPure_record_other s hop) (by rw [formPure_tbs]) (by rw [formPure_tbs]) (groupActive_of_eq (by rw [formPure_acu]))

/-- A change of one record and no other. -/
theorem setOutputRecord_keeps_other {o p : OutIx} {s : State} (r : OutputRecord) (h : o ≠ p) (hp : Formed s p) : Formed (setOutputRecord s o r) p :=
  hp.of_eq (outputRecord_set_other s r h) rfl rfl fun _ => rfl

theorem setAutomatic_formed {o : OutIx} (v : Nat) (s : State) (ho : o ≠ O 21) : Formed (setAutomatic o v s).1 o := formPure_formed _ ho

theorem setAutomatic_keeps (o : OutIx) (v : Nat) (s : State) : KeepsFormed s (setAutomatic o v s).1 := by
  refine ⟨fun p hp h => ?_⟩
  by_cases hop : o = p
  · subst hop
    exact setAutomatic_formed v s hp
  · exact (formPure_keeps o _).formed p hp (setOutputRecord_keeps_other _ hop h)

theorem handOperation_records (op : FeederOperation) (s : State) : (handOperation op s).out.records = s.out.records := by
  unfold handOperation
  dsimp only
  split <;> rfl

theorem handOperation_keeps (op : FeederOperation) (s : State) : KeepsFormed s (handOperation op s) :=
  .of_touches (handOperation_touches op s) (handOperation_records op s) (by decide) (by decide)

theorem handLastOperation_keeps (s : State) : KeepsFormed s (handLastOperation s) := by
  unfold handLastOperation
  split
  · exact handOperation_keeps ..
  · exact .refl s

theorem handCommand_keeps (o : OutIx) (s : State) : KeepsFormed s (handCommand o s) :=
  .of_touches (handCommand_touches o s) (by rw [handCommand_records]) (by decide) (by decide)

theorem handDelivered_keeps (o : OutIx) (s : State) : KeepsFormed s (handDelivered o s).1 := by
  unfold handDelivered
  dsimp only
  (repeat' split)
  · exact handLastOperation_keeps s
  · exact (formPure_keeps o s).trans (handCommand_keeps ..)
  · exact formPure_keeps o s

theorem handDelivered_formed {o : OutIx} (s : State) (ho : o ≠ O 21) : Formed (handDelivered o s).1 o := by
  unfold handDelivered
  dsimp only
  rw [if_neg ho]
  split
  · exact (handCommand_keeps o _).formed o ho (formPure_formed s ho)
  · exact formPure_formed s ho

theorem directClose_formed (n : NozzleIx) (s : State) (ho : valveOutput n ≠ O 21) : Formed (directClose n s).1 (valveOutput n) :=
  setAutomatic_formed 0 _ ho

theorem withLif_keeps (s : State) (l : Lif) : KeepsFormed s { s with lif := l } := .of_eq rfl rfl rfl rfl

theorem withFlx_keeps (s : State) (x : Flx) : KeepsFormed s { s with flx := x } := .of_eq rfl rfl rfl rfl

theorem directClose_keeps (n : NozzleIx) (s : State) : KeepsFormed s (directClose n s).1 :=
  (withLif_keeps s _).trans (setAutomatic_keeps (valveOutput n) 0 _)

/-- R23 does not use the delivered command itself. -/
theorem setDelivered_formed (s : State) (o : OutIx) (v : Nat) :
    Formed (setOutputRecord s o { outputRecord s o with delivered := v }) o ↔ v = deliveredValue s o := by
  rw [Formed, outputRecord_set_same, deliveredValue_of_eq (s := s) (t := setOutputRecord s o _) (by rw [outputRecord_set_same])
    (by rw [outputRecord_set_same]) (by rw [outputRecord_set_same]) rfl rfl fun _ => rfl]

/-- The delivered command of a valve follows its new automatic command (R26). -/
theorem followAutomatic_keeps (o : OutIx) (v : Nat) (s : State) {t : State}
    (ht : t = setOutputRecord s o { outputRecord s o with automatic := v }) :
    KeepsFormed s (if deliveredValue t o = v then setOutputRecord t o { outputRecord t o with delivered := v } else formPure o t) := by
  have other (p : OutIx) (hop : o ≠ p) (h : Formed s p) : Formed t p := ht ▸ setOutputRecord_keeps_other _ hop h
  refine ⟨fun p hp h => ?_⟩
  by_cases hop : o = p
  · subst hop
    split
    · next hv => exact (setDelivered_formed ..).mpr hv.symm
    · exact formPure_formed _ hp
  · split
    · exact setOutputRecord_keeps_other _ hop (other p hop h)
    · exact (formPure_keeps o _).formed p hp (other p hop h)

theorem takeTimed_keeps (c : TimedCell) (s : State) : KeepsFormed s (takeTimed c s) :=
  .of_touches (takeTimed_touches c s) (congrArg Out.records ((takeTimed_touches c s).same .out (by decide))) (by decide) (by decide)

/-- A timed edge leaves its valve formed (R26). -/
theorem timedEdge_keeps (n : NozzleIx) (isOpen : Bool) (duty delay : Nat) (s : State) : KeepsFormed s (timedEdge n isOpen duty delay s) := by
  unfold timedEdge
  dsimp only
  refine KeepsFormed.trans ?_ (followAutomatic_keeps (valveOutput n) _ _ rfl)
  split
  · exact takeTimed_keeps ..
  · exact .refl s

theorem foldl_keepsFormed {α : Type} {f : State → α → State} (h : ∀ s x, KeepsFormed s (f s x)) (l : List α) (s : State) : KeepsFormed s (l.foldl f s) :=
  List.foldlRecOn (motive := fun t : State => KeepsFormed s t) l f (.refl s) fun _ ht _ _ => ht.trans (h ..)

theorem keepsFormed_flxOnly {bs : List Block} {s t : State} (h : Touches bs s t) (hout : Block.out ∉ bs) (htbs : Block.tbs ∉ bs) (hacu : Block.acu ∉ bs) :
    KeepsFormed s t := .of_touches h (congrArg Out.records (h.same .out hout)) htbs hacu

theorem handValve_keeps (before : State) (delay : Nat) (n : NozzleIx) (s : State) : KeepsFormed s (handValve before delay n s) := by
  unfold handValve
  dsimp only
  split
  · exact .refl s
  · exact timedEdge_keeps ..

theorem applyGroup_keeps (s : State) (g : Nat × List Edge) : KeepsFormed s (applyGroup s g) :=
  (foldl_keepsFormed (fun s e => keepsFormed_flxOnly (applyEdge_touches s e) (by decide) (by decide) (by decide)) _ s).trans
    (foldl_keepsFormed (fun t n => (handValve_keeps s g.1 n t).trans
      (keepsFormed_flxOnly (planChange_touches s g.1 n _) (by decide) (by decide) (by decide))) _ _)

theorem flxTakeEdges_keeps (s : State) : KeepsFormed s (flxTakeEdges s).1 := by
  unfold flxTakeEdges takeEdges
  (repeat' split)
  · exact .refl s
  · exact .refl s
  · have drops (k : Nat) (p : Edge → Bool) : KeepsFormed s (countLateEdges k (dropEdges p s)) := withFlx_keeps s _
    exact ((drops ..).trans (foldl_keepsFormed applyGroup_keeps _ _)).trans
      (keepsFormed_flxOnly (closeRuns_touches ..) (by decide) (by decide) (by decide))
  · exact .refl s

theorem flxEndingCloses_keeps (s : State) : KeepsFormed s (flxEndingCloses s).1 := by
  unfold flxEndingCloses
  refine KeepsFormed.trans (withFlx_keeps s _) (foldl_keepsFormed (fun t n => ?_) _ _)
  dsimp only
  have hplan : KeepsFormed t (planChange s 0 n t) := keepsFormed_flxOnly (planChange_touches s 0 n t) (by decide) (by decide) (by decide)
  split
  · exact hplan.trans ((withFlx_keeps _ _).trans (timedEdge_keeps ..))
  · exact hplan

theorem startFeed_keeps (s : State) : KeepsFormed s (startFeed s) :=
  .trans (t := setFeeder s (startFeed s).pot.feeder) (.of_eq rfl rfl rfl rfl) (by
    unfold startFeed
    dsimp only
    rw [handOperation_pot]
    exact handOperation_keeps ..)

theorem feedEvaluate_keeps (s : State) : KeepsFormed s (feedEvaluate s).1 := by
  unfold feedEvaluate
  split
  · exact startFeed_keeps s
  · exact .refl s

theorem potGroup_keeps (g : Group) (s : State) : KeepsFormed s (potGroup g s).1 := by
  refine potActs_keeps (P := fun t => KeepsFormed s t) (.refl s) ?_
  (repeat' split)
  case isTrue.isTrue => exact (handOperation_keeps ..).trans (.of_eq rfl rfl rfl rfl)
  all_goals exact .refl s

theorem feederRestart_keeps (s : State) : KeepsFormed s (feederRestart s).1 := by
  unfold feederRestart
  dsimp only
  split
  · exact (handOperation_keeps ..).trans (.of_eq rfl rfl rfl rfl)
  · exact .of_eq rfl rfl rfl rfl
  all_goals exact .refl s

/-! ## Hand-overs that form outputs -/

/-- The hand-over forms the delivered command of the output. -/
def formsOutput (t : Task) (o : OutIx) : Prop :=
  match t with
  | .formDelivered p | .handDelivered p | .setAutomatic p _ => p = o
  | .directClose n => valveOutput n = o
  | _ => False

/-- Every output but O21 is formed, or a hand-over that forms it waits. -/
def FormingWaits (ts : List Task) (s : State) : Prop := ∀ o, o ≠ O 21 → Formed s o ∨ ∃ t ∈ ts, formsOutput t o

theorem handle_formsOutput {t : Task} {o : OutIx} (s : State) (h : formsOutput t o) (ho : o ≠ O 21) : Formed (handle t s).1 o := by
  cases t
  case formDelivered p =>
    obtain rfl : p = o := h
    exact formPure_formed s ho
  case handDelivered p =>
    obtain rfl : p = o := h
    exact handDelivered_formed s ho
  case setAutomatic p v =>
    obtain rfl : p = o := h
    exact setAutomatic_formed v s ho
  case directClose n =>
    obtain rfl : valveOutput n = o := h
    exact directClose_formed n s ho
  all_goals exact h.elim

/-- A hand-over keeps every output but O21 formed, or hands over what forms it. -/
def ServesOutputs (s : State) (e : Effect) : Prop := ∀ o, o ≠ O 21 → Formed s o → Formed e.1 o ∨ ∃ t ∈ e.2, formsOutput t o

theorem ServesOutputs.of_keeps {s : State} {e : Effect} (h : KeepsFormed s e.1) : ServesOutputs s e := fun o ho hs => .inl (h.formed o ho hs)

theorem formingWaits_next {t : Task} {ts : List Task} {s : State} (h : FormingWaits (t :: ts) s) (k : ServesOutputs s (handle t s)) :
    FormingWaits ((handle t s).2 ++ ts) (handle t s).1 := by
  intro o ho
  rcases h o ho with hf | ⟨u, hu, hfu⟩
  · exact (k o ho hf).imp id fun ⟨u, hu, hfu⟩ => ⟨u, List.mem_append_left _ hu, hfu⟩
  · rcases List.mem_cons.mp hu with rfl | hu
    · exact .inl (handle_formsOutput s hfu ho)
    · exact .inr ⟨u, List.mem_append_right _ hu, hfu⟩

theorem mem_groupOutputs (o : OutIx) (g : Group) (ho : o ≠ O 21) (hg : outputGroup o = some g) : o ∈ groupOutputs g := by
  revert o
  cases g <;> decide

/-- An output outside a group is formed as before whatever becomes of the group. -/
theorem deliveredValue_of_groups {s t : State} {o : OutIx} {g : Group} (hr : outputRecord t o = outputRecord s o) (htbs : t.tbs = s.tbs)
    (hg : ∀ j, j ≠ g → groupActive t j = groupActive s j) (ho : outputGroup o ≠ some g) (h : Formed s o) : Formed t o := by
  have hc : cutOff t o = cutOff s o := by
    unfold cutOff
    split
    · next j hj => exact hg j fun k => ho (hj.trans (congrArg some k))
    · rfl
  rw [Formed, deliveredValue, hc, cutoffLevel, hr, htbs]
  exact h

/-- The outputs of a group that is told of are formed by the hand-overs that follow. -/
theorem groupOutputs_served {o : OutIx} {g : Group} (ho : o ≠ O 21) (hg : outputGroup o = some g) (after : List Task) :
    ∃ t ∈ (groupOutputs g).map Task.formDelivered ++ after, formsOutput t o :=
  ⟨.formDelivered o, List.mem_append_left _ (List.mem_map_of_mem (mem_groupOutputs o g ho hg)), rfl⟩

/-- Held levels are captured of the group's own outputs alone (R24). -/
theorem captureHeld_record {g : Group} {s : State} {o : OutIx} (h : o ∉ groupOutputs g) : outputRecord (captureHeld g s) o = outputRecord s o := by
  unfold captureHeld
  refine List.foldlRecOn (motive := fun t : State => outputRecord t o = outputRecord s o) _ _ rfl fun t ht p hp => ?_
  rw [outputRecord_set_other _ _ (by rintro rfl; exact h hp)]
  exact ht

theorem mem_groupOutputs_group (g : Group) : ∀ o ∈ groupOutputs g, outputGroup o = some g := by
  cases g <;> decide

theorem activateGroup_serves (g : Group) (x : Cause) (s : State) : ServesOutputs s (activateGroup g x s) := by
  intro o ho h
  by_cases ha : (groupRecord s g).active = true
  · rw [activateGroup_active ha]
    exact .inl h
  · by_cases hg : outputGroup o = some g
    · right
      unfold activateGroup
      dsimp only
      rw [if_neg ha]
      exact groupOutputs_served ho hg _
    · left
      rw [activateGroup_inactive (Bool.eq_false_iff.mpr ha)]
      refine deliveredValue_of_groups (captureHeld_record (g := g) fun hm => hg (mem_groupOutputs_group g o hm))
        ((captureHeld_touches g s).same .tbs (by decide)) (fun j hj => ?_) hg h
      rw [groupActive_iff, groupRecord_setGroup_other _ _ (Ne.symm hj), groupRecord, captureHeld_acu]
      rfl

theorem deactivateGroup_serves (g : Group) (s : State) : ServesOutputs s (deactivateGroup g s) := by
  intro o ho h
  unfold deactivateGroup
  split
  · by_cases hg : outputGroup o = some g
    · exact .inr (groupOutputs_served ho hg _)
    · refine .inl (deliveredValue_of_groups (s := s) rfl rfl (fun j hj => ?_) hg h)
      rw [groupActive_iff, groupRecord_setGroup_other _ _ (Ne.symm hj)]
      rfl
  · exact .inl h

theorem releasePumps_serves (s : State) : ServesOutputs s (releasePumps s) := by
  intro o _ h
  by_cases h17 : O 17 = o
  · exact .inr ⟨.formDelivered (O 17), List.mem_cons_self .., h17⟩
  · by_cases h18 : O 18 = o
    · exact .inr ⟨.formDelivered (O 18), List.mem_cons_of_mem _ (List.mem_singleton_self _), h18⟩
    · exact .inl (setOutputRecord_keeps_other _ h18 (setOutputRecord_keeps_other _ h17 h))

theorem restartAlarms_keeps (s : State) : KeepsFormed s (restartAlarms s).1 :=
  have htbs : (restartAlarms s).1.tbs = s.tbs := (restartAlarms_touches s).same .tbs (by decide)
  have hout : (restartAlarms s).1.out = s.out := (restartAlarms_touches s).same .out (by decide)
  ⟨fun _ _ h => h.of_eq (by rw [outputRecord, hout]; rfl) (by rw [htbs]) (by rw [htbs]) fun g => restartAlarms_active s g⟩

theorem handle_serves (t : Task) (s : State) : ServesOutputs s (handle t s) := by
  have htbs : (handle t s).1.tbs = { s.tbs with slots := (handle t s).1.tbs.slots } := (handle_configuration t s).1.1
  by_cases hout : Block.out ∈ touched t
  · cases t
    case setAutomatic o v => exact .of_keeps (setAutomatic_keeps o v s)
    case formDelivered o => exact .of_keeps (formPure_keeps o s)
    case handDelivered o => exact .of_keeps (handDelivered_keeps o s)
    case directClose n => exact .of_keeps (directClose_keeps n s)
    case activate g x => exact activateGroup_serves g x s
    case flxEndingCloses => exact .of_keeps (flxEndingCloses_keeps s)
    case flxTakeEdges => exact .of_keeps (flxTakeEdges_keeps s)
    case potGroup g => exact .of_keeps (potGroup_keeps g s)
    case feedEvaluate => exact .of_keeps (feedEvaluate_keeps s)
    case feederRestart => exact .of_keeps (feederRestart_keeps s)
    case releasePumps => exact releasePumps_serves s
    all_goals simp [touched] at hout
  · have hrecords : (handle t s).1.out.records = s.out.records := congrArg Out.records ((handle_touches t s).same .out hout)
    have plain (hg : (handle t s).1.acu.groups = s.acu.groups) : ServesOutputs s (handle t s) :=
      .of_keeps (.of_eq hrecords (by rw [htbs]) (by rw [htbs]) hg)
    by_cases hk : t.kind ≠ .activate ∧ t.kind ≠ .deactivate ∧ t.kind ≠ .restartAlarms
    · exact plain (handle_groups t s hk.1 hk.2.1 hk.2.2)
    · cases t
      case activate => exact absurd (by simp [touched]) hout
      case deactivate g => exact deactivateGroup_serves g s
      case restartAlarms => exact .of_keeps (restartAlarms_keeps s)
      all_goals exact absurd ⟨nofun, nofun, nofun⟩ hk

theorem runEffect_formed {e : Effect} (h : FormingWaits e.2 e.1) : (runEffect e).overrun = true ∨ DeliveredFormed (runEffect e) :=
  settle_holds (I := FormingWaits) (P := fun s => s.overrun = true ∨ DeliveredFormed s) (fun t _ s hs => formingWaits_next hs (handle_serves t s))
    (fun _ hs => .inr fun o ho => (hs o ho).resolve_right fun ⟨_, hm, _⟩ => absurd hm List.not_mem_nil) (fun _ _ _ => .inl rfl) _ e.2 e.1 h

/-! ## The beginnings -/

theorem FormingWaits.of_serves {s : State} (h : DeliveredFormed s) {e : Effect} (k : ServesOutputs s e) : FormingWaits e.2 e.1 :=
  fun o ho => k o ho (h o ho)

/-- Every output is formed by what follows. -/
theorem formingWaits_all {ts : List Task} (s : State) (h : ∀ o, ∃ t ∈ ts, formsOutput t o) : FormingWaits ts s := fun o _ => .inr (h o)

theorem mem_heaters : ∀ o : OutIx, o.val < 8 → o ∈ [O 1, O 2, O 3, O 4, O 5, O 6, O 7, O 8] := by decide

theorem handed_forms (c : OutIx → Bool) (o : OutIx) :
    ∃ t ∈ allOutputs.map fun o => if c o = true then Task.handDelivered o else Task.formDelivered o, formsOutput t o := by
  refine ⟨_, List.mem_map_of_mem (List.mem_finRange o), ?_⟩
  cases c o <;> rfl

/-- A commit of OUTPUT forms every output again (R22). -/
theorem writeEntry_output_forms (index : Nat) (staged m : FieldMap) (s : State) (o : OutIx) :
    ∃ t ∈ (writeEntry .output index staged m s).2, formsOutput t o := by
  simp only [writeEntry]
  exact handed_forms (fun p => entryChanged s.tbs _ p) o

/-- A commit of LIMITS forms the heaters again; no other output has a limit there (R22, R23). -/
theorem writeEntry_serves (k : TableKind) (index : Nat) (staged m : FieldMap) (s : State) (after : List Task) :
    ServesOutputs s ((writeEntry k index staged m s).1, (writeEntry k index staged m s).2 ++ after) := by
  have hgroups := writeEntry_groups k index staged m s
  have hrecords : (writeEntry k index staged m s).1.out.records = s.out.records :=
    congrArg Out.records ((writeEntry_touches k index staged m s).same .out (by decide))
  have htbs := writeEntry_tbs k index staged m s
  intro o ho h
  by_cases hk : k = .output
  · subst hk
    obtain ⟨t, ht, hf⟩ := writeEntry_output_forms index staged m s o
    exact .inr ⟨t, List.mem_append_left _ ht, hf⟩
  by_cases hl : k = .limits
  · subst hl
    by_cases h8 : o.val < 8
    · exact .inr ⟨.formDelivered o, List.mem_append_left _ (List.mem_map_of_mem (mem_heaters o h8)), rfl⟩
    · left
      have hr : outputRecord (writeEntry .limits index staged m s).1 o = outputRecord s o := by
        rw [outputRecord, hrecords]
        rfl
      have hv : deliveredValue (writeEntry .limits index staged m s).1 o = deliveredValue s o := by
        simp only [deliveredValue, cutOff_of_eq (groupActive_of_eq hgroups), cutoffLevel, clampUse, outputLimit, outputAction, outputSafe,
          heaterLoop, if_neg h8, hr, htbs, writtenTables]
      rw [Formed, hr, hv]
      exact h
  · refine .inl ((KeepsFormed.of_eq hrecords ?_ ?_ hgroups).formed o ho h)
    all_goals
      rw [htbs]
      cases k
      case output => exact absurd rfl hk
      case limits => exact absurd rfl hl
      all_goals simp only [writtenTables, writeRecipe]

theorem beginning_formed (b : Beginning) (s : State) (h : DeliveredFormed s) : FormingWaits (b.effect s).2 (b.effect s).1 := by
  have keeps (k : KeepsFormed s (b.effect s).1) : FormingWaits (b.effect s).2 (b.effect s).1 := .of_serves h (.of_keeps k)
  by_cases ht : Block.out ∈ b.touched ∨ Block.tbs ∈ b.touched ∨ Block.acu ∈ b.touched
  · cases b
    case leaveMaintenance =>
      exact formingWaits_all _ fun o => ⟨.formDelivered o, List.mem_append_left _ (List.mem_map_of_mem (List.mem_finRange o)), rfl⟩
    case restart =>
      refine formingWaits_all _ fun o => ⟨.formDelivered o, ?_, rfl⟩
      have ho : Task.formDelivered o ∈ allOutputs.map Task.formDelivered := List.mem_map_of_mem (List.mem_finRange o)
      simp only [Beginning.effect, restartTasks, List.mem_append]
      exact .inl (.inl (.inl (.inr ho)))
    case setOutput o v =>
      refine .of_serves h fun p _ hf => ?_
      by_cases hop : o = p
      · exact .inr ⟨.formDelivered o, List.mem_singleton_self _, hop⟩
      · exact .inl (setOutputRecord_keeps_other _ hop hf)
    case feedNow => exact keeps (startFeed_keeps s)
    case commit r k index x =>
      exact .of_serves (s := setStaging s k none) h (writeEntry_serves k index x.fields (committedNext k index x s.tbs) (setStaging s k none) _)
    case removeRecipe => exact keeps (.of_eq rfl rfl rfl rfl)
    case ackLatched r a =>
      have htbs : (acknowledged a s).1.tbs = s.tbs := (acknowledged_touches a s).same .tbs (by decide)
      exact keeps (.of_eq (congrArg Out.records ((acknowledged_touches a s).same .out (by decide))) (congrArg Tbs.output htbs)
        (congrArg Tbs.limits htbs) (acknowledged_groups a s))
    case forceCutoff g x => exact keeps ⟨fun o _ hf => hf.of_eq rfl rfl rfl (setManualFlag_active g s)⟩
    all_goals simp [Beginning.touched] at ht
  · obtain ⟨hout, ht⟩ := not_or.mp ht
    obtain ⟨htbs, hacu⟩ := not_or.mp ht
    exact keeps (keepsFormed_flxOnly (b.effect_touches s) hout htbs hacu)

theorem deliveredFormed_reset : DeliveredFormed State.reset := by
  intro o _
  have hr : outputRecord State.reset o = { automatic := 0, manual := none, held := 0, delivered := 0 } := by
    simp only [outputRecord, State.reset, Out.reset, Fin.getElem_fin, Vector.getElem_replicate]
  have hlimit : outputLimit State.reset.tbs o = 0 := rfl
  have hv : deliveredValue State.reset o ≤ 0 := by
    unfold deliveredValue clampUse
    dsimp only
    rw [hlimit]
    split
    · exact (Nat.min_le_left ..).trans (Nat.min_le_right ..)
    · exact Nat.min_le_right ..
  rw [hr]
  exact (Nat.le_zero.mp hv).symm

theorem exec_formed {c : Instr} {s t : State} (hs : DeliveredFormed s) (h : exec c s = .next t) : t.overrun = true ∨ DeliveredFormed t := by
  have ends (e : Effect) (he : Begins c s e) : (runEffect e).overrun = true ∨ DeliveredFormed (runEffect e) := by
    obtain ⟨b, -, rfl⟩ := he
    exact runEffect_formed (beginning_formed b s hs)
  cases exec_outcomes h with
  | reset => exact .inr deliveredFormed_reset
  | count _ hu => exact .inr fun o ho => (keepsFormed_flxOnly hu.touches (by decide) (by decide) (by decide)).formed o ho (hs o ho)
  | event e he => exact ends e he
  | reply e _ _ _ _ he => exact ends e he

end Sys2Proof.Machine
end

section
/-! Forcing (06 6.5): under the forcing flag no nozzle is open and no segment sprays. -/

namespace Sys2Proof.Machine

/-- No nozzle is open and no segment is OPEN or ENDING. -/
def Closed (f : Flx) : Prop := (∀ n : NozzleIx, (f.nozzles[n]).view.isOpen = false) ∧ ∀ r ∈ f.sprays, r.segments.any isSpraying = false

/-- From `s` to `t` the forcing flag stays, and FLX stays closed if it was. -/
def ClosedKept (f g : Flx) : Prop := g.forcing = f.forcing ∧ (Closed f → Closed g)

theorem ClosedKept.refl (f : Flx) : ClosedKept f f := ⟨rfl, id⟩

theorem ClosedKept.trans {f g h : Flx} (k : ClosedKept f g) (l : ClosedKept g h) : ClosedKept f h := ⟨l.1.trans k.1, fun hc => l.2 (k.2 hc)⟩

theorem ClosedKept.forced {f g : Flx} (k : ClosedKept f g) (h : NozzlesForced f) : NozzlesForced g := fun hg => k.2 (h (k.1.symm.trans hg))

theorem ClosedKept.of_eq {f g : Flx} (hf : g.forcing = f.forcing) (hn : g.nozzles = f.nozzles) (hs : g.sprays = f.sprays) : ClosedKept f g := by
  refine ⟨hf, fun h => ?_⟩
  rw [Closed, hn, hs]
  exact h

theorem foldl_closedKept {α : Type} {f : State → α → State} (h : ∀ s x, ClosedKept s.flx (f s x).flx) (l : List α) (s : State) :
    ClosedKept s.flx (l.foldl f s).flx :=
  List.foldlRecOn (motive := fun t : State => ClosedKept s.flx t.flx) l f (.refl _) fun _ ht _ _ => ht.trans (h ..)

/-- A change of the spray records that makes no segment spray. -/
theorem closedKept_sprays (x : Flx) (f : SprayRecord → SprayRecord)
    (hf : ∀ r, r.segments.any isSpraying = false → (f r).segments.any isSpraying = false) : ClosedKept x { x with sprays := x.sprays.map f } := by
  refine ⟨rfl, fun h => ⟨h.1, fun r hr => ?_⟩⟩
  obtain ⟨r', hr', rfl⟩ := List.mem_map.mp hr
  exact hf r' (h.2 r' hr')

theorem mapSpray_closed (s : State) (n : BoardNo) {f : SprayRecord → SprayRecord}
    (hf : ∀ r, r.segments.any isSpraying = false → (f r).segments.any isSpraying = false) : ClosedKept s.flx (mapSpray s n f).flx := by
  refine closedKept_sprays s.flx _ fun r hr => ?_
  split
  · exact hf r hr
  · exact hr

/-- Segments of a closed run that change to states that do not spray. -/
theorem map_not_spraying {l : List Segment} {f : Segment → Segment} (hf : ∀ g, isSpraying g = false → isSpraying (f g) = false)
    (h : l.any isSpraying = false) : (l.map f).any isSpraying = false := by
  rw [List.any_eq_false] at h ⊢
  intro g hg
  obtain ⟨g', hg', rfl⟩ := List.mem_map.mp hg
  exact Bool.eq_false_iff.mp (hf g' (Bool.eq_false_iff.mpr (h g' hg')))

theorem covering_closed {s : State} (h : ∀ r ∈ s.flx.sprays, r.segments.any isSpraying = false) (n : NozzleIx) : covering s n = [] := by
  refine List.flatMap_eq_nil_iff.mpr fun r hr => ?_
  split
  · rfl
  · refine List.map_eq_nil_iff.mpr (List.filter_eq_nil_iff.mpr fun g hg hc => ?_)
    exact absurd (Bool.and_eq_true_iff.mp hc).1 (List.any_eq_false.mp (h r hr) g hg)

/-- Nozzles derived from closed segments are closed (R91). -/
theorem deriveNozzles_closed (s : State) : ClosedKept s.flx (deriveNozzles s).flx := by
  refine ⟨rfl, fun h => ⟨fun n => ?_, h.2⟩⟩
  simp only [deriveNozzles, Fin.getElem_fin, Vector.getElem_ofFn]
  rw [deriveView, covering_closed h.2]
  rfl

theorem mapNozzle_closed (s : State) (n : NozzleIx) {f : Nozzle → Nozzle} (hf : ∀ z, (f z).view = z.view) :
    ClosedKept s.flx (mapNozzle s n f).flx := by
  refine ⟨rfl, fun h => ⟨fun k => ?_, h.2⟩⟩
  rw [mapNozzle_flx_nozzles]
  by_cases hk : n = k
  · subst hk
    rw [vset_same, hf]
    exact h.1 n
  · rw [vset_other _ hk]
    exact h.1 k

theorem nozzles_map_closed {x : Flx} {f : Nozzle → Nozzle} (hf : ∀ z, (f z).view = z.view) : ClosedKept x { x with nozzles := x.nozzles.map f } := by
  refine ⟨rfl, fun h => ⟨fun k => ?_, h.2⟩⟩
  simp only [Fin.getElem_fin, Vector.getElem_map, hf]
  exact h.1 k

theorem takeTimed_closed (c : TimedCell) (s : State) : ClosedKept s.flx (takeTimed c s).flx := by
  unfold takeTimed
  dsimp only
  (repeat' split) <;> exact .of_eq rfl rfl rfl

theorem formPure_flx (o : OutIx) (s : State) : (formPure o s).flx = s.flx := (formPure_touches o s).same .flx (by decide)

theorem followAutomatic_flx (o : OutIx) (v : Nat) (r : OutputRecord) (s : State) :
    (if deliveredValue s o = v then setOutputRecord s o r else formPure o s).flx = s.flx := by
  split
  · rfl
  · exact formPure_flx o s

theorem timedEdge_closed (n : NozzleIx) (isOpen : Bool) (duty delay : Nat) (s : State) : ClosedKept s.flx (timedEdge n isOpen duty delay s).flx := by
  unfold timedEdge
  dsimp only
  rw [followAutomatic_flx, setOutputRecord_flx]
  split
  · exact takeTimed_closed ..
  · exact .refl _

theorem planChange_closed (before : State) (delay : Nat) (n : NozzleIx) (s : State) : ClosedKept s.flx (planChange before delay n s).flx := by
  unfold planChange
  split
  · exact .refl _
  · exact mapNozzle_closed s n fun _ => rfl

theorem handValve_closed (before : State) (delay : Nat) (n : NozzleIx) (s : State) : ClosedKept s.flx (handValve before delay n s).flx := by
  unfold handValve
  dsimp only
  split
  · exact .refl _
  · exact timedEdge_closed ..

/-! ### The hand-overs of FLX -/

theorem flxNewRecord_closed (n : BoardNo) (s : State) : ClosedKept s.flx (flxNewRecord n s).1.flx := by
  have joins (l : List Segment) (hl : l.any isSpraying = false) : ClosedKept s.flx { s.flx with sprays := s.flx.sprays ++ [⟨n, l, false, 0⟩] } := by
    refine ⟨rfl, fun h => ⟨h.1, fun r hr => ?_⟩⟩
    rcases List.mem_append.mp hr with hr | hr
    · exact h.2 r hr
    · rw [List.mem_singleton.mp hr]
      exact hl
  unfold flxNewRecord
  dsimp only
  split
  · exact .refl _
  · split
    · exact joins [] rfl
    · split
      · exact joins [] rfl
      · refine ClosedKept.trans ?_ (foldl_closedKept ?_ _ _)
        · refine joins _ (List.any_eq_false.mpr fun g hg => ?_)
          obtain ⟨k, -, rfl⟩ := List.mem_map.mp hg
          exact nofun
        · exact fun _ _ => .of_eq rfl rfl rfl

theorem clipSegment_closed (b : Board) (m : FieldMap) (len : Int) (g : Segment) (s : State) : ClosedKept s.flx (clipSegment b m len g s).flx := by
  unfold clipSegment
  dsimp only
  split
  · split
    · refine mapSpray_closed (dropEdges _ s) _ fun r hr => map_not_spraying (fun h hh => ?_) hr
      split
      · rfl
      · exact hh
    · split
      · exact .of_eq rfl rfl rfl
      · exact .refl _
  · split
    · exact .of_eq rfl rfl rfl
    · exact .refl _
  all_goals exact .refl _

theorem flxLength_closed (n : BoardNo) (s : State) : ClosedKept s.flx (flxLength n s).1.flx := by
  have clips (b : Board) (m : FieldMap) (len : Int) (gs : List Segment) : ClosedKept s.flx (gs.foldl (fun s g => clipSegment b m len g s) s).flx :=
    foldl_closedKept (fun s g => clipSegment_closed b m len g s) gs s
  unfold flxLength
  dsimp only
  split
  · split
    · split
      · split <;> exact clips ..
      · split
        · exact (clips ..).trans (mapSpray_closed _ _ fun _ hr => hr)
        · exact clips ..
    · exact .refl _
  · exact .refl _

/-- A disposition of REWORK drops what is PENDING and ends what is OPEN (R98). -/
theorem reworkSegment_not_spraying {g : Segment} (h : isSpraying g = false) : isSpraying (reworkSegment g) = false := by
  obtain ⟨k, x⟩ := g
  cases x <;> first | rfl | exact h

theorem flxRework_closed (n : BoardNo) (s : State) : ClosedKept s.flx (flxRework n s).1.flx := by
  have stop : ClosedKept s.flx (mapSpray (dropEdges (fun e => e.board == n) s) n fun r =>
      { r with segments := r.segments.map reworkSegment, runClosing := false }).flx :=
    mapSpray_closed (dropEdges _ s) n fun _ hr => map_not_spraying (fun _ => reworkSegment_not_spraying) hr
  unfold flxRework
  dsimp only
  split
  · exact stop
  · exact stop
  all_goals exact .refl _

theorem flxRemoved_closed (n : BoardNo) (s : State) : ClosedKept s.flx (flxRemoved n s).1.flx := by
  unfold flxRemoved
  dsimp only
  refine ClosedKept.trans (g := { s.flx with edges := _, sprays := s.flx.sprays.filter fun r => !(r.board == n) }) ?_
    ((deriveNozzles_closed { s with flx := _ }).trans (foldl_closedKept (fun t k => ?_) _ _))
  · exact ⟨rfl, fun h => ⟨h.1, fun r hr => h.2 r (List.mem_of_mem_filter hr)⟩⟩
  · split
    · exact mapNozzle_closed t k fun _ => rfl
    · exact .refl _

theorem accountNozzle_closed (d : Nat) (s : State) (n : NozzleIx) : ClosedKept s.flx (accountNozzle d s n).flx := by
  unfold accountNozzle
  refine foldl_closedKept (fun t p => ?_) _ s
  split
  · exact mapSpray_closed t _ fun _ hr => hr
  · exact .refl _

theorem writeDoses_flx (s : State) : (writeDoses s).flx = s.flx := (writeDoses_touches s).same .flx (by decide)

theorem flxAccount_closed (s : State) : ClosedKept s.flx (flxAccount s).1.flx := by
  have restarts (x : Flx) (c : Option Word32) :
      ClosedKept x { x with lastAccounted := c, nozzles := x.nozzles.map fun z => { z with planStart := z.view, planChanges := [] } } :=
    (nozzles_map_closed (f := fun z => { z with planStart := z.view, planChanges := [] }) fun _ => rfl).trans (.of_eq rfl rfl rfl)
  unfold flxAccount
  dsimp only
  split
  · exact restarts ..
  · refine ClosedKept.trans ?_ (restarts ..)
    rw [writeDoses_flx]
    exact foldl_closedKept (accountNozzle_closed _) _ s

theorem flxRunEnd_closed (n : BoardNo) (s : State) : ClosedKept s.flx (flxRunEnd n s).1.flx := by
  have ends : ClosedKept s.flx (mapSpray s n fun r => { r with runClosing := false }).flx := mapSpray_closed s n fun _ hr => hr
  unfold flxRunEnd
  dsimp only
  split
  · split
    · split
      · exact ends
      · exact ends
    · exact .refl _
  · exact .refl _

theorem flxEndingCloses_closed (s : State) : ClosedKept s.flx (flxEndingCloses s).1.flx := by
  unfold flxEndingCloses
  dsimp only
  refine ClosedKept.trans (closedKept_sprays s.flx _ fun r hr => map_not_spraying (fun g hg => ?_) hr)
    ((deriveNozzles_closed { s with flx := _ }).trans (foldl_closedKept (fun t n => ?_) _ _))
  · split
    · rfl
    · exact hg
  · split
    · exact (planChange_closed ..).trans
        ((mapNozzle_closed _ n (f := fun z => { z with closeOwed := false }) fun _ => rfl).trans (timedEdge_closed ..))
    · exact planChange_closed ..

theorem setSegment_closed (s : State) (n : BoardNo) (k : Nat) {x : SegState} (hx : ∀ j, isSpraying ⟨j, x⟩ = false) :
    ClosedKept s.flx (setSegment s n k x).flx := by
  refine mapSpray_closed s n fun r hr => map_not_spraying (fun g hg => ?_) hr
  split
  · exact hx _
  · exact hg

theorem closeRuns_closed (gone : List Edge) (s : State) : ClosedKept s.flx (closeRuns gone s).flx := by
  unfold closeRuns
  refine foldl_closedKept (fun t e => ?_) _ s
  split
  · exact mapSpray_closed t _ fun _ hr => hr
  · exact .refl _

theorem flxConsume_closed (s : State) : ClosedKept s.flx (flxConsume s).1.flx := by
  unfold flxConsume
  split
  · split
    · exact .refl _
    · next e _ =>
      have hs : ClosedKept s.flx (closeRuns [e] { s with flx := { s.flx with edges := s.flx.edges.erase e } }).flx :=
        .trans (g := { s.flx with edges := s.flx.edges.erase e }) (.of_eq rfl rfl rfl) (closeRuns_closed [e] { s with flx := _ })
      dsimp only
      split
      · exact hs.trans (setSegment_closed _ _ _ fun _ => rfl)
      · exact hs
  · exact .refl _

theorem flxForcing_forced {s : State} (h : NozzlesForced s.flx) : NozzlesForced (flxForcing s).1.flx := by
  unfold flxForcing
  dsimp only
  split
  · refine fun _ => ⟨fun n => ?_, fun r hr => ?_⟩
    · simp only [beginForcing, Fin.getElem_fin, Vector.getElem_map]
      split
      · rfl
      · next hn => exact Bool.eq_false_iff.mpr hn
    · obtain ⟨r', -, rfl⟩ := List.mem_map.mp hr
      refine List.any_eq_false.mpr fun g hg => ?_
      obtain ⟨g', -, rfl⟩ := List.mem_map.mp hg
      split
      · exact nofun
      · next hg' => exact hg'
  · next hv =>
    intro hf
    have hold : forcingHolds s = true := hf
    refine h ?_
    by_contra hn
    exact hv (by rw [hold, Bool.eq_false_iff.mpr hn]; rfl)

theorem applyEdge_forcing (s : State) (e : Edge) : (applyEdge s e).flx.forcing = s.flx.forcing := by
  unfold applyEdge
  split
  · dsimp only
    split <;> rfl
  · rfl
  · rfl

theorem foldl_applyEdge_forcing (l : List Edge) (s : State) : (l.foldl applyEdge s).flx.forcing = s.flx.forcing :=
  List.foldlRecOn (motive := fun t : State => t.flx.forcing = s.flx.forcing) _ _ rfl fun t ht e _ => (applyEdge_forcing t e).trans ht

theorem applyGroup_forcing (s : State) (g : Nat × List Edge) : (applyGroup s g).flx.forcing = s.flx.forcing := by
  unfold applyGroup
  extract_lets t
  rw [(foldl_closedKept (fun t n => (handValve_closed s g.1 n t).trans (planChange_closed s g.1 n _)) _ _).1]
  exact foldl_applyEdge_forcing g.2 s

theorem foldl_applyGroup_forcing (l : List (Nat × List Edge)) (s : State) : (l.foldl applyGroup s).flx.forcing = s.flx.forcing :=
  List.foldlRecOn (motive := fun t : State => t.flx.forcing = s.flx.forcing) _ _ rfl fun t ht g _ => (applyGroup_forcing t g).trans ht

theorem takeEdges_forcing (v8 : Int) (s : State) : (takeEdges v8 s).flx.forcing = s.flx.forcing := by
  simp only [takeEdges, (closeRuns_closed _ _).1, foldl_applyGroup_forcing]
  rfl

/-- Edges are taken without the forcing flag alone (R92). -/
theorem flxTakeEdges_forced {s : State} (h : NozzlesForced s.flx) : NozzlesForced (flxTakeEdges s).1.flx := by
  unfold flxTakeEdges
  split
  · exact h
  · next hf =>
    split
    · exact h
    · split
      · exact fun hg => absurd ((takeEdges_forcing ..).symm.trans hg) hf
      · exact h

theorem handle_forced (t : Task) (s : State) (h : NozzlesForced s.flx) : NozzlesForced (handle t s).1.flx := by
  by_cases ht : Block.flx ∈ touched t
  · cases t
    case beginCycle =>
      refine ClosedKept.forced (f := s.flx) ?_ h
      simp only [handle, beginCycle]
      exact .of_eq rfl rfl rfl
    case flxNewRecord n => exact (flxNewRecord_closed n s).forced h
    case flxLength n => exact (flxLength_closed n s).forced h
    case flxRework n => exact (flxRework_closed n s).forced h
    case flxRemoved n => exact (flxRemoved_closed n s).forced h
    case flxForcing => exact flxForcing_forced h
    case flxAccount => exact (flxAccount_closed s).forced h
    case flxRunEnd n => exact (flxRunEnd_closed n s).forced h
    case flxEndingCloses => exact (flxEndingCloses_closed s).forced h
    case flxTakeEdges => exact flxTakeEdges_forced h
    case flxConsume => exact (flxConsume_closed s).forced h
    case fluxTank => exact h
    all_goals simp [touched] at ht
  · have hf : (handle t s).1.flx = s.flx := (handle_touches t s).same .flx ht
    rw [hf]
    exact h

theorem restarted_flx (s : State) : (restarted s).flx = (flxRestart s).flx := by
  simp only [restarted, setLine_flx, releaseManual_flx, tleReset, potRestart, phmRestart, flxRestart, btkRestart, hldRestart]

theorem beginning_forced (b : Beginning) (s : State) (h : NozzlesForced s.flx) : NozzlesForced (b.effect s).1.flx := by
  by_cases ht : Block.flx ∈ b.touched
  · cases b
    case restart =>
      rw [Beginning.effect, restarted_flx]
      refine fun _ => ⟨fun n => ?_, fun r hr => absurd hr List.not_mem_nil⟩
      simp only [flxRestart, Fin.getElem_fin, Vector.getElem_map]
      rfl
    all_goals simp [Beginning.touched] at ht
  · have hf : (b.effect s).1.flx = s.flx := (b.effect_touches s).same .flx ht
    rw [hf]
    exact h

theorem nozzlesForced_reset : NozzlesForced State.reset.flx := by
  refine fun _ => ⟨fun n => ?_, fun r hr => absurd hr List.not_mem_nil⟩
  simp only [State.reset, Flx.reset, Fin.getElem_fin, Vector.getElem_replicate]
  rfl

/-- Settles O10: what changes a delivered command, the gate or a nozzle hands over what sets it right, and forcing closes at once. -/
theorem outputsStaySafe : Obligations.OutputsStaySafe :=
  ⟨step_keeps (P := DeliveredFormed) (Q := fun s => s.overrun = true ∨ DeliveredFormed s) (fun _ h => .inr h) (fun _ _ h => h)
     fun _ _ _ hs h => exec_formed hs h,
   step_keeps (P := GateSafe) (Q := fun s => s.overrun = true ∨ GateSafe s) (fun _ h => .inr h) (fun _ _ h => h) fun _ _ _ hs h => exec_gate hs h,
   step_keeps_block (P := fun s => NozzlesForced s.flx)
     (fun s t ht h => by rw [show t.flx = s.flx from ht.same .flx (by decide)]; exact h) nozzlesForced_reset (fun _ _ h => h) beginning_forced
     handle_forced fun _ h => h⟩

end Sys2Proof.Machine
end

section
/-! The machine (tier 1): the front of the queue, and the state after power-on reset. -/

namespace Sys2Proof.Machine

/-- Settles O1: `step` reads the queue and nothing else. -/
theorem stepTakesFrontCommand : Obligations.StepTakesFrontCommand := ⟨fun _ _ _ => rfl, fun _ => rfl⟩

/-! ## Vectors that hold one value -/

theorem groupRecord_reset (g : Group) : groupRecord State.reset g = ⟨false, false, none⟩ :=
  Vector.getElem_replicate ..

theorem pumpOf_reset (w : Wave) : pumpOf Pot.reset w = .reset := by cases w <;> rfl

theorem ductOf_reset (d : Duct) : ductOf State.reset.exm d = .reset := by cases d <;> rfl

theorem slots_reset (i : SlotIx) : Tbs.reset.slots[i] = ⟨⟨false, [], 0⟩, ⟨false, [], 0⟩, .a⟩ := Vector.getElem_replicate ..

theorem alarms_reset (a : AlarmIx) : Acu.reset.alarms[a] = ⟨.clear, 0, 0, none⟩ := Vector.getElem_replicate ..

theorem stagingOf_reset (k : TableKind) : stagingOf Mru.reset.staging k = none := by cases k <;> rfl

/-- Settles O2: the next state is `State.reset` with the queue kept, whatever the state before. -/
theorem powerOnResetValues : Obligations.PowerOnResetValues := by
  intro s
  refine ⟨{ State.reset with pending := s.pending }, rfl, ?lif, ?sig, ?out, rfl, ?mru, ?tbs, ?btk, ?flx, ?tle, ?phm, ?pot,
    ductOf_reset, rfl, alarms_reset, groupRecord_reset, rfl, rfl, rfl⟩
  case lif => exact ⟨rfl, rfl, rfl, rfl, rfl, rfl, rfl, rfl, rfl, rfl, rfl, rfl, rfl, rfl⟩
  case sig => exact fun i => Vector.getElem_replicate ..
  case out => exact fun o => Vector.getElem_replicate ..
  case mru => exact ⟨rfl, rfl, rfl, rfl, rfl, rfl, stagingOf_reset⟩
  case tbs =>
    exact ⟨rfl, rfl, rfl, rfl, rfl, rfl, fun o => Vector.getElem_replicate .., fun a => Vector.getElem_ofFn .., slots_reset⟩
  case btk => exact ⟨rfl, rfl, rfl, rfl, rfl, rfl, rfl, rfl, rfl, rfl, rfl, rfl, rfl, rfl, rfl, rfl, rfl, rfl⟩
  case flx =>
    have nozzle (n : NozzleIx) : Flx.reset.nozzles[n] = Nozzle.closed := Vector.getElem_replicate ..
    refine ⟨rfl, rfl, rfl, rfl, rfl, rfl, fun n => ?_⟩
    simp only [State.reset, nozzle]
    exact ⟨rfl, rfl, rfl⟩
  case tle => exact fun l => Vector.getElem_replicate ..
  case phm => exact ⟨rfl, rfl, fun z => ⟨Vector.getElem_replicate .., Vector.getElem_replicate ..⟩⟩
  case pot => exact ⟨rfl, rfl, rfl, rfl, pumpOf_reset, rfl, rfl, rfl, rfl, rfl, rfl⟩

/-! ## The reset state is safe -/

theorem signalsSound_reset (i : SigIx) : SignalSound State.reset.sig[i] := by
  have hi : State.reset.sig[i] = .reset := Vector.getElem_replicate ..
  rw [hi]
  exact signalSound_reset

theorem trainSound_reset : TrainSound Btk.reset :=
  ⟨Nat.zero_le _, Nat.zero_le _, Nat.zero_le _, rfl, trivial, fun _ hb => absurd hb List.not_mem_nil⟩

theorem holdSound_reset : HoldSound State.reset :=
  ⟨fun h => absurd rfl h, fun h => absurd rfl h, fun h => absurd h Bool.false_ne_true, fun h => absurd h Bool.false_ne_true,
    Nat.zero_le _, fun _ h => absurd h.symm (Option.some_ne_none _)⟩

theorem groupsSound_reset : GroupsSound State.reset := by
  intro g
  rw [groupRecord_reset]
  exact ⟨⟨id, id⟩, id⟩

/-- No alarm is ACTIVE or LATCHED after power-on reset. -/
theorem linkedGroupsActive_reset : LinkedGroupsActive State.reset := by
  intro a g _ hset
  have ha : State.reset.acu.alarms[a] = ⟨.clear, 0, 0, none⟩ := alarms_reset a
  rw [alarmSet_iff, ha] at hset
  exact absurd hset (by decide)

theorem loopsSound_reset : LoopsSound State.reset.tle := by
  intro l
  have hl : State.reset.tle.loops[l] = .reset := Vector.getElem_replicate ..
  rw [hl]
  exact loopSound_reset

theorem gateSafe_reset : GateSafe State.reset := fun h => absurd h Bool.false_ne_true

/-- Settles O3: each invariant at its reset values. -/
theorem resetStateIsSafe : Obligations.ResetStateIsSafe :=
  ⟨lifSound_reset [], signalsSound_reset, trainSound_reset, referencesAgree_reset, holdSound_reset, groupsSound_reset,
    linkedGroupsActive_reset, nozzlesForced_reset, tablesSorted_reset, potSound_reset, loopsSound_reset, deliveredFormed_reset,
    gateSafe_reset⟩

end Sys2Proof.Machine
end

section
/-! Cells as bytes (01 1.8): each cell reads back from its bytes, and the tests of R4 take it from there. -/

namespace Sys2Proof.Machine

/-! ## A field of a payload -/

theorem extract_toNat (n lo w : Nat) : ((BitVec.ofNat 80 n).extractLsb' lo w).toNat = n % 2 ^ 80 / 2 ^ lo % 2 ^ w := by
  simp only [BitVec.extractLsb'_toNat, BitVec.toNat_ofNat, Nat.shiftRight_eq_div_pow]

/-- The byte that a payload carries above its lowest `13 - i` bytes. -/
theorem payloadByte_ofNat (n i : Nat) : payloadByte (BitVec.ofNat 80 n) i = n % 2 ^ 80 / 256 ^ (13 - i) % 256 := rfl

/-! ## Cells read back from their bytes -/

theorem cycleEndOfRaw_cycleEndRaw (c : CycleEndCell) : cycleEndOfRaw (cycleEndRaw c) = c := by
  have hcycle := c.cycle.isLt
  have hunused := c.unused.isLt
  have h1 : (cycleEndRaw c).payload.extractLsb' 48 32 = c.cycle := by
    apply BitVec.eq_of_toNat_eq
    rw [cycleEndRaw, extract_toNat]
    omega
  have h2 : (cycleEndRaw c).payload.extractLsb' 0 48 = c.unused := by
    apply BitVec.eq_of_toNat_eq
    rw [cycleEndRaw, extract_toNat]
    omega
  rw [cycleEndOfRaw, h1, h2]
  rfl

theorem requestOfRaw_requestRaw (code : Word16) (r : ReqCell) : requestOfRaw (requestRaw code r) = (code, r) := by
  have hcode := code.isLt
  have hoperands := r.operands.isLt
  have h1 : (requestRaw code r).payload.extractLsb' 64 16 = code := by
    apply BitVec.eq_of_toNat_eq
    rw [requestRaw, extract_toNat]
    omega
  have h2 : (requestRaw code r).payload.extractLsb' 0 64 = r.operands := by
    apply BitVec.eq_of_toNat_eq
    rw [requestRaw, extract_toNat]
    omega
  rw [requestOfRaw, h1, h2]
  rfl

theorem completionOfRaw_completionRaw (c : CompletionCell) : completionOfRaw (completionRaw c) = c := by
  have hnumber := c.number.isLt
  have hresult := c.result.isLt
  have hquantity := c.quantity.isLt
  have hunused := c.unused.isLt
  have h1 : BitVec.ofNat 8 (payloadByte (completionRaw c).payload 4) = c.number := by
    apply BitVec.eq_of_toNat_eq
    rw [completionRaw, payloadByte_ofNat, BitVec.toNat_ofNat]
    omega
  have h2 : BitVec.ofNat 8 (payloadByte (completionRaw c).payload 5) = c.result := by
    apply BitVec.eq_of_toNat_eq
    rw [completionRaw, payloadByte_ofNat, BitVec.toNat_ofNat]
    omega
  have h3 : (completionRaw c).payload.extractLsb' 48 16 = c.quantity := by
    apply BitVec.eq_of_toNat_eq
    rw [completionRaw, extract_toNat]
    omega
  have h4 : (completionRaw c).payload.extractLsb' 0 48 = c.unused := by
    apply BitVec.eq_of_toNat_eq
    rw [completionRaw, extract_toNat]
    omega
  rw [completionOfRaw, h1, h2, h3, h4]
  rfl

theorem sampleOfRaw_sampleRaw (c : SampleCell) : sampleOfRaw (sampleRaw c) = c := by
  have hsequence := c.sequence.isLt
  have hstatuses := c.statuses.isLt
  have hvalue0 := c.value0.isLt
  have hvalue1 := c.value1.isLt
  have hvalue2 := c.value2.isLt
  have hvalue3 := c.value3.isLt
  have h1 : BitVec.ofNat 8 (payloadByte (sampleRaw c).payload 4) = c.sequence := by
    apply BitVec.eq_of_toNat_eq
    rw [sampleRaw, payloadByte_ofNat, BitVec.toNat_ofNat]
    omega
  have h2 : BitVec.ofNat 8 (payloadByte (sampleRaw c).payload 5) = c.statuses := by
    apply BitVec.eq_of_toNat_eq
    rw [sampleRaw, payloadByte_ofNat, BitVec.toNat_ofNat]
    omega
  have h3 : (sampleRaw c).payload.extractLsb' 48 16 = c.value0 := by
    apply BitVec.eq_of_toNat_eq
    rw [sampleRaw, extract_toNat]
    omega
  have h4 : (sampleRaw c).payload.extractLsb' 32 16 = c.value1 := by
    apply BitVec.eq_of_toNat_eq
    rw [sampleRaw, extract_toNat]
    omega
  have h5 : (sampleRaw c).payload.extractLsb' 16 16 = c.value2 := by
    apply BitVec.eq_of_toNat_eq
    rw [sampleRaw, extract_toNat]
    omega
  have h6 : (sampleRaw c).payload.extractLsb' 0 16 = c.value3 := by
    apply BitVec.eq_of_toNat_eq
    rw [sampleRaw, extract_toNat]
    omega
  rw [sampleOfRaw, h1, h2, h3, h4, h5, h6]
  rfl

/-! ## Commands and their cells -/

theorem commandOfCell_cycleEnd (c : CycleEndCell) : commandOfCell (cycleEndRaw c) = .cycleEnd c :=
  (if_pos rfl).trans (congrArg _ (cycleEndOfRaw_cycleEndRaw c))

theorem commandOfCell_sample (c : SampleCell) : commandOfCell (sampleRaw c) = .sample c := by
  have hne : (sampleRaw c).kind ≠ kindCycleEnd := (by decide : kindSample ≠ kindCycleEnd)
  rw [commandOfCell, if_neg hne, if_pos (show (sampleRaw c).kind = kindSample from rfl), sampleOfRaw_sampleRaw]

theorem commandOfCell_completion (c : CompletionCell) : commandOfCell (completionRaw c) = .completion c := by
  have hne1 : (completionRaw c).kind ≠ kindCycleEnd := (by decide : kindCompletion ≠ kindCycleEnd)
  have hne2 : (completionRaw c).kind ≠ kindSample := (by decide : kindCompletion ≠ kindSample)
  rw [commandOfCell, if_neg hne1, if_neg hne2, if_pos (show (completionRaw c).kind = kindCompletion from rfl),
    completionOfRaw_completionRaw]

theorem commandOfCell_request (code : Word16) (r : ReqCell) : commandOfCell (requestRaw code r) = requestCommand code r := by
  have hne1 : (requestRaw code r).kind ≠ kindCycleEnd := (by decide : kindRequest ≠ kindCycleEnd)
  have hne2 : (requestRaw code r).kind ≠ kindSample := (by decide : kindRequest ≠ kindSample)
  have hne3 : (requestRaw code r).kind ≠ kindCompletion := (by decide : kindRequest ≠ kindCompletion)
  rw [commandOfCell, if_neg hne1, if_neg hne2, if_neg hne3, if_pos (show (requestRaw code r).kind = kindRequest from rfl),
    requestOfRaw_requestRaw]

/-- The command of a code and its cell is a request that carries them (01 1.8). -/
theorem requestOf_requestCommand (code : Word16) (r : ReqCell) : requestOf (requestCommand code r) = some (code, r) := by
  have hcode : BitVec.ofNat 16 code.toNat = code := BitVec.ofNat_toNat ..
  unfold requestCommand
  split
  case h_24 => rfl
  all_goals
    rename_i hc
    rw [hc] at hcode
    rw [← hcode]
    rfl

theorem requestCommand_outside {code : Word16} (r : ReqCell) (h : ¬(1 ≤ code.toNat ∧ code.toNat ≤ 23)) :
    requestCommand code r = .unknownRequest code r := by
  unfold requestCommand
  split
  case h_24 => rfl
  all_goals omega

/-- A well-formed request is the command of its code: UNKNOWN_REQUEST carries no code of the table (R30). -/
theorem requestCommand_of_requestOf {i : Instr} {code : Word16} {r : ReqCell} (h : requestOf i = some (code, r))
    (hw : wellFormed i = true) : requestCommand code r = i := by
  unfold requestOf at h
  split at h
  case h_24 x y =>
    cases h
    refine requestCommand_outside r fun hc => ?_
    simp [wellFormed, illFormed, hc] at hw
  all_goals cases h <;> rfl

theorem cellOf_cases {i : Instr} {c : RawCell} (h : cellOf i = some c) :
    (∃ x, i = .cycleEnd x ∧ c = cycleEndRaw x) ∨ (∃ x, i = .sample x ∧ c = sampleRaw x)
    ∨ (∃ x, i = .completion x ∧ c = completionRaw x) ∨ ∃ code r, requestOf i = some (code, r) ∧ c = requestRaw code r := by
  unfold cellOf at h
  split at h
  · exact .inl ⟨_, rfl, (Option.some.inj h).symm⟩
  · exact .inr (.inl ⟨_, rfl, (Option.some.inj h).symm⟩)
  · exact .inr (.inr (.inl ⟨_, rfl, (Option.some.inj h).symm⟩))
  · obtain ⟨⟨code, r⟩, hq, hc⟩ := Option.map_eq_some_iff.mp h
    exact .inr (.inr (.inr ⟨code, r, hq, hc.symm⟩))

/-- Settles O15: by the four kinds of cell that have an owner. -/
theorem cellsSpellTheirCommands : Obligations.CellsSpellTheirCommands := by
  intro i c hw hc
  obtain ⟨x, rfl, rfl⟩ | ⟨x, rfl, rfl⟩ | ⟨x, rfl, rfl⟩ | ⟨code, r, hq, rfl⟩ := cellOf_cases hc
  · exact commandOfCell_cycleEnd x
  · exact commandOfCell_sample x
  · exact commandOfCell_completion x
  · rw [commandOfCell_request, requestCommand_of_requestOf hq hw]

/-! ## The tests of R4 -/

/-- Settles O16: the rows of R4 in their order. -/
theorem cellsTakenByTheTestsOfR4 : Obligations.CellsTakenByTheTestsOfR4 := by
  intro c s
  have hexec : exec (.cellDiscarded c) s = .next (takeRaw c s) := rfl
  rw [hexec, takeRaw, verdict]
  by_cases hcheck : c.check ≠ checkOf c
  · rw [if_pos hcheck, if_pos hcheck]
    rfl
  rw [if_neg hcheck, if_neg hcheck]
  by_cases hend : c.kind = kindCycleEnd ∧ c.src = 0
  · rw [if_pos hend, if_pos (show c.kind = 2 ∧ c.src = 0 from hend)]
    rfl
  rw [if_neg hend, if_neg (show ¬(c.kind = 2 ∧ c.src = 0) from hend)]
  by_cases hsrc : c.src = 0
  · rw [if_pos hsrc, if_pos hsrc]
    rfl
  rw [if_neg hsrc, if_neg hsrc]
  by_cases hopen : s.lif.openCycle = false
  · rw [if_pos hopen, if_pos hopen]
    rfl
  rw [if_neg hopen, if_neg hopen]
  by_cases hdest : c.dest ≠ 0 ∧ c.dest ≠ 63
  · rw [if_pos hdest, if_pos hdest]
    rfl
  rw [if_neg hdest, if_neg hdest]
  by_cases hsample : c.kind = kindSample
  · rw [if_pos hsample, if_pos (show c.kind = 3 from hsample)]
    rfl
  rw [if_neg hsample, if_neg (show ¬c.kind = 3 from hsample)]
  by_cases hrequest : c.kind = kindRequest
  · rw [if_pos hrequest, if_pos (show c.kind = 7 from hrequest), exec_of_requestOf s (requestOf_requestCommand ..)]
  rw [if_neg hrequest, if_neg (show ¬c.kind = 7 from hrequest)]
  by_cases hcompletion : c.kind = kindCompletion
  · rw [if_pos hcompletion, if_pos (show c.kind = 6 from hcompletion)]
    rfl
  rw [if_neg hcompletion, if_neg (show ¬c.kind = 6 from hcompletion)]
  rfl

end Sys2Proof.Machine
end

section
/-! LIF's command queue (R9): how a COMMAND is taken. -/

namespace Sys2Proof.Machine

/-! ## The cells of the queue -/

theorem coalesce_command (c d : CommandCell) :
    coalesce c (.command d) = .command (if d.output = c.output then { c with dest := d.dest } else d) := by
  simp only [coalesce]
  split <;> rfl

theorem isTimed_coalesce (c : CommandCell) (q : QueuedCell) : isTimed (coalesce c q) = isTimed q := by
  cases q with
  | timed d => rfl
  | command d =>
    rw [coalesce_command]
    rfl

theorem coalesce_timed_of_isTimed {c : CommandCell} {q : QueuedCell} (h : isTimed q = true) : coalesce c q = q := by
  cases q with
  | timed d => rfl
  | command d => cases h

theorem filter_isTimed_map_coalesce (c : CommandCell) (l : List QueuedCell) :
    (l.map (coalesce c)).filter isTimed = l.filter isTimed := by
  have hp : isTimed ∘ coalesce c = isTimed := funext (isTimed_coalesce c)
  rw [List.filter_map, hp]
  exact (List.map_congr_left fun q hq => coalesce_timed_of_isTimed (List.mem_filter.mp hq).2).trans (List.map_id _)

theorem any_isCommandOf_iff (o : OutIx) (l : List QueuedCell) :
    l.any (isCommandOf o) = true ↔ ∃ d, QueuedCell.command d ∈ l ∧ d.output = o := by
  rw [List.any_eq_true]
  constructor
  · rintro ⟨q, hq, ho⟩
    cases q with
    | timed d => cases ho
    | command d => exact ⟨d, hq, beq_iff_eq.mp ho⟩
  · rintro ⟨d, hd, ho⟩
    exact ⟨_, hd, beq_iff_eq.mpr ho⟩

/-! ## The deferred set -/

/-- In a set of one cell for each output the cell of the same output is replaced in place. -/
theorem putDeferred_of_mem {c : CommandCell} {l : List CommandCell} (hsorted : l.Pairwise fun d e => d.output < e.output)
    (hmem : ∃ d ∈ l, d.output = c.output) : putDeferred c l = l.map fun d => if d.output = c.output then c else d := by
  induction l with
  | nil =>
    obtain ⟨d, hd, -⟩ := hmem
    cases hd
  | cons d ds ih =>
    obtain ⟨hfirst, hrest⟩ := List.pairwise_cons.mp hsorted
    by_cases hd : d.output = c.output
    · have hkeep : (ds.map fun e => if e.output = c.output then c else e) = ds :=
        (List.map_congr_left fun e he => if_neg (ne_of_gt (hd ▸ hfirst e he))).trans (List.map_id _)
      rw [putDeferred, if_pos hd, List.map_cons, if_pos hd, hkeep]
    · obtain ⟨e, he, heo⟩ := hmem
      have heds : e ∈ ds := (List.mem_cons.mp he).resolve_left fun h => hd (h ▸ heo)
      have hlt : ¬c.output < d.output := not_lt_of_gt (heo ▸ hfirst e heds)
      rw [putDeferred, if_neg hd, if_neg hlt, List.map_cons, if_neg hd, ih hrest ⟨e, heds, heo⟩]

theorem putDeferred_perm {c : CommandCell} {l : List CommandCell} (h : ∀ d ∈ l, d.output ≠ c.output) :
    (putDeferred c l).Perm (c :: l) := by
  induction l with
  | nil => exact .refl _
  | cons d ds ih =>
    rw [putDeferred, if_neg (h d List.mem_cons_self)]
    split
    · exact .refl _
    · exact ((ih fun e he => h e (List.mem_cons_of_mem _ he)).cons d).trans (.swap ..)

/-! ## The four rows of R9 -/

theorem takeCommand_queued {c : CommandCell} {l : Lif} (h : ∃ d, QueuedCell.command d ∈ l.commandQueue ∧ d.output = c.output) :
    takeCommand c l = { l with commandQueue := l.commandQueue.map (coalesce c) } :=
  if_pos ((any_isCommandOf_iff ..).mpr h)

theorem takeCommand_deferred {c : CommandCell} {l : Lif} (hq : ∀ d, QueuedCell.command d ∈ l.commandQueue → d.output ≠ c.output)
    (hd : ∃ d ∈ l.deferredSet, d.output = c.output) :
    takeCommand c l = { l with deferredSet := putDeferred c l.deferredSet } := by
  have hq' : ¬l.commandQueue.any (isCommandOf c.output) = true := fun h =>
    let ⟨d, hmem, ho⟩ := (any_isCommandOf_iff ..).mp h
    hq d hmem ho
  have hd' : l.deferredSet.any (fun d => d.output == c.output) = true :=
    let ⟨d, hmem, ho⟩ := hd
    List.any_eq_true.mpr ⟨d, hmem, beq_iff_eq.mpr ho⟩
  rw [takeCommand, if_neg hq', if_pos hd']

theorem takeCommand_new {c : CommandCell} {l : Lif} (hq : ∀ d, QueuedCell.command d ∈ l.commandQueue → d.output ≠ c.output)
    (hd : ∀ d ∈ l.deferredSet, d.output ≠ c.output) :
    takeCommand c l = if l.commandQueue.length < 32 then { l with commandQueue := l.commandQueue ++ [.command c] }
      else { l with deferredSet := putDeferred c l.deferredSet } := by
  have hq' : ¬l.commandQueue.any (isCommandOf c.output) = true := fun h =>
    let ⟨d, hmem, ho⟩ := (any_isCommandOf_iff ..).mp h
    hq d hmem ho
  have hd' : ¬l.deferredSet.any (fun d => d.output == c.output) = true := fun h =>
    let ⟨d, hmem, ho⟩ := List.any_eq_true.mp h
    hd d hmem (beq_iff_eq.mp ho)
  rw [takeCommand, if_neg hq', if_neg hd']

theorem takeCommand_timed (c : CommandCell) (l : Lif) :
    (takeCommand c l).commandQueue.filter isTimed = l.commandQueue.filter isTimed := by
  unfold takeCommand
  split
  · exact filter_isTimed_map_coalesce c _
  · split
    · rfl
    · split
      · rw [List.filter_append]
        exact List.append_nil _
      · rfl

theorem takeCommand_carryList (c : CommandCell) (l : Lif) : (takeCommand c l).carryList = l.carryList := by
  rw [takeCommand_eq]

/-- Settles O20: the rows of R9, one lemma each. -/
theorem commandQueueTakesCommands : Obligations.CommandQueueTakesCommands := by
  intro c l
  refine ⟨fun hq => ?_, fun hq => ⟨fun hsorted hd => ?_, fun hd => ⟨fun hroom => ?_, fun hfull => ?_⟩⟩,
    takeCommand_timed c l, takeCommand_carryList c l⟩
  · rw [takeCommand_queued hq]
    refine ⟨List.length_map .., fun i d hi => ?_, fun i d hi => ?_, rfl⟩
    · rw [List.getElem?_map, hi, Option.map_some, coalesce_command]
    · rw [List.getElem?_map, hi]
      rfl
  · rw [takeCommand_deferred hq hd]
    exact ⟨rfl, putDeferred_of_mem hsorted hd⟩
  · rw [takeCommand_new hq hd, if_pos hroom]
  · rw [takeCommand_new hq hd, if_neg (Nat.not_lt.mpr hfull)]
    exact ⟨rfl, putDeferred_perm hd⟩

end Sys2Proof.Machine
end

section
/-! The gate of the requests (R30 to R32). -/

namespace Sys2Proof.Machine

/-! ## An accepted request -/

/-- An accepted request is answered by the rule of its code. -/
theorem exec_accepted {c : Instr} {code : Word16} {r : ReqCell} {s : State} (hc : requestOf c = some (code, r))
    (ha : accepted code r s) : exec c s = .next (answer r (decideByCode code.toNat r s)) := by
  rw [exec_of_requestOf s hc, serve_accepted _ ha]

theorem exec_refused {c : Instr} {code : Word16} {r : ReqCell} {s : State} (hc : requestOf c = some (code, r))
    (ha : accepted code r s) {status : ReplyStatus} (hd : decideByCode code.toNat r s = refuse status s) :
    exec c s = .next (pushReply r.src r.tag status noData s) := by
  rw [exec_accepted hc ha, hd, answer_refuse]

theorem exec_taken {c : Instr} {code : Word16} {r : ReqCell} {s : State} (hc : requestOf c = some (code, r))
    (ha : accepted code r s) {data : State → List Byte} (hd : decideByCode code.toNat r s = taken data s) :
    exec c s = .next (pushReply r.src r.tag .ok (data s) s) := by
  rw [exec_accepted hc ha, hd, answer_taken]

/-! ## Line states (R32) -/

theorem lineTakesHolds_iff (s : State) : lineTakesHolds s = true ↔ s.mru.line = .run ∨ s.mru.line = .draining := by
  unfold lineTakesHolds
  cases s.mru.line <;> decide

theorem inHoldLines_of (d : Decision) {s : State} (h : s.mru.line = .run ∨ s.mru.line = .draining) : inHoldLines s d = d :=
  if_pos ((lineTakesHolds_iff s).mpr h)

theorem inHoldLines_outside (d : Decision) {s : State} (h : ¬(s.mru.line = .run ∨ s.mru.line = .draining)) :
    inHoldLines s d = refuse .state s :=
  if_neg fun hl => h ((lineTakesHolds_iff s).mp hl)

theorem decideStart_outside (r : ReqCell) {s : State} (h : ¬takenIn 7 s) : decideStart r s = refuse .state s := by
  unfold decideStart
  split
  next hl => exact absurd (.inl hl) h
  next hl => exact absurd (.inr hl) h
  all_goals rfl

theorem decideStop_outside (r : ReqCell) {s : State} (h : ¬takenIn 8 s) : decideStop r s = refuse .state s := by
  unfold decideStop
  split
  next hl => exact absurd (.inl hl) h
  next hl => exact absurd (.inr hl) h
  all_goals rfl

theorem decideEnterMaintenance_outside (r : ReqCell) {s : State} (h : ¬takenIn 15 s) :
    decideEnterMaintenance r s = refuse .state s := by
  unfold decideEnterMaintenance
  split
  next hl => exact absurd (.inl hl) h
  next hl => exact absurd (.inr hl) h
  all_goals rfl

theorem decideLeaveMaintenance_outside (r : ReqCell) {s : State} (h : ¬takenIn 16 s) :
    decideLeaveMaintenance r s = refuse .state s := by
  unfold decideLeaveMaintenance
  split
  next hl => exact absurd (.inr hl) h
  next hl => exact absurd (.inl hl) h
  all_goals rfl

theorem decideStart_run (r : ReqCell) {s : State} (h : s.mru.line = .run) : decideStart r s = taken lineData s := by
  rw [decideStart, h]

theorem decideStop_draining (r : ReqCell) {s : State} (h : s.mru.line = .draining) : decideStop r s = taken lineData s := by
  rw [decideStop, h]

theorem decideEnterMaintenance_maintenance (r : ReqCell) {s : State} (h : s.mru.line = .maintenance) : decideEnterMaintenance r s = taken lineData s := by
  rw [decideEnterMaintenance, h]

theorem decideLeaveMaintenance_standby (r : ReqCell) {s : State} (h : s.mru.line = .standby) : decideLeaveMaintenance r s = taken lineData s := by
  rw [decideLeaveMaintenance, h]

theorem restartTaken_iff (s : State) : restartTaken s = true ↔ takenIn 18 s := by
  unfold restartTaken takenIn
  cases s.mru.line <;> simp

theorem decideRestart_outside (r : ReqCell) {s : State} (h : ¬takenIn 18 s) : decideRestart r s = refuse .state s :=
  if_neg fun ht => h ((restartTaken_iff s).mp ht)

/-- A request in a line state that R32 does not name for it is refused with STATE, whatever its operands. -/
theorem decideByCode_outside {code : Nat} {r : ReqCell} {s : State} (h : ¬takenIn code s) :
    decideByCode code r s = refuse .state s := by
  unfold takenIn at h
  split at h
  · exact if_pos (not_not.mp h)
  · exact if_pos (not_not.mp h)
  · exact if_pos (not_not.mp h)
  · exact if_pos (not_not.mp h)
  · exact decideStart_outside r h
  · exact decideStop_outside r h
  · exact inHoldLines_outside _ h
  · exact inHoldLines_outside _ h
  · exact inHoldLines_outside _ h
  · exact inHoldLines_outside _ h
  · exact decideEnterMaintenance_outside r h
  · exact decideLeaveMaintenance_outside r h
  · exact if_pos h
  · exact decideRestart_outside r h
  · exact absurd trivial h

/-! ## Sources (R31) -/

theorem maySend_outside {code : Word16} {src : Byte} {s : State} (hline : s.mru.configured.line = true)
    (hsrc : src ≠ controllerAddress s.tbs)
    (hpanel : ¬(src = panelAddress s.tbs ∧ panelAddress s.tbs ≠ 0 ∧ (code = 4 ∨ code = 9 ∨ code = 19 ∨ code = 20))) :
    maySend (sourceOf s src) code = false := by
  unfold sourceOf
  rw [if_neg (by rw [hline]; decide), if_neg hsrc]
  split
  next hp =>
    refine Bool.eq_false_iff.mpr fun h => hpanel ⟨hp.1, hp.2, ?_⟩
    simpa only [maySend, Bool.or_eq_true, beq_iff_eq, or_assoc] using h
  next => rfl

/-! ## Index operands -/

theorem groupOfCode_outside {n : Nat} (h : 5 < n) : groupOfCode n = none := by
  unfold groupOfCode
  split
  case h_7 => rfl
  all_goals omega

/-- Settles O23: the rows of R30 to R32 in turn. -/
theorem requestsPassTheGate : Obligations.RequestsPassTheGate := by
  refine ⟨fun c code r s hc hv hroom => ⟨fun hcode => ?_, fun h1 h23 hline hsrc hpanel => ?_⟩,
    fun c code r s hc ha ht => exec_refused hc ha (decideByCode_outside ht), fun r s => ⟨?_, ?_, ?_, ?_⟩, fun r s => ⟨?_, ?_, ?_, ?_, ?_, ?_⟩⟩
  · rw [exec_of_requestOf s hc, serve_unknown _ hv hroom hcode]
  · have hcode : ¬(code = 0 ∨ 23 < code.toNat) := by
      rintro (rfl | h)
      · exact absurd h1 (by decide)
      · omega
    rw [exec_of_requestOf s hc, serve_notPermitted _ hv hroom hcode (maySend_outside hline hsrc hpanel)]
  · exact fun ha hl => exec_taken (c := .start r) rfl ha (decideStart_run r hl)
  · exact fun ha hl => exec_taken (c := .stop r) rfl ha (decideStop_draining r hl)
  · exact fun ha hl => exec_taken (c := .enterMaintenance r) rfl ha (decideEnterMaintenance_maintenance r hl)
  · exact fun ha hl => exec_taken (c := .leaveMaintenance r) rfl ha (decideLeaveMaintenance_standby r hl)
  · exact fun ha hn => exec_refused (c := .selectNext r) rfl ha (if_pos hn)
  · exact fun ha hn => exec_refused (c := .removeRecipe r) rfl ha (if_pos hn)
  · intro ha hl hn
    have hn' : reqByte r 6 < 1 ∨ 23 < reqByte r 6 ∨ reqByte r 6 = 20 ∨ reqByte r 6 = 21 := hn.imp_left Nat.lt_one_iff.mpr
    exact exec_refused (c := .setOutput r) rfl ha ((if_neg (not_not.mpr hl)).trans (if_pos hn'))
  · exact fun ha hn => exec_refused (c := .ackAlarm r) rfl ha (if_pos hn)
  · intro ha hn
    refine exec_refused (c := .forceCutoff r) rfl ha ?_
    show decideForceCutoff r s = _
    rw [decideForceCutoff, groupOfCode_outside hn]
  · intro ha hn
    refine exec_refused (c := .clearCutoff r) rfl ha ?_
    show decideClearCutoff r s = _
    rw [decideClearCutoff, groupOfCode_outside hn]

end Sys2Proof.Machine
end

section
/-! The table requests that change no committed table (04): STAGE, READ, and the refusals of COMMIT. -/

namespace Sys2Proof.Machine

/-! ## The fields a request names (R46) -/

theorem tableOfCode_none {n : Nat} (h : 8 ≤ n) : tableOfCode n = none := by
  unfold tableOfCode
  split
  case h_9 => rfl
  all_goals omega

/-- A field that a request names has the number and the items of its entry. -/
theorem findField_spec {k : TableKind} {item field : Nat} {f : FieldSpec} (h : findField k item field = some f) :
    f ∈ tableFields k ∧ f.field = field ∧ f.firstItem ≤ item ∧ item ≤ f.lastItem := by
  have hp := List.find?_some h
  simp only [Bool.and_eq_true, beq_iff_eq, decide_eq_true_eq] at hp
  exact ⟨List.mem_of_find?_eq_some h, hp.1.1, hp.1.2, hp.2⟩

/-- ALARM has no items but 0 (R177). -/
theorem findField_alarm {item field : Nat} {f : FieldSpec} (h : findField .alarm item field = some f) : item = 0 := by
  obtain ⟨hmem, -, -, hlast⟩ := findField_spec h
  have hzero : ∀ g ∈ alarmFields, g.lastItem = 0 := by decide
  exact Nat.le_zero.mp (hzero f hmem ▸ hlast)

/-! ## STAGE (R47) -/

theorem stageField_index (b : Option StagingBuffer) (index item field : Nat) (v : Int) :
    (stageField b index item field v).1.index = index := by
  unfold stageField
  split
  · rfl
  · split <;> rfl

theorem stageField_replaced (b : Option StagingBuffer) (index item field : Nat) (v : Int) :
    (stageField b index item field v).2 = b.any fun old => old.index != index := by
  cases b with
  | none => rfl
  | some b =>
    simp only [stageField, Option.any_some]
    split
    next h => rw [h, bne_self_eq_false]
    next h => exact (bne_iff_ne.mpr h).symm

theorem stageField_same (b : Option StagingBuffer) (index item field : Nat) (v : Int) :
    lookupField (stageField b index item field v).1.fields item field = some v := by
  have hone : lookupField [(item, field, v)] item field = some v := if_pos ⟨rfl, rfl⟩
  cases b with
  | none => exact hone
  | some b =>
    simp only [stageField]
    split
    · exact lookupField_putField_same ..
    · exact hone

theorem stageField_other (b : Option StagingBuffer) (index : Nat) {item field i f : Nat} (v : Int) (h : ¬(i = item ∧ f = field)) :
    lookupField (stageField b index item field v).1.fields i f =
      b.bind fun old => if old.index = index then lookupField old.fields i f else none := by
  have h' : ¬(item = i ∧ field = f) := fun ⟨hi, hf⟩ => h ⟨hi.symm, hf.symm⟩
  have hone : lookupField [(item, field, v)] i f = none := if_neg h'
  cases b with
  | none => exact hone
  | some b =>
    simp only [stageField, Option.bind_some]
    split
    · exact lookupField_putField_other _ _ h'
    · exact hone

theorem decideStage_badIndex {r : ReqCell} {s : State} (h : tableOfCode (reqByte r 6) = none
    ∨ ∃ k, tableOfCode (reqByte r 6) = some k
      ∧ (indexCount k ≤ reqByte r 7 ∨ findField k (reqByte r 8) (reqByte r 9) = none
        ∨ ∃ f, findField k (reqByte r 8) (reqByte r 9) = some f ∧ f.kind = .readOnly)) :
    decideStage r s = refuse .badIndex s := by
  unfold decideStage
  obtain ht | ⟨k, hk, h⟩ := h
  · rw [ht]
  · simp only [hk]
    cases hf : findField k (reqByte r 8) (reqByte r 9) with
    | none => rfl
    | some f =>
      refine if_pos ?_
      obtain hi | hn | ⟨g, hg, hr⟩ := h
      · exact .inr hi
      · rw [hf] at hn
        cases hn
      · rw [hf] at hg
        cases hg
        exact .inl hr

section
variable {r : ReqCell} {s : State} {k : TableKind} {f : FieldSpec}

theorem decideStage_writable (hk : tableOfCode (reqByte r 6) = some k) (hf : findField k (reqByte r 8) (reqByte r 9) = some f)
    (hw : f.kind ≠ .readOnly) (hi : reqByte r 7 < indexCount k) :
    decideStage r s = if badCode f (reqValue r) then refuse .badValue s
      else
        let x := stageField (stagingOf s.mru.staging k) (reqByte r 7) (reqByte r 8) (reqByte r 9) (reqValue r)
        { status := if x.2 then .stageReplaced else .ok, state := setStaging s k (some x.1), tasks := [],
          data := fun s => replyData ([lineByte s, (6, tableCode k), (7, reqByte r 7)] ++ wordAt 8 x.1.fields.length) } := by
  have hok : ¬(f.kind = .readOnly ∨ indexCount k ≤ reqByte r 7) := fun h => h.elim hw (Nat.not_le.mpr hi)
  simp only [decideStage, hk, hf, if_neg hok]

end

theorem badCode_iff (f : FieldSpec) (v : Int) : badCode f v = true ↔ f.kind = .code ∧ (v < f.lo ∨ f.hi < v) := by
  simp only [badCode, Bool.and_eq_true, Bool.or_eq_true, beq_iff_eq, decide_eq_true_eq]

/-- Settles O37: the field goes into the buffer by `stageField`; what names no writable field is refused before. -/
theorem stageCollectsFields : Obligations.StageCollectsFields := by
  intro r s ha
  refine ⟨fun k f hk hf hw hi => ⟨fun hcode hv => ?_, fun hv => ?_⟩, fun h => ?_⟩
  · refine exec_refused (c := .stage r) rfl ha ((decideStage_writable hk hf hw hi).trans (if_pos ?_))
    exact (badCode_iff ..).mpr ⟨hcode, hv⟩
  · have hgood : ¬badCode f (reqValue r) = true := fun hb => by
      obtain ⟨hcode, hout⟩ := (badCode_iff ..).mp hb
      obtain ⟨hlo, hhi⟩ := hv hcode
      omega
    have hd := (decideStage_writable (s := s) hk hf hw hi).trans (if_neg hgood)
    refine ⟨_, (exec_accepted (c := .stage r) rfl ha).trans ?_, stageField_index .., stageField_same ..,
      fun item field h => stageField_other _ _ _ h⟩
    rw [show decideByCode (1 : Word16).toNat r s = decideStage r s from rfl, hd]
    simp only [answer, run_nil, lineByte, setStaging_mru_line, stageField_replaced, tableCode_of_tableOfCode hk]
  · exact exec_refused (c := .stage r) rfl ha (decideStage_badIndex h)

/-! ## READ (R62, R63) -/

section
variable {r : ReqCell} {s : State}

theorem exec_read_refused (ha : accepted 4 r s) {status : ReplyStatus}
    (h : readResult s (reqByte r 6) (reqByte r 7) (reqByte r 8) (reqByte r 9) (reqByte r 10) = .refused status) :
    exec (.read r) s = .next (pushReply r.src r.tag status noData s) := by
  refine exec_refused (c := .read r) rfl ha ?_
  show decideRead r s = _
  rw [decideRead, h]

theorem exec_read_found (ha : accepted 4 r s) {v : Reading}
    (h : readResult s (reqByte r 6) (reqByte r 7) (reqByte r 8) (reqByte r 9) (reqByte r 10) = .found v) :
    exec (.read r) s = .next (pushReply r.src r.tag .ok
      (replyData ([(5, reqByte r 6), (6, reqByte r 7), (7, reqByte r 8), (8, reqByte r 9), (9, if v.isNone then 1 else 0)]
        ++ valueBytes (v.getD 0))) s) := by
  refine exec_taken (c := .read r) rfl ha (data := fun _ => _) ?_
  show decideRead r s = _
  rw [decideRead, h]

end

theorem readResult_writable (s : State) {code index item field : Nat} (view : Nat) {k : TableKind} {f : FieldSpec}
    (hk : tableOfCode code = some k) (hf : findField k item field = some f) (hi : index < indexCount k) :
    readResult s code index item field view = readTable s k index item view f := by
  simp only [readResult, hk, hf, if_pos hi]

section
variable {s : State} {code index item field view : Nat}

theorem readResult_readOnly (h : 8 ≤ code) {v : Reading} (hv : readOnlyField s code index item field = .found v) :
    readResult s code index item field 0 = .found v := by
  simp only [readResult, tableOfCode_none h, hv, if_pos]

theorem readResult_readOnly_view (h : 8 ≤ code) (hview : view ≠ 0) {v : Reading}
    (hv : readOnlyField s code index item field = .found v) :
    readResult s code index item field view = .refused .badValue := by
  simp only [readResult, tableOfCode_none h, hv, if_neg hview]

theorem readResult_readOnly_refused (h : 8 ≤ code) {status : ReplyStatus}
    (hv : readOnlyField s code index item field = .refused status) :
    readResult s code index item field view = .refused status := by
  simp only [readResult, tableOfCode_none h, hv]

end

theorem readStaged_of_index (s : State) (k : TableKind) {index : Nat} (item field : Nat) {b : StagingBuffer}
    (hb : stagingOf s.mru.staging k = some b) (hi : b.index = index) :
    readStaged s k index item field = lookupField b.fields item field := by
  rw [readStaged, hb]
  exact if_pos hi

theorem readStaged_none (s : State) (k : TableKind) {index : Nat} (item field : Nat)
    (h : ∀ b, stagingOf s.mru.staging k = some b → b.index ≠ index) : readStaged s k index item field = none := by
  unfold readStaged
  split
  next b hb => exact if_neg (h b hb)
  next => rfl

theorem alarmFieldMap_cls (e : AlarmEntry) : fieldOf (alarmFieldMap e) 0 1 = if e.cls = .hard then 1 else 0 := by
  cases h : e.cls <;> simp [alarmFieldMap, fieldOf, lookupField, h, alarmClassCode]

theorem alarmFieldMap_masked (e : AlarmEntry) : fieldOf (alarmFieldMap e) 0 2 = if e.masked = true then 1 else 0 := by
  cases h : e.masked <;> simp [alarmFieldMap, fieldOf, lookupField, h]

/-- The committed copy of a field of ALARM, by its number (R177). -/
theorem readCommitted_alarm (s : State) (a : AlarmIx) {f : FieldSpec} (hw : f.kind ≠ .readOnly) :
    readCommitted s .alarm a.val 0 f = some (fieldOf (alarmFieldMap s.tbs.alarms[a]) 0 f.field) := by
  have ha : A a.val = a := Fin.ofNat_val_eq_self a
  rw [readCommitted, if_neg hw]
  simp only [committedFields, ha]

theorem readCommitted_recipe (s : State) (i : SlotIx) (item : Nat) {f : FieldSpec} (hw : f.kind ≠ .readOnly) :
    readCommitted s .recipe i.val item f = readBank (admitBank s.tbs.slots[i]) item f.field := by
  have hi : (Fin.ofNat 16 i.val : SlotIx) = i := Fin.ofNat_val_eq_self i
  simp only [readCommitted, hi, if_neg hw]

theorem fieldIn_refused {first : Nat} {fields : List Reading} {field : Nat} {status : ReplyStatus}
    (h : fieldIn first fields field = .refused status) : status = .badIndex := by
  unfold fieldIn at h
  split at h
  · cases h
  · exact (ReadResult.refused.inj h).symm

theorem fieldOfPlace_refused {α : Type} {read : α → List Reading} {count : Nat} {place : Option α} {field : Nat}
    {status : ReplyStatus} (h : fieldOfPlace read count place field = .refused status) : status = .badIndex := by
  unfold fieldOfPlace at h
  split at h
  · split at h
    · exact fieldIn_refused h
    · cases h
  · exact (ReadResult.refused.inj h).symm

theorem readHoldField_refused {x : Hld} {item field : Nat} {status : ReplyStatus}
    (h : readHoldField x item field = .refused status) : status = .badIndex := by
  unfold readHoldField at h
  split at h
  · exact fieldIn_refused h
  · split at h
    · cases h
    · split at h
      · split at h
        · exact fieldIn_refused h
        · cases h
      · exact (ReadResult.refused.inj h).symm

/-- The read-only tables refuse with BAD_INDEX alone (R46). -/
theorem readOnlyField_refused {s : State} {code index item field : Nat} {status : ReplyStatus}
    (h : readOnlyField s code index item field = .refused status) : status = .badIndex := by
  have ite_refused {p : Prop} [Decidable p] {x : ReadResult} (hx : x = .refused status → status = .badIndex)
      (hi : (if p then x else .refused .badIndex) = .refused status) : status = .badIndex := by
    split at hi
    · exact hx hi
    · exact (ReadResult.refused.inj hi).symm
  unfold readOnlyField at h
  split at h
  · exact ite_refused fieldOfPlace_refused h
  · exact ite_refused readHoldField_refused h
  · exact ite_refused fieldOfPlace_refused h
  · exact ite_refused fieldIn_refused h
  · exact ite_refused fieldIn_refused h
  · split at h
    · exact fieldIn_refused h
    · exact ite_refused fieldIn_refused h
  · exact ite_refused fieldIn_refused h
  · exact (ReadResult.refused.inj h).symm

theorem readOnlyField_unknown (s : State) {code : Nat} (index item field : Nat) (h : 14 < code) :
    readOnlyField s code index item field = .refused .badIndex := by
  unfold readOnlyField
  split
  case h_8 => rfl
  all_goals omega

/-- The first nine fields of COUNTERS (R63). -/
def countersRead (s : State) : List Nat :=
  [s.lif.cycle.toNat, s.lif.checkErrors, s.lif.lateCells, s.lif.lastBlockErrors, s.mru.dropped, s.flx.lateEdges,
    s.pot.ignored, s.btk.nextNumber.toNat, s.mru.nextSlot.val]

theorem readCounters_eq (s : State) : readCounters s = (countersRead s).map here ++ [here (tankCode s.flx.tank)] := rfl

theorem readOnlyField_counters (s : State) {field v : Nat} (hv : (countersRead s)[field - 1]? = some v) (h1 : 1 ≤ field) :
    readOnlyField s 14 0 0 field = .found (some v) := by
  obtain ⟨hlt, -⟩ := List.getElem?_eq_some_iff.mp hv
  have hread : (readCounters s)[field - 1]? = some (here v) := by
    rw [readCounters_eq, List.getElem?_append_left (by rw [List.length_map]; exact hlt), List.getElem?_map, hv]
    rfl
  simp only [readOnlyField, fieldIn, if_pos h1, hread]
  rfl

theorem readOnlyField_signals (s : State) (i : SigIx) (field : Nat) :
    readOnlyField s 11 0 (i.val + 1) field = fieldIn 1 (readSignal s.sig[i]) field := by
  have hi : S (i.val + 1) = i := Fin.ofNat_val_eq_self i
  simp only [readOnlyField, hi]
  exact if_pos ⟨trivial, Nat.le_add_left .., i.isLt⟩

/-- Settles O39: what a READ finds, table by table. -/
theorem readChangesNothing : Obligations.ReadChangesNothing := by
  intro r s ha
  dsimp only
  have found {v : Reading} (h : readResult s (reqByte r 6) (reqByte r 7) (reqByte r 8) (reqByte r 9) (reqByte r 10) = .found v) :=
    exec_read_found ha h
  refine ⟨?_, fun k f hk hf hw hi => ?_, ?_, ?_, ?_, ?_⟩
  · cases h : readResult s (reqByte r 6) (reqByte r 7) (reqByte r 8) (reqByte r 9) (reqByte r 10) with
    | found v => exact ⟨_, _, exec_read_found ha h⟩
    | refused status => exact ⟨_, _, exec_read_refused ha h⟩
  · obtain ⟨-, hfield, -, -⟩ := findField_spec hf
    have hres := readResult_writable s (reqByte r 10) hk hf hi
    have hro : ¬(k = .recipe ∧ f.kind = .readOnly) := fun h => hw h.2
    refine ⟨fun hview b hb hx => found ?_, fun hview hb => found ?_, fun hview => ?_, fun hrec i hslot => ?_, fun hrec hview => ?_,
      fun hview => ?_⟩
    · rw [hres, hview]
      simp only [readTable, if_neg hro, hfield, readStaged_of_index s k _ _ hb hx]
    · rw [hres, hview]
      simp only [readTable, if_neg hro, readStaged_none s k _ _ hb]
    · have hcom : readResult s (reqByte r 6) (reqByte r 7) (reqByte r 8) (reqByte r 9) (reqByte r 10)
          = .found (readCommitted s k (reqByte r 7) (reqByte r 8) f) := by rw [hres, hview]; rfl
      refine ⟨?_, ?_, ?_, ?_, ?_, ?_, ?_, ?_⟩
      case refine_7 =>
        rintro rfl a hindex
        rw [findField_alarm hf, ← hindex, readCommitted_alarm s a hw, hfield] at hcom
        rw [← hindex, findField_alarm hf] at found ⊢
        refine ⟨fun h => ?_, fun h => ?_, fun h => ?_, fun h => ?_⟩ <;> rw [h] at hcom found ⊢ <;> refine found (hcom.trans ?_)
        · rw [alarmFieldMap_cls]
        · rw [alarmFieldMap_masked]
        · rfl
        · rfl
      case refine_8 =>
        rintro rfl i hindex
        rw [← hindex, readCommitted_recipe s i _ hw, hfield] at hcom
        rw [← hindex] at found ⊢
        exact found hcom
      all_goals
        rintro rfl
        rw [← hfield]
        rw [← hfield] at hcom found
        exact found hcom
    · subst hrec
      have hix : (Fin.ofNat 16 i.val : SlotIx) = i := Fin.ofNat_val_eq_self i
      refine ⟨fun hview => found ?_, fun hview => found ?_⟩
      · rw [hres, hview, ← hslot, ← hfield]
        simp only [readTable, hix]
        exact if_pos ⟨trivial, hw⟩
      · rw [hres, hview, ← hslot, ← hfield]
        simp only [readTable, hix]
        exact if_pos ⟨trivial, hw⟩
    · have hno : ¬(k = .recipe ∧ f.kind ≠ .readOnly) := fun h => hrec h.1
      refine exec_read_refused ha ?_
      obtain hview | hview := hview <;> rw [hres, hview] <;> exact if_neg hno
    · refine exec_read_refused ha (hres.trans ?_)
      unfold readTable
      dsimp only
      split
      case h_5 => rfl
      all_goals omega
  · intro hcode hindex hitem hview v hv h1
    refine found ?_
    rw [hcode, hindex, hitem, hview]
    exact readResult_readOnly (by decide) (readOnlyField_counters s hv h1)
  · intro hcode hindex hview i hitem
    have hres {v : Reading} (h : fieldIn 1 (readSignal s.sig[i]) (reqByte r 9) = .found v) :
        readResult s (reqByte r 6) (reqByte r 7) (reqByte r 8) (reqByte r 9) (reqByte r 10) = .found v := by
      rw [hcode, hindex, hitem, hview]
      exact readResult_readOnly (by decide) ((readOnlyField_signals s i _).trans h)
    refine ⟨fun h => ?_, fun h => ?_, fun h => ?_⟩ <;> rw [h] at hres found ⊢ <;> exact found (hres rfl)
  · intro hlo _ hview
    cases h : readOnlyField s (reqByte r 6) (reqByte r 7) (reqByte r 8) (reqByte r 9) with
    | found v => exact .inr (exec_read_refused ha (readResult_readOnly_view hlo hview h))
    | refused status =>
      cases readOnlyField_refused h
      exact .inl (exec_read_refused ha (readResult_readOnly_refused hlo h))
  · intro hcode
    exact exec_read_refused ha (readResult_readOnly_refused (by omega) (readOnlyField_unknown _ _ _ _ hcode))

/-! ## The refusals of COMMIT (R49, R51) -/

theorem lineRuns_iff (l : LineState) : lineRuns l = true ↔ l = .run ∨ l = .draining := by
  simp only [lineRuns, Bool.or_eq_true, beq_iff_eq]

section
variable {r : ReqCell} {s : State} {k : TableKind}

theorem decideCommit_forbidden (hk : tableOfCode (reqByte r 6) = some k) (hi : reqByte r 7 < indexCount k) {status : ReplyStatus}
    (hp : permission s.mru k = some status) : decideCommit r s = refuse status s := by
  simp only [decideCommit, hk, if_neg (Nat.not_le.mpr hi), hp]

theorem decideCommit_permitted (hk : tableOfCode (reqByte r 6) = some k) (hi : reqByte r 7 < indexCount k)
    (hp : permission s.mru k = none) : decideCommit r s = commitStaged k (reqByte r 7) s := by
  simp only [decideCommit, hk, if_neg (Nat.not_le.mpr hi), hp]

end

theorem permission_locked {m : Mru} (hl : m.limitsLock = true) (hm : m.line ≠ .maintenance) : permission m .limits = some .locked :=
  if_pos (by rw [hl, Bool.true_and]; exact bne_iff_ne.mpr hm)

theorem permission_limits_runs {m : Mru} (hl : m.limitsLock = false) (hr : m.line = .run ∨ m.line = .draining) :
    permission m .limits = some .state := by
  rw [permission, if_neg (by rw [hl]; exact Bool.false_ne_true), if_pos ((lineRuns_iff _).mpr hr)]

theorem permission_runs {m : Mru} {k : TableKind} (hr : m.line = .run ∨ m.line = .draining) (h1 : k ≠ .limits) (h2 : k ≠ .tuning)
    (h3 : k ≠ .recipe) : permission m k = some .state := by
  have hl := (lineRuns_iff _).mpr hr
  cases k
  case limits => exact absurd rfl h1
  case tuning => exact absurd rfl h2
  case recipe => exact absurd rfl h3
  all_goals exact if_pos hl

theorem permission_free {m : Mru} {k : TableKind}
    (h : (m.line ≠ .run ∧ m.line ≠ .draining ∧ (k = .limits → m.limitsLock = false ∨ m.line = .maintenance))
      ∨ k = .tuning ∨ k = .recipe) : permission m k = none := by
  obtain ⟨h1, h2, hlock⟩ | rfl | rfl := h
  · have hl : ¬lineRuns m.line = true := fun hr => ((lineRuns_iff _).mp hr).elim h1 h2
    cases k
    case tuning => rfl
    case recipe => rfl
    case limits =>
      have hn : ¬(m.limitsLock && m.line != .maintenance) = true := by
        rw [Bool.and_eq_true, bne_iff_ne]
        rintro ⟨hlocked, hm⟩
        exact (hlock rfl).elim (fun hf => absurd (hlocked.symm.trans hf) (by decide)) hm
      rw [permission, if_neg hn, if_neg hl]
    all_goals exact if_neg hl
  · rfl
  · rfl

section
variable {k : TableKind} {index : Nat} {s : State}

theorem commitStaged_empty (h : stagingOf s.mru.staging k = none) : commitStaged k index s = refuse .nothingStaged s := by
  rw [commitStaged, h]

theorem commitStaged_other {b : StagingBuffer} (h : stagingOf s.mru.staging k = some b) (hi : b.index ≠ index) :
    commitStaged k index s = refuse .nothingStaged s := by
  rw [commitStaged, h]
  exact if_pos hi

/-- Steps 4 to 8 of R49, on a buffer of the index. -/
theorem commitStaged_staged {b : StagingBuffer} (h : stagingOf s.mru.staging k = some b) (hi : b.index = index) :
    commitStaged k index s =
      let m := candidateFields (committedFields s.tbs k index) b.fields
      if !candidateSound s.tbs k index b.fields m then refuse .badValue s
      else if k = .recipe ∧ 0 < (slotBank s.tbs.slots[Fin.ofNat 16 index] (writeBank s.tbs index)).references then refuse .busy s
      else commitEntry k index b.fields m s := by
  rw [commitStaged, h]
  exact if_neg (not_not.mpr hi)

end

/-- Settles O40: the steps of R49 in their order. -/
theorem commitRefused : Obligations.CommitRefused := by
  intro r s ha
  dsimp only
  have refused {status : ReplyStatus} (h : decideCommit r s = refuse status s) := exec_refused (c := .commit r) rfl ha h
  refine ⟨fun hk => refused (by rw [decideCommit, hk]), fun k hk => ⟨fun hi => refused ?_, fun hi => ⟨?_, ?_, ?_, fun hfree => ?_⟩⟩⟩
  · simp only [decideCommit, hk, if_pos hi]
  · rintro rfl hl hm
    exact refused (decideCommit_forbidden hk hi (permission_locked hl hm))
  · rintro rfl hl hr
    exact refused (decideCommit_forbidden hk hi (permission_limits_runs hl hr))
  · exact fun h1 h2 h3 hr => refused (decideCommit_forbidden hk hi (permission_runs hr h1 h2 h3))
  · have hd := decideCommit_permitted hk hi (permission_free hfree)
    refine ⟨fun hn => refused (hd.trans (commitStaged_empty hn)), fun b hb => ⟨fun hx => refused (hd.trans (commitStaged_other hb hx)),
      fun hx => ⟨fun hs => refused ?_, fun hrec hs href => refused ?_⟩⟩⟩
    · rw [hd, commitStaged_staged hb hx]
      exact if_pos (by rw [hs]; rfl)
    · rw [hd, commitStaged_staged hb hx]
      have hsound : ¬(!candidateSound s.tbs k (reqByte r 7) b.fields
          (candidateFields (committedFields s.tbs k (reqByte r 7)) b.fields)) = true := by rw [hs]; decide
      exact (if_neg hsound).trans (if_pos ⟨hrec, href⟩)

end Sys2Proof.Machine
end

section
/-! Events that end after a few hand-overs, and admission (R72) as the first of them. -/

namespace Sys2Proof.Machine

/-! ## Short events -/

/-- The hand-overs `ts` at `s`, with all that follows from them, are `k` in all and leave `t`. -/
def Takes (k : Nat) (ts : List Task) (s t : State) : Prop := ∀ n rest, settle (n + k) (ts ++ rest) s = settle n rest t

theorem Takes.nil (s : State) : Takes 0 [] s s := fun _ _ => rfl

theorem Takes.cons {k m : Nat} {t : Task} {ts : List Task} {s u v : State} (h : Takes k (handle t s).2 (handle t s).1 u)
    (hs : Takes m ts u v) : Takes (m + k + 1) (t :: ts) s v := by
  intro n rest
  have hstep : settle (n + (m + k + 1)) (t :: ts ++ rest) s = settle (n + m + k) ((handle t s).2 ++ (ts ++ rest)) (handle t s).1 := by
    rw [← Nat.add_assoc, ← Nat.add_assoc, List.cons_append, settle_cons]
  rw [hstep, h, hs]

/-- A hand-over that makes no further ones. -/
theorem Takes.one {t : Task} {s u : State} (h : handle t s = (u, [])) : Takes 1 [t] s u :=
  .cons (k := 0) (by rw [h]; exact .nil u) (.nil u)

/-- A hand-over with all that follows from it. -/
theorem Takes.step {k : Nat} {t : Task} {s u : State} (h : Takes k (handle t s).2 (handle t s).1 u) : Takes (k + 1) [t] s u := by
  simpa using Takes.cons h (.nil u)

theorem Takes.of_handle {k : Nat} {t : Task} {ts : List Task} {s u v : State} (h : handle t s = (u, ts)) (hs : Takes k ts u v) :
    Takes (k + 1) [t] s v := .step (by rw [h]; exact hs)

theorem Takes.append {k m : Nat} {ts us : List Task} {s u v : State} (h : Takes k ts s u) (hs : Takes m us u v) :
    Takes (m + k) (ts ++ us) s v := by
  intro n rest
  rw [List.append_assoc, ← Nat.add_assoc, h, hs]

theorem Takes.run {k : Nat} {ts : List Task} {s t : State} (h : Takes k ts s t) (hk : k ≤ 4294967296) : run s ts = t := by
  have hfuel : Config.cascadeBudget = Config.cascadeBudget - k + k := (Nat.sub_add_cancel hk).symm
  rw [Machine.run, hfuel, ← List.append_nil ts, h, settle_nil]

/-! ## Admission (R72) -/

theorem vset_vset {α : Type} {n : Nat} (v : Vector α n) (i : Fin n) (x y : α) : vset (vset v i x) i y = vset v i y :=
  Vector.set_set ..

theorem vset_self {α : Type} {n : Nat} (v : Vector α n) (i : Fin n) : vset v i v[i] = v := Vector.set_getElem_self ..

theorem gateOnly_iff {s t : State} : GateOnly s t ↔ ∃ (v : Bool) (r : OutputRecord) (q : List QueuedCell) (d : List CommandCell),
    t = { s with btk := { s.btk with gateOpen := v }, out := { s.out with records := vset s.out.records (O 20) r },
                 lif := { s.lif with commandQueue := q, deferredSet := d } } := by
  constructor
  · exact fun h => ⟨_, _, _, _, h⟩
  · rintro ⟨v, r, q, d, rfl⟩
    have hr : (vset s.out.records (O 20) r)[O 20] = r := vset_same ..
    simp only [GateOnly, outputRecord, hr]

theorem GateOnly.trans {s t u : State} (h : GateOnly s t) (k : GateOnly t u) : GateOnly s u := by
  obtain ⟨v, r, q, d, rfl⟩ := gateOnly_iff.mp h
  obtain ⟨v', r', q', d', rfl⟩ := gateOnly_iff.mp k
  refine gateOnly_iff.mpr ⟨v', r', q', d', ?_⟩
  simp only [vset_vset]

theorem setGate_gateOnly (s : State) (v : Bool) : GateOnly s { s with btk := { s.btk with gateOpen := v } } :=
  gateOnly_iff.mpr ⟨v, s.out.records[O 20], s.lif.commandQueue, s.lif.deferredSet, by rw [vset_self]⟩

theorem setOutputRecord_gateOnly (s : State) (r : OutputRecord) : GateOnly s (setOutputRecord s (O 20) r) :=
  gateOnly_iff.mpr ⟨s.btk.gateOpen, r, s.lif.commandQueue, s.lif.deferredSet, rfl⟩

theorem GateOnly.refl (s : State) : GateOnly s s := setGate_gateOnly s s.btk.gateOpen

theorem handCommand_gateOnly (o : OutIx) (s : State) : GateOnly s (handCommand o s) := by
  unfold handCommand
  split
  · exact gateOnly_iff.mpr ⟨s.btk.gateOpen, s.out.records[O 20], _, _, by rw [vset_self, takeCommand_eq]⟩
  · exact .refl s

theorem formPure_gateOnly (s : State) : GateOnly s (formPure (O 20) s) := by
  unfold formPure
  dsimp only
  split
  · exact .refl s
  · exact (setOutputRecord_gateOnly s _).trans (handCommand_gateOnly _ _)

/-- The gate's automatic command changes the record of O20 and its COMMAND cell (R25); no block is told. -/
theorem setAutomatic_gate (v : Nat) (s : State) : (setAutomatic (O 20) v s).2 = [] ∧ GateOnly s (setAutomatic (O 20) v s).1 :=
  ⟨ite_self _, (setOutputRecord_gateOnly s _).trans (formPure_gateOnly _)⟩

theorem setAutomatic_gateOpen (o : OutIx) (v : Nat) (s : State) : (setAutomatic o v s).1.btk = s.btk :=
  (setAutomatic_touches o v s).same .btk (by decide)

/-- An evaluation of admission is short, and leaves all but the gate alone. -/
theorem takes_admission (s : State) : ∃ k t, k ≤ 2 ∧ Takes k [.admission] s t ∧ GateOnly s t ∧ t.btk.gateOpen = admissionOpen s := by
  by_cases h : admissionOpen s = s.btk.gateOpen
  · refine ⟨1, (admission s).1, by decide, .one ?_, setGate_gateOnly s _, rfl⟩
    exact Prod.ext rfl (if_pos h)
  · have hs := setAutomatic_gate (gateValue (admissionOpen s)) (admission s).1
    refine ⟨2, (setAutomatic (O 20) (gateValue (admissionOpen s)) (admission s).1).1, le_refl _, .step ?_,
      (setGate_gateOnly s _).trans hs.2, ?_⟩
    · rw [show (handle .admission s).2 = [.setAutomatic (O 20) (gateValue (admissionOpen s))] from if_neg h]
      exact .one (Prod.ext rfl hs.1)
    · rw [setAutomatic_gateOpen]
      rfl

theorem run_admission (s : State) : GateOnly s (run s [.admission]) ∧ (run s [.admission]).btk.gateOpen = admissionOpen s := by
  obtain ⟨k, t, hk, ht, hgate, hopen⟩ := takes_admission s
  rw [ht.run (by omega)]
  exact ⟨hgate, hopen⟩

theorem GateOnly.mru {s t : State} (h : GateOnly s t) : t.mru = s.mru := by
  obtain ⟨v, r, q, d, rfl⟩ := gateOnly_iff.mp h
  rfl

theorem GateOnly.tbs {s t : State} (h : GateOnly s t) : t.tbs = s.tbs := by
  obtain ⟨v, r, q, d, rfl⟩ := gateOnly_iff.mp h
  rfl

/-! ## SELECT_NEXT and REMOVE_RECIPE (R40, R61) -/

theorem admitBank_removedSlot (sl : Slot) : admitBank (removedSlot sl) = { admitBank sl with filled := false } := by
  have hpointer : (removedSlot sl).pointer = sl.pointer := setSlotBank_pointer ..
  rw [admitBank, hpointer]
  exact slotBank_setSlotBank ..

theorem removedSlot_other (sl : Slot) : slotBank (removedSlot sl) (otherBank sl.pointer) = slotBank sl (otherBank sl.pointer) :=
  slotBank_setSlotBank_other ..

/-- Admission is closed while the bank that the next slot admits is empty (R71, condition 2). -/
theorem admissionOpen_empty {s : State} (h : (nextBank s).filled = false) : admissionOpen s = false := by
  simp only [admissionOpen, h, Bool.and_false, Bool.false_and]

theorem slotIx_lt (i : SlotIx) : ¬16 ≤ i.val := Nat.not_le.mpr i.isLt

theorem slotIx_ofNat (i : SlotIx) : (Fin.ofNat 16 i.val : SlotIx) = i := Fin.ofNat_val_eq_self i

section
variable {r : ReqCell} {s : State} {i : SlotIx}

theorem decideSelectNext_empty (hi : reqByte r 6 = i.val) (h : (admitBank s.tbs.slots[i]).filled = false) :
    decideSelectNext r s = refuse .emptySlot s := by
  simp only [decideSelectNext, hi, if_neg (slotIx_lt i), slotIx_ofNat, h, Bool.not_false, if_true]

theorem decideSelectNext_filled (hi : reqByte r 6 = i.val) (h : (admitBank s.tbs.slots[i]).filled = true) :
    decideSelectNext r s = { status := .ok, state := { s with mru := { s.mru with nextSlot := i } }, tasks := [.admission],
                             data := fun t => replyData [lineByte t, (6, i.val), (7, bankCode (t.tbs.slots[i]).pointer)] } := by
  simp only [decideSelectNext, hi, if_neg (slotIx_lt i), slotIx_ofNat, h, Bool.not_true, Bool.false_eq_true, if_false]

theorem decideRemoveRecipe_of (hi : reqByte r 6 = i.val) :
    decideRemoveRecipe r s =
      { status := .ok, state := { s with tbs := { s.tbs with slots := vset s.tbs.slots i (removedSlot s.tbs.slots[i]) } },
        tasks := [.admission], data := fun t => replyData [lineByte t, (6, i.val)] } := by
  simp only [decideRemoveRecipe, hi, if_neg (slotIx_lt i), slotIx_ofNat]

end

/-- Settles O44: admission is the one hand-over of both requests. -/
theorem recipeSlotRequests : Obligations.RecipeSlotRequests := by
  intro r s i hi
  refine ⟨fun ha hfilled => exec_refused (c := .selectNext r) rfl ha (decideSelectNext_empty hi hfilled), fun ha hfilled => ?_,
    fun ha => ?_⟩
  · obtain ⟨hgate, hopen⟩ := run_admission { s with mru := { s.mru with nextSlot := i } }
    refine ⟨_, (exec_accepted (c := .selectNext r) rfl ha).trans ?_, hgate, hopen⟩
    rw [show decideByCode (13 : Word16).toNat r s = decideSelectNext r s from rfl, decideSelectNext_filled hi hfilled]
    simp only [answer, lineByte, hgate.mru, hgate.tbs]
  · obtain ⟨hgate, hopen⟩ :=
      run_admission { s with tbs := { s.tbs with slots := vset s.tbs.slots i (removedSlot s.tbs.slots[i]) } }
    generalize ht : run _ [.admission] = t at hgate hopen
    have hslots := congrArg Tbs.slots hgate.tbs
    refine ⟨t, (exec_accepted (c := .removeRecipe r) rfl ha).trans ?_, ?_, fun j hj => ?_, ?_, ?_, ?_, fun hnext => ?_⟩
    · rw [show decideByCode (5 : Word16).toNat r s = decideRemoveRecipe r s from rfl, decideRemoveRecipe_of hi]
      simp only [answer, lineByte, ht, hgate.mru]
    · rw [hslots]
      exact hgate
    · rw [hslots]
      exact vset_other _ hj.symm _
    · rw [hslots, vset_same]
      exact setSlotBank_pointer ..
    · rw [hslots, vset_same, admitBank_removedSlot]
    · rw [hslots, vset_same, removedSlot_other]
    · rw [hopen]
      refine admissionOpen_empty ?_
      have hbank : nextBank { s with tbs := { s.tbs with slots := vset s.tbs.slots i (removedSlot s.tbs.slots[i]) } }
          = admitBank (removedSlot s.tbs.slots[i]) := by
        simp only [nextBank, hnext]
        exact congrArg admitBank (vset_same ..)
      rw [hbank, admitBank_removedSlot]

end Sys2Proof.Machine
end

section
/-! SET_SPEED and LOCK_LIMITS (R37, R51). -/

namespace Sys2Proof.Machine

/-! ## The conveyor follows the line speed (R38) -/

theorem setAutomatic_automatic {o : OutIx} (ho : o ≠ O 21) (v : Nat) (s : State) :
    (outputRecord (setAutomatic o v s).1 o).automatic = v := by
  have hrec : outputRecord (setAutomatic o v s).1 o = _ := formPure_record_same _ ho
  rw [hrec, outputRecord_set_same]

theorem setAutomatic_conveyor_emits (v : Nat) (s : State) :
    (setAutomatic (O 19) v s).2 = [] ∨ (setAutomatic (O 19) v s).2 = [.noMotion] := by
  unfold setAutomatic formDelivered
  dsimp only
  split
  · exact .inl rfl
  · exact .inr rfl

theorem noMotion_emits {s : State} (h : s.btk.faultCondition = false) : (noMotion s).2 = [] := by
  unfold noMotion
  split
  · split <;> rfl
  · exact if_neg (by rw [h]; exact Bool.false_ne_true)

/-- While no motion fault stands, the conveyor takes its command, and only the no-motion timer follows (R85). -/
theorem run_conveyor {s : State} (h : s.btk.faultCondition = false) :
    ∃ t, run s [.conveyor] = t ∧ (outputRecord t (O 19)).automatic = conveyorValue s ∧ t.mru = s.mru ∧ t.hld = s.hld ∧ t.acu = s.acu := by
  have htouch := setAutomatic_touches (O 19) (conveyorValue s) s
  have hauto := setAutomatic_automatic (by decide : O 19 ≠ O 21) (conveyorValue s) s
  have hemits := setAutomatic_conveyor_emits (conveyorValue s) s
  have hhandle : handle (.setAutomatic (O 19) (conveyorValue s)) s = setAutomatic (O 19) (conveyorValue s) s := rfl
  generalize setAutomatic (O 19) (conveyorValue s) s = e at htouch hauto hemits hhandle
  obtain ⟨u, us⟩ := e
  have hmru : u.mru = s.mru := htouch.same .mru (by decide)
  have hhld : u.hld = s.hld := htouch.same .hld (by decide)
  have hacu : u.acu = s.acu := htouch.same .acu (by decide)
  obtain rfl | rfl := hemits
  · exact ⟨u, (Takes.of_handle (t := .conveyor) rfl (.one hhandle)).run (by decide), hauto, hmru, hhld, hacu⟩
  · have hfault : u.btk.faultCondition = false := by
      rw [show u.btk = s.btk from htouch.same .btk (by decide), h]
    have hno := noMotion_touches u
    have hlast : handle .noMotion u = ((noMotion u).1, []) := Prod.ext rfl (noMotion_emits hfault)
    refine ⟨(noMotion u).1, (Takes.of_handle (t := .conveyor) rfl (.of_handle hhandle (.one hlast))).run (by decide), ?_,
      (hno.same .mru (by decide)).trans hmru, (hno.same .hld (by decide)).trans hhld, (hno.same .acu (by decide)).trans hacu⟩
    rw [outputRecord, show (noMotion u).1.out = u.out from hno.same .out (by decide)]
    exact hauto

/-! ## SET_SPEED (R37) -/

theorem clampSpeed_eq (v : Nat) : clampSpeed v = if v < 300 then 300 else if 2500 < v then 2500 else v := by
  unfold clampSpeed
  split
  · omega
  · split <;> omega

theorem clampSpeed_same (v : Nat) : clampSpeed v = v ↔ 300 ≤ v ∧ v ≤ 2500 := by
  unfold clampSpeed
  omega

theorem decideSetSpeed_of (r : ReqCell) {s : State} (h : s.mru.line ≠ .unconfigured) :
    decideSetSpeed r s =
      { status := if 300 ≤ reqWord r 6 ∧ reqWord r 6 ≤ 2500 then .ok else .clamped,
        state := { s with mru := { s.mru with lineSpeed := some (clampSpeed (reqWord r 6)) } },
        tasks := [.conveyor],
        data := fun t => replyData (lineByte t :: wordAt 6 (t.mru.lineSpeed.getD 0)) } := by
  simp only [decideSetSpeed, if_neg h, clampSpeed_same]

/-- What is left of MRU is told apart by the state itself. -/
theorem Undisturbed.withMru {s t : State} {m : Mru} (h : Undisturbed { s with mru := m } t) : Undisturbed { s with mru := t.mru } t := by
  obtain ⟨hsig, htbs, hpending, hlif, -, hrest⟩ := h
  exact ⟨hsig, htbs, hpending, hlif, rfl, hrest⟩

theorem Undisturbed.mru {s t : State} (h : Undisturbed s t) : t.mru = { s.mru with line := t.mru.line } := by
  obtain ⟨-, -, -, -, hmru, -⟩ := h
  exact hmru

/-- Settles O45: SET_SPEED by its one hand-over, LOCK_LIMITS by its decision. -/
theorem speedAndLockAreSet : Obligations.SpeedAndLockAreSet := by
  refine ⟨fun r s ha hline => ?_, fun r s ha hline => ?_⟩
  · dsimp only
    rw [← clampSpeed_eq]
    obtain ⟨t, ht⟩ : ∃ t, run { s with mru := { s.mru with lineSpeed := some (clampSpeed (reqWord r 6)) } } [.conveyor] = t := ⟨_, rfl⟩
    have hund := run_undisturbed { s with mru := { s.mru with lineSpeed := some (clampSpeed (reqWord r 6)) } } [.conveyor] rfl
    rw [ht] at hund
    have hmru := hund.mru
    refine ⟨t, (exec_accepted (c := .setSpeed r) rfl ha).trans ?_, hmru, hund.withMru, fun hfault => ?_⟩
    · rw [show decideByCode (14 : Word16).toNat r s = decideSetSpeed r s from rfl, decideSetSpeed_of r hline]
      simp only [answer, ht, lineByte, congrArg Mru.lineSpeed hmru, Option.getD_some]
    · obtain ⟨u, hu, hauto, hm, hh, hacu⟩ :=
        run_conveyor (s := { s with mru := { s.mru with lineSpeed := some (clampSpeed (reqWord r 6)) } }) hfault
      cases ht.symm.trans hu
      exact ⟨(congrArg Mru.line hm :), hh, hacu, hauto⟩
  · refine (exec_accepted (c := .lockLimits r) rfl ha).trans ?_
    rw [show decideByCode (6 : Word16).toNat r s = decideLockLimits r s from rfl, decideLockLimits, if_neg hline]
    simp only [answer, run_nil]

end Sys2Proof.Machine
end

section
/-! Field maps over and within their ranges (R49, R50): the candidate of a COMMIT and its clamps. -/

namespace Sys2Proof.Machine

/-! ## One field -/

theorem fieldOf_putField (m : FieldMap) (i f : Nat) (v : Int) (j g : Nat) :
    fieldOf (putField m i f v) j g = if i = j ∧ f = g then v else fieldOf m j g := by
  unfold fieldOf
  split
  · next h =>
    obtain ⟨rfl, rfl⟩ := h
    rw [lookupField_putField_same, Option.getD_some]
  · next h => rw [lookupField_putField_other _ _ h]

/-- A map in order holds no field of its first entry again. -/
theorem lookupField_of_sorted_cons {e : Nat × Nat × Int} {m : FieldMap} (h : SortedFields (e :: m)) :
    lookupField m e.1 e.2.1 = none := by
  obtain ⟨hfirst, -⟩ := List.pairwise_cons.mp h
  clear h
  induction m with
  | nil => rfl
  | cons x m ih =>
    obtain ⟨i, f, v⟩ := x
    have hx := hfirst _ List.mem_cons_self
    have hne : ¬(i = e.1 ∧ f = e.2.1) := by
      rintro ⟨rfl, rfl⟩
      simp at hx
    rw [lookupField, if_neg hne]
    exact ih fun y hy => hfirst y (List.mem_cons_of_mem _ hy)

/-- The candidate takes every staged field, and else the committed one (R49, step 4). -/
theorem lookupField_candidateFields (base : FieldMap) {staged : FieldMap} (h : SortedFields staged) (i f : Nat) :
    lookupField (candidateFields base staged) i f = (lookupField staged i f).or (lookupField base i f) := by
  unfold candidateFields
  induction staged generalizing base with
  | nil => rfl
  | cons e m ih =>
    obtain ⟨j, g, v⟩ := e
    have hrest : SortedFields m := (List.pairwise_cons.mp h).2
    rw [List.foldl_cons, ih _ hrest, lookupField]
    split
    · next heq =>
      obtain ⟨rfl, rfl⟩ := heq
      have hnone : lookupField m j g = none := lookupField_of_sorted_cons h
      rw [hnone, lookupField_putField_same]
      rfl
    · next hne => rw [lookupField_putField_other _ _ hne]

theorem fieldOf_candidateFields (base : FieldMap) {staged : FieldMap} (h : SortedFields staged) (i f : Nat) :
    fieldOf (candidateFields base staged) i f = (lookupField staged i f).getD (fieldOf base i f) := by
  rw [fieldOf, lookupField_candidateFields base h]
  cases lookupField staged i f <;> rfl

/-! ## Clamps -/

theorem clamp_idem (lo hi x : Int) (h : lo ≤ hi) : clamp lo hi (clamp lo hi x) = clamp lo hi x :=
  clamp_of_mem (clamp_bounds x h).1 (clamp_bounds x h).2

theorem clamp_eq_self {lo hi x : Int} (h : lo ≤ hi) : clamp lo hi x = x ↔ lo ≤ x ∧ x ≤ hi := by
  constructor
  · intro hx
    rw [← hx]
    exact clamp_bounds x h
  · exact fun ⟨hlo, hhi⟩ => clamp_of_mem hlo hhi

theorem fieldOf_clampItem (lo hi : Int) (f : Nat) (m : FieldMap) (i j g : Nat) :
    fieldOf (clampItem lo hi f m i) j g = if i = j ∧ f = g then clamp lo hi (fieldOf m j g) else fieldOf m j g := by
  unfold clampItem
  dsimp only
  split
  · next h =>
    split
    · next heq =>
      obtain ⟨rfl, rfl⟩ := heq
      exact h.symm
    · rfl
  · rw [fieldOf_putField]
    split
    · next heq =>
      obtain ⟨rfl, rfl⟩ := heq
      rfl
    · rfl

theorem fieldOf_clampItems {lo hi : Int} (h : lo ≤ hi) (f : Nat) (items : List Nat) (m : FieldMap) (j g : Nat) :
    fieldOf (items.foldl (clampItem lo hi f) m) j g = if f = g ∧ j ∈ items then clamp lo hi (fieldOf m j g) else fieldOf m j g := by
  induction items generalizing m with
  | nil => simp
  | cons i items ih =>
    rw [List.foldl_cons, ih, fieldOf_clampItem]
    by_cases hf : f = g
    · by_cases hi' : i = j
      · simp [hf, hi', clamp_idem _ _ _ h]
      · simp [hf, hi', Ne.symm hi']
    · simp [hf]

theorem fieldOf_clampField_other (items : FieldSpec → List Nat) (m : FieldMap) {f : FieldSpec} (hr : f.lo ≤ f.hi) {j g : Nat}
    (h : ¬(f.field = g ∧ j ∈ items f)) : fieldOf (clampField items m f) j g = fieldOf m j g := by
  unfold clampField
  split
  · rw [fieldOf_clampItems hr, if_neg h]
  · rfl

/-- Of fields with different numbers each one is brought into its own range. -/
theorem fieldOf_clampFields (items : FieldSpec → List Nat) {fs : List FieldSpec} (hr : ∀ f ∈ fs, f.lo ≤ f.hi)
    (hnodup : (fs.map (·.field)).Nodup) (m : FieldMap) {f : FieldSpec} (hf : f ∈ fs) (hn : f.kind = .number) {j : Nat} (hj : j ∈ items f) :
    fieldOf (fs.foldl (clampField items) m) j f.field = clamp f.lo f.hi (fieldOf m j f.field) := by
  have others (gs : List FieldSpec) (hgs : ∀ g ∈ gs, g.lo ≤ g.hi) (hno : f.field ∉ gs.map (·.field)) (m : FieldMap) :
      fieldOf (gs.foldl (clampField items) m) j f.field = fieldOf m j f.field := by
    induction gs generalizing m with
    | nil => rfl
    | cons g gs ih =>
      obtain ⟨hne, hrest⟩ := not_or.mp (List.mem_cons.not.mp hno)
      rw [List.foldl_cons, ih (fun x hx => hgs x (List.mem_cons_of_mem _ hx)) hrest,
        fieldOf_clampField_other items m (hgs g List.mem_cons_self) fun h => hne h.1.symm]
  induction fs generalizing m with
  | nil => cases hf
  | cons g gs ih =>
    obtain ⟨hnot, hrest⟩ := List.nodup_cons.mp hnodup
    have hgs : ∀ x ∈ gs, x.lo ≤ x.hi := fun x hx => hr x (List.mem_cons_of_mem _ hx)
    rw [List.foldl_cons]
    obtain rfl | hmem := List.mem_cons.mp hf
    · rw [others gs hgs hnot, clampField, if_pos hn, fieldOf_clampItems (hr f List.mem_cons_self), if_pos ⟨rfl, hj⟩]
    · have hne : g.field ≠ f.field := fun h => hnot (List.mem_map.mpr ⟨f, hmem, h.symm⟩)
      rw [ih hgs hrest _ hmem, fieldOf_clampField_other items m (hr g List.mem_cons_self) fun h => hne h.1]

/-- Clamping leaves a map whose values are in their ranges as it is. -/
theorem clampFields_eq_self (items : FieldSpec → List Nat) (fs : List FieldSpec) (m : FieldMap)
    (h : ∀ f ∈ fs, ∀ j ∈ items f, clamp f.lo f.hi (fieldOf m j f.field) = fieldOf m j f.field) :
    fs.foldl (clampField items) m = m := by
  have one (f : FieldSpec) (hf : f ∈ fs) : clampField items m f = m := by
    unfold clampField
    split
    · exact List.foldlRecOn (motive := fun x => x = m) _ _ rfl fun x hx j hj => by
        rw [hx, clampItem]
        exact if_pos (h f hf j hj)
    · rfl
  exact List.foldlRecOn (motive := fun x => x = m) _ _ rfl fun x hx f hf => by rw [hx, one f hf]

theorem mem_fieldItems {f : FieldSpec} {j : Nat} : j ∈ fieldItems f ↔ f.firstItem ≤ j ∧ j ≤ f.lastItem := by
  unfold fieldItems
  rw [List.mem_map]
  constructor
  · rintro ⟨k, hk, rfl⟩
    have := List.mem_range.mp hk
    omega
  · rintro ⟨h1, h2⟩
    exact ⟨j - f.firstItem, List.mem_range.mpr (by omega), by omega⟩

end Sys2Proof.Machine
end

section
/-! COMMIT of TUNING, of RECIPE, and the one that completes the configured set (R34, R49, R60). -/

namespace Sys2Proof.Machine

/-! ## A COMMIT that is taken -/

theorem exec_commit_taken {r : ReqCell} {s : State} {k : TableKind} {b : StagingBuffer} (ha : accepted 2 r s)
    (hk : tableOfCode (reqByte r 6) = some k) (hi : reqByte r 7 < indexCount k) (hp : permission s.mru k = none)
    (hb : stagingOf s.mru.staging k = some b) (hx : b.index = reqByte r 7)
    (hs : candidateSound s.tbs k (reqByte r 7) b.fields (candidateFields (committedFields s.tbs k (reqByte r 7)) b.fields) = true)
    (href : ¬(k = .recipe ∧ 0 < (slotBank s.tbs.slots[Fin.ofNat 16 (reqByte r 7)] (writeBank s.tbs (reqByte r 7))).references)) :
    exec (.commit r) s = .next (answer r (commitTaken k (reqByte r 7) b s)) := by
  have hsound : ¬(!candidateSound s.tbs k (reqByte r 7) b.fields
      (candidateFields (committedFields s.tbs k (reqByte r 7)) b.fields)) = true := by
    rw [hs]
    exact Bool.false_ne_true
  rw [exec_accepted (c := .commit r) rfl ha, show decideByCode (2 : Word16).toNat r s = decideCommit r s from rfl,
    decideCommit_permitted hk hi hp, commitStaged_staged hb hx]
  exact congrArg (fun d => Host.Outcome.next (answer r d)) ((if_neg hsound).trans (if_neg href))

theorem commitTaken_status (k : TableKind) (index : Nat) (b : StagingBuffer) (s : State) :
    (commitTaken k index b s).status = .ok ∨ (commitTaken k index b s).status = .clamped := by
  unfold commitTaken commitEntry
  dsimp only
  split
  · exact .inl rfl
  · exact .inr rfl

/-! ## TUNING (R58) -/

/-- The ranges of TUNING, by field. -/
def tuningRanges : List (Nat × Int × Int) := [(1, 0, 65535), (2, 0, 1023), (3, 1, 100), (4, 1, 1000), (5, 0, 15), (6, 0, 6000)]

theorem tuningFields_eq : tuningFields = tuningRanges.map fun x => ⟨x.1, 1, 8, .number, x.2.1, x.2.2⟩ := rfl

theorem tuningRanges_ordered : ∀ x ∈ tuningRanges, x.2.1 ≤ x.2.2 := by decide

theorem mem_loopItems {x : Nat × Int × Int} {j : Nat} :
    j ∈ fieldItems ⟨x.1, 1, 8, .number, x.2.1, x.2.2⟩ ↔ ∃ l : LoopIx, l.val + 1 = j := by
  rw [mem_fieldItems]
  constructor
  · rintro ⟨h1, h2⟩
    exact ⟨⟨j - 1, by simp only at h2; omega⟩, by simp only at h1 ⊢; omega⟩
  · rintro ⟨l, rfl⟩
    have := l.isLt
    exact ⟨by simp only; omega, by simp only; omega⟩

theorem fieldOf_clampTuning (m : FieldMap) {x : Nat × Int × Int} (hx : x ∈ tuningRanges) (l : LoopIx) :
    fieldOf (clampCandidate .tuning m) (l.val + 1) x.1 = clamp x.2.1 x.2.2 (fieldOf m (l.val + 1) x.1) := by
  have hmem : (⟨x.1, 1, 8, .number, x.2.1, x.2.2⟩ : FieldSpec) ∈ tuningFields := by
    rw [tuningFields_eq]
    exact List.mem_map_of_mem hx
  exact fieldOf_clampFields fieldItems (by decide : ∀ f ∈ tuningFields, f.lo ≤ f.hi) (by decide) m hmem rfl (mem_loopItems.mpr ⟨l, rfl⟩)

theorem clampTuning_eq_self (m : FieldMap) :
    clampCandidate .tuning m = m ↔ ∀ (l : LoopIx), ∀ x ∈ tuningRanges,
      x.2.1 ≤ fieldOf m (l.val + 1) x.1 ∧ fieldOf m (l.val + 1) x.1 ≤ x.2.2 := by
  constructor
  · intro h l x hx
    refine (clamp_eq_self (tuningRanges_ordered x hx)).mp ?_
    rw [← fieldOf_clampTuning m hx l, h]
  · intro h
    refine clampFields_eq_self fieldItems tuningFields m fun f hf j hj => ?_
    rw [tuningFields_eq] at hf
    obtain ⟨x, hx, rfl⟩ := List.mem_map.mp hf
    obtain ⟨l, rfl⟩ := mem_loopItems.mp hj
    exact (clamp_eq_self (tuningRanges_ordered x hx)).mpr (h l x hx)

theorem run_configuredTest {s : State} (h : s.mru.line ≠ .unconfigured) : run s [.configuredTest] = s :=
  (Takes.one (t := .configuredTest) (if_neg fun hc => h hc.1 : configuredTest s = (s, []))).run (by decide)

theorem commitTaken_tuning (b : StagingBuffer) (s : State) :
    (commitTaken .tuning 0 b s).state = { s with
      tbs := { s.tbs with tuning := (commitTaken .tuning 0 b s).state.tbs.tuning },
      mru := { s.mru with staging := { s.mru.staging with tuning := none },
                          configured := { s.mru.configured with tuning := true } } } := by
  simp only [commitTaken, commitEntry, writeEntry, setStaging, setStagingOf, addConfigured]

/-- Settles O41: the candidate field by field, each clamped to its own range. -/
theorem commitTuningWritesClampedFields : Obligations.CommitTuningWritesClampedFields := by
  intro r s b ha h6 h7 hb hx hsorted hline
  have hk : tableOfCode (reqByte r 6) = some .tuning := by rw [h6]; rfl
  have hi : reqByte r 7 < indexCount .tuning := by rw [h7]; exact Nat.one_pos
  have hexec := exec_commit_taken (k := .tuning) ha hk hi rfl hb (hx.trans h7.symm) (by rw [candidateSound])
    (fun h => absurd h.1 (by decide))
  rw [h7] at hexec
  have hrun : run (commitTaken .tuning 0 b s).state (commitTaken .tuning 0 b s).tasks = (commitTaken .tuning 0 b s).state :=
    run_configuredTest hline
  refine ⟨(commitTaken .tuning 0 b s).state, (commitTaken .tuning 0 b s).status, ?_, commitTaken_tuning b s, ?_⟩
  · rw [hexec, answer, hrun]
    rfl
  dsimp only
  refine ⟨?_, commitTaken_status .., ?_⟩
  · intro l x hx'
    have htuning : (commitTaken .tuning 0 b s).state.tbs.tuning
        = clampCandidate .tuning (candidateFields s.tbs.tuning b.fields) := by
      simp only [commitTaken_tbs, writtenTables, committedNext, storedCandidate, committedFields]
    rw [htuning, fieldOf_clampTuning _ hx', fieldOf_candidateFields _ hsorted, clamp_eq _ (tuningRanges_ordered x hx')]
  · have hstatus : (commitTaken .tuning 0 b s).status = .clamped
        ↔ ¬clampCandidate .tuning (candidateFields s.tbs.tuning b.fields) = candidateFields s.tbs.tuning b.fields := by
      unfold commitTaken commitEntry
      dsimp only
      split
      · next h => exact ⟨fun hc => absurd hc (by decide), fun hc => absurd h hc⟩
      · next h => exact ⟨fun _ => h, fun _ => rfl⟩
    rw [hstatus, clampTuning_eq_self]
    simp only [fieldOf_candidateFields _ hsorted, not_forall, exists_prop, not_and_or, not_le]
    rfl

/-! ## RECIPE (R60) -/

/-- Settles O42: the slot is written by `writeRecipe`, and what follows leaves the tables. -/
theorem commitRecipeTurnsThePointer : Obligations.CommitRecipeTurnsThePointer := by
  intro r s b i ha h6 h7 hb hx
  dsimp only
  intro hs href
  have hk : tableOfCode (reqByte r 6) = some .recipe := by rw [h6]; rfl
  have hix : (Fin.ofNat 16 i.val : SlotIx) = i := slotIx_ofNat i
  have hwrite : writeBank s.tbs i.val = otherBank (s.tbs.slots[i]).pointer := by simp only [writeBank, hix]
  have hi : reqByte r 7 < indexCount .recipe := by rw [h7]; exact i.isLt
  have hexec := exec_commit_taken (k := .recipe) ha hk hi rfl hb (hx.trans h7.symm) (by rw [h7]; exact hs)
    (fun h => by
      have hpos := h.2
      simp only [h7, hix, hwrite, href] at hpos
      exact absurd hpos (Nat.lt_irrefl 0))
  rw [h7] at hexec
  have hund := run_undisturbed (commitTaken .recipe i.val b s).state (commitTaken .recipe i.val b s).tasks rfl
  generalize ht : run (commitTaken .recipe i.val b s).state (commitTaken .recipe i.val b s).tasks = t at hund
  obtain ⟨hsig, htbs, -, -, hmru, -, htrain, -⟩ := hund
  rw [commitTaken_tbs] at htbs
  have hslot (j : SlotIx) : t.tbs.slots[j] = (writeRecipe s.tbs i.val (committedNext .recipe i.val b s.tbs)).slots[j] := by rw [htbs]; rfl
  have hwritten := (hslot i).trans ((writeRecipe_slots ..).trans (if_pos hix.symm))
  rw [hwrite, href] at hwritten
  refine ⟨t, (commitTaken .recipe i.val b s).status, ?_, commitTaken_status .., ?_, ?_, ?_, ?_, fun j hj => ?_, ?_, ?_, htrain, hsig⟩
  · rw [hexec, answer, ht]
    simp only [commitTaken, commitEntry, lineByte, hwrite]
    rfl
  · rw [hmru]
    rfl
  · rw [hwritten]
  · rw [hwritten]
    exact slotBank_setSlotBank ..
  · rw [hwritten]
    have hother := slotBank_setSlotBank_other s.tbs.slots[i] (otherBank (s.tbs.slots[i]).pointer)
      ⟨true, committedNext .recipe i.val b s.tbs, 0⟩
    rw [otherBank_otherBank] at hother
    exact hother
  · exact (hslot j).trans ((writeRecipe_slots ..).trans (if_neg fun h => hj (h.trans hix)))
  · rw [htbs]
    rfl
  · rw [hmru]
    rfl

end Sys2Proof.Machine
end

section
/-! The line state within an event, and the commit that completes the configured set (R34, R35). -/

namespace Sys2Proof.Machine

/-! ## What moves the line state (03 3.2) -/

/-- Outside DRAINING and UNCONFIGURED no hand-over moves the line. -/
theorem handle_line_stays (t : Task) {s : State} (hd : s.mru.line ≠ .draining) (hu : s.mru.line ≠ .unconfigured) :
    (handle t s).1.mru.line = s.mru.line := by
  by_cases ht : Block.mru ∈ touched t
  · cases t
    case retire lost => exact retire_mru_line lost s
    case drainingTest =>
      simp only [handle, drainingTest]
      rw [if_neg fun h => hd h.1]
    case configuredTest =>
      simp only [handle, configuredTest]
      rw [if_neg fun h => hu h.1]
    all_goals simp [touched] at ht
  · exact congrArg Mru.line ((handle_touches t s).same .mru ht)

theorem run_line_stays (ts : List Task) {s : State} (hd : s.mru.line ≠ .draining) (hu : s.mru.line ≠ .unconfigured) :
    (run s ts).mru.line = s.mru.line :=
  run_keeps (P := fun u => u.mru.line = s.mru.line)
    (fun t u h => (handle_line_stays t (by rw [h]; exact hd) (by rw [h]; exact hu)).trans h) (fun _ h => h) s ts rfl

theorem ConfigurationHeld.configured {s t : State} (h : ConfigurationHeld s t) : t.mru.configured = s.mru.configured := by
  rw [h.2]

theorem handle_configured (t : Task) (s : State) : (handle t s).1.mru.configured = s.mru.configured :=
  (handle_configuration t s).configured

/-! ## The configured set becomes complete (R34) -/

/-- The line is STANDBY, or UNCONFIGURED with the set complete and its test waiting. -/
def LeavesUnconfigured (ts : List Task) (s : State) : Prop :=
  s.mru.line = .standby ∨ (s.mru.line = .unconfigured ∧ allConfigured s.mru.configured = true ∧ .configuredTest ∈ ts)

theorem leavesUnconfigured_next (t : Task) (ts : List Task) (s : State) (h : LeavesUnconfigured (t :: ts) s) :
    LeavesUnconfigured ((handle t s).2 ++ ts) (handle t s).1 := by
  obtain hs | ⟨hl, hc, hmem⟩ := h
  · exact .inl ((handle_line_stays t (by rw [hs]; decide) (by rw [hs]; decide)).trans hs)
  · obtain rfl | hmem := List.mem_cons.mp hmem
    · refine .inl ?_
      simp only [handle, configuredTest, if_pos (And.intro hl hc)]
      rfl
    · obtain hline | hline := handle_line t s
      · exact .inr ⟨hline.trans hl, (congrArg allConfigured (handle_configured t s)).trans hc, List.mem_append_right _ hmem⟩
      · exact .inl hline

theorem run_leavesUnconfigured {ts : List Task} {s : State} (h : LeavesUnconfigured ts s) :
    (run s ts).overrun = true ∨ (run s ts).mru.line = .standby :=
  settle_holds (I := LeavesUnconfigured) (P := fun u => u.overrun = true ∨ u.mru.line = .standby) leavesUnconfigured_next
    (fun _ h => h.elim .inr fun h => absurd h.2.2 List.not_mem_nil) (fun _ _ _ => .inl rfl) _ ts s h

theorem stagingOf_commitTaken (k : TableKind) (index : Nat) (b : StagingBuffer) (s : State) :
    stagingOf (commitTaken k index b s).state.mru.staging k = none := by cases k <;> rfl

theorem configured_commitTaken (k : TableKind) (index : Nat) (b : StagingBuffer) (s : State) :
    (commitTaken k index b s).state.mru.configured = addConfigured s.mru.configured k := by cases k <;> rfl

theorem data_commitTaken (k : TableKind) (index : Nat) (b : StagingBuffer) (s t : State) :
    ((commitTaken k index b s).data t)[0]? = some (BitVec.ofNat 8 (lineStateCode t.mru.line)) := rfl

/-- Settles O43: the test of the configured set waits last, and the line stays UNCONFIGURED until it is taken. -/
theorem commitCompletesTheConfiguration : Obligations.CommitCompletesTheConfiguration := by
  intro r s k b ha hk halarm hrecipe h7 hline hlock hb hx hs hall
  have hi : reqByte r 7 < indexCount k := by
    rw [h7]
    cases k <;> decide
  have hp : permission s.mru k = none :=
    permission_free (.inl ⟨by rw [hline]; decide, by rw [hline]; decide, fun _ => .inl hlock⟩)
  have hexec := exec_commit_taken ha hk hi hp hb (hx.trans h7.symm) (by rw [h7]; exact hs) (fun h => hrecipe h.1)
  rw [h7] at hexec
  have hheld := run_configuration (commitTaken k 0 b s).state (commitTaken k 0 b s).tasks
  have hstart : LeavesUnconfigured (commitTaken k 0 b s).tasks (commitTaken k 0 b s).state :=
    .inr ⟨(commitTaken_line ..).trans hline, (congrArg allConfigured (configured_commitTaken ..)).trans hall,
      List.mem_append_right _ List.mem_cons_self⟩
  have hleaves := run_leavesUnconfigured hstart
  generalize ht : run (commitTaken k 0 b s).state (commitTaken k 0 b s).tasks = t at hheld hleaves
  refine ⟨t, (commitTaken k 0 b s).status, (commitTaken k 0 b s).data t, ?_, commitTaken_status .., ?_, ?_, ?_⟩
  · rw [hexec, answer, ht]
  · rw [hheld.2]
    exact stagingOf_commitTaken ..
  · rw [hheld.configured, configured_commitTaken]
    exact hall
  · exact hleaves.imp_right fun h => ⟨h, by rw [data_commitTaken, h]; rfl⟩

end Sys2Proof.Machine
end

section
/-! What an event leaves of LIF, and the alarms raised within it (R171 to R174). -/

namespace Sys2Proof.Machine

/-! ## LIF within an event that is no cycle start -/

/-- LIF changes in its command stores and its message queue alone. -/
def LifHeld (l m : Lif) : Prop :=
  m = { l with commandQueue := m.commandQueue, carryList := m.carryList, deferredSet := m.deferredSet, messageQueue := m.messageQueue }

theorem StoresOnly.refl (l : Lif) : StoresOnly l l := rfl

theorem StoresOnly.held {l m : Lif} (h : StoresOnly l m) : LifHeld l m := by
  unfold StoresOnly at h
  unfold LifHeld
  rw [h]

theorem LifHeld.refl (l : Lif) : LifHeld l l := rfl

theorem LifHeld.trans {l m n : Lif} (h : LifHeld l m) (k : LifHeld m n) : LifHeld l n := by
  unfold LifHeld at *
  rw [k, h]

theorem LifHeld.cycle {l m : Lif} (h : LifHeld l m) : m.cycle = l.cycle := by rw [h]

theorem takeTimed_stores (c : TimedCell) (s : State) : StoresOnly s.lif (takeTimed c s).lif := by
  unfold takeTimed
  split <;> rfl

theorem timedEdge_stores (n : NozzleIx) (x : Bool) (duty delay : Nat) (s : State) : StoresOnly s.lif (timedEdge n x duty delay s).lif := by
  unfold timedEdge
  extract_lets o s1 v r s2
  have h1 : StoresOnly s.lif s1.lif := by
    change StoresOnly s.lif (ite _ _ _ : State).lif
    split
    · exact takeTimed_stores ..
    · rfl
  split
  · exact h1
  · exact StoresOnly.trans (m := s2.lif) h1 (formPure_stores o s2)

theorem foldl_stores {α : Type} {f : State → α → State} (h : ∀ s x, StoresOnly s.lif (f s x).lif) (l : List α) (s : State) :
    StoresOnly s.lif (l.foldl f s).lif :=
  List.foldlRecOn (motive := fun t : State => StoresOnly s.lif t.lif) l f (.refl _) fun t ht x _ => ht.trans (h t x)

theorem StoresOnly.of_touches {bs : List Block} {s t : State} (h : Touches bs s t) (hb : Block.lif ∉ bs) : StoresOnly s.lif t.lif := by
  rw [show t.lif = s.lif from h.same .lif hb]
  exact .refl _

theorem applyGroup_stores (s : State) (g : Nat × List Edge) : StoresOnly s.lif (applyGroup s g).lif := by
  unfold applyGroup
  refine (foldl_stores (fun t e => .of_touches (applyEdge_touches t e) (by decide)) g.2 s).trans
    (foldl_stores (fun t n => ?_) allNozzles _)
  refine StoresOnly.trans (m := (handValve s g.1 n t).lif) ?_ (.of_touches (planChange_touches s g.1 n _) (by decide))
  unfold handValve
  dsimp only
  split
  · exact .refl _
  · exact timedEdge_stores ..

theorem flxTakeEdges_stores (s : State) : StoresOnly s.lif (flxTakeEdges s).1.lif := by
  unfold flxTakeEdges
  split
  · exact .refl _
  · split
    · exact .refl _
    · split
      · simp only [takeEdges]
        refine StoresOnly.trans ?_ (.of_touches (closeRuns_touches _ _) (by decide))
        exact foldl_stores applyGroup_stores _ (countLateEdges _ (dropEdges _ s))
      · exact .refl _

theorem flxEndingCloses_stores (s : State) : StoresOnly s.lif (flxEndingCloses s).1.lif := by
  unfold flxEndingCloses
  dsimp only
  refine List.foldlRecOn (motive := fun t : State => StoresOnly s.lif t.lif) _ _ (.refl _) fun t ht n _ => ht.trans ?_
  have hplan : StoresOnly t.lif (planChange s 0 n t).lif := .of_touches (planChange_touches s 0 n t) (by decide)
  have hmap : StoresOnly t.lif (mapNozzle (planChange s 0 n t) n fun z => { z with closeOwed := false }).lif := hplan
  split
  · exact hmap.trans (timedEdge_stores n false 0 0 _)
  · exact hplan

theorem pushReport_held (r : ExitReport) (s : State) : LifHeld s.lif (pushReport r s).lif := by
  unfold pushReport
  split <;> rfl

theorem retire_held (lost : Bool) (s : State) : LifHeld s.lif (retire lost s).1.lif := by
  unfold retire
  split
  · exact .refl _
  · exact pushReport_held ..

theorem handle_stores {t : Task} (s : State) (h : t.kind ∉ [.closeLostCycle, .beginCycle, .blockComplete, .retire]) :
    StoresOnly s.lif (handle t s).1.lif := by
  by_cases ht : Block.lif ∈ touched t
  · cases t
    case setAutomatic o v => exact (handle_undisturbed (.setAutomatic o v) s rfl).2.2.2.1
    case formDelivered o => exact formPure_stores o s
    case handDelivered o => exact (handle_undisturbed (.handDelivered o) s rfl).2.2.2.1
    case directClose n => exact (handle_undisturbed (.directClose n) s rfl).2.2.2.1
    case flxEndingCloses => exact flxEndingCloses_stores s
    case flxTakeEdges => exact flxTakeEdges_stores s
    case potGroup g => exact (handle_undisturbed (.potGroup g) s rfl).2.2.2.1
    case feedEvaluate => exact (handle_undisturbed .feedEvaluate s rfl).2.2.2.1
    case feederRestart => exact (handle_undisturbed .feederRestart s rfl).2.2.2.1
    case refresh =>
      simp only [handle, refresh]
      (repeat' split) <;> first | exact .refl _ | exact handCommand_stores ..
    case closeLostCycle => exact absurd (by decide) h
    case beginCycle => exact absurd (by decide) h
    case blockComplete => exact absurd (by decide) h
    case retire lost => exact absurd (by simp [Task.kind]) h
    all_goals simp [touched] at ht
  · exact .of_touches (handle_touches t s) ht

/-- The kinds of hand-over that only a cycle start makes of LIF's counts. -/
def cycleKinds : List TaskKind := [.closeLostCycle, .beginCycle, .blockComplete]

theorem handle_lifHeld {t : Task} (s : State) (h : t.kind ∉ cycleKinds) : LifHeld s.lif (handle t s).1.lif := by
  by_cases hr : t.kind = .retire
  · cases t <;> first | exact retire_held .. | cases hr
  · exact (handle_stores s (by simp_all [cycleKinds])).held

theorem emitted_no_cycle (k : TaskKind) : k ∉ cycleKinds → (emitted k).all (fun j => !cycleKinds.contains j) = true := by
  cases k <;> decide

theorem handle_emits_no_cycle {t : Task} (s : State) (h : t.kind ∉ cycleKinds) : ∀ u ∈ (handle t s).2, u.kind ∉ cycleKinds := by
  intro u hu
  have hk := List.all_eq_true.mp (emitted_no_cycle t.kind h) u.kind (among_iff.mp (handle_emits t s) u hu)
  simpa using hk

/-! ## Alarms -/

/-- The alarm has been raised in the present cycle (R174, step 1). -/
def RaisedNow (s : State) (a : AlarmIx) : Prop := (s.acu.alarms[a]).raiseCycle = some s.lif.cycle

/-- From `s` to `t`, in one cycle, every alarm keeps its raise cycle or is raised, and none becomes ACTIVE or LATCHED otherwise. -/
structure AlarmsMoved (s t : State) : Prop where
  cycle : t.lif.cycle = s.lif.cycle
  entries : t.tbs.alarms = s.tbs.alarms
  raise : ∀ a : AlarmIx, (t.acu.alarms[a]).raiseCycle = (s.acu.alarms[a]).raiseCycle ∨ RaisedNow t a
  set : ∀ a : AlarmIx, alarmSet t a = true → alarmSet s a = true ∨ RaisedNow t a

theorem AlarmsMoved.raisedNow {s t : State} (h : AlarmsMoved s t) {a : AlarmIx} (ha : RaisedNow s a) : RaisedNow t a := by
  obtain hr | hr := h.raise a
  · exact hr.trans (ha.trans (congrArg some h.cycle.symm))
  · exact hr

theorem AlarmsMoved.refl (s : State) : AlarmsMoved s s := ⟨rfl, rfl, fun _ => .inl rfl, fun _ h => .inl h⟩

theorem AlarmsMoved.trans {s t u : State} (h : AlarmsMoved s t) (k : AlarmsMoved t u) : AlarmsMoved s u where
  cycle := k.cycle.trans h.cycle
  entries := k.entries.trans h.entries
  raise a := by
    obtain hr | hr := k.raise a
    · exact (h.raise a).imp hr.trans k.raisedNow
    · exact .inr hr
  set a ha := by
    obtain hs | hs := k.set a ha
    · exact (h.set a hs).imp_right k.raisedNow
    · exact .inr hs

theorem AlarmsMoved.of_alarms {s t : State} (hc : t.lif.cycle = s.lif.cycle) (he : t.tbs.alarms = s.tbs.alarms)
    (ha : t.acu.alarms = s.acu.alarms) : AlarmsMoved s t :=
  ⟨hc, he, fun a => .inl (by rw [ha]), fun a h => .inl (by rw [← h, alarmSet_of_eq ha])⟩

/-- One record changes: its raise cycle stays or is the present one, and it becomes set only by a raise. -/
theorem AlarmsMoved.setAlarm {s : State} {a : AlarmIx} {r : AlarmRecord}
    (hr : r.raiseCycle = (s.acu.alarms[a]).raiseCycle ∨ r.raiseCycle = some s.lif.cycle)
    (hs : r.state = .active ∨ r.state = .latched → alarmSet s a = true ∨ r.raiseCycle = some s.lif.cycle) :
    AlarmsMoved s (setAlarm s a r) := by
  refine ⟨rfl, rfl, fun b => ?_, fun b hb => ?_⟩
  · by_cases hab : a = b
    · subst hab
      have hrec : (Machine.setAlarm s a r).acu.alarms[a] = r := vset_same ..
      rw [RaisedNow, hrec]
      exact hr
    · exact .inl (by rw [show (Machine.setAlarm s a r).acu.alarms[b] = s.acu.alarms[b] from vset_other _ hab r])
  · by_cases hab : a = b
    · subst hab
      have hrec : (Machine.setAlarm s a r).acu.alarms[a] = r := vset_same ..
      rw [RaisedNow, hrec]
      exact hs ((alarmSet_setAlarm_same s a r).mp hb)
    · exact .inl (by rw [← alarmSet_setAlarm_other s r hab, hb])

theorem takeCondition_moved (a : AlarmIx) (value evaluation : Bool) (s : State) : AlarmsMoved s (takeCondition a value evaluation s).1 := by
  unfold takeCondition
  dsimp only
  split
  · exact .refl s
  · refine .setAlarm ?_ ?_
    · split
      · exact .inr rfl
      · exact .inl rfl
    · intro h
      by_cases hset : alarmSet s a = true
      · exact .inl hset
      · have hold : ¬((s.acu.alarms[a]).state = .active ∨ (s.acu.alarms[a]).state = .latched) := fun h => hset ((alarmSet_iff s a).mpr h)
        obtain ⟨hna, hnl⟩ := not_or.mp hold
        refine .inr ?_
        have hstate : (levelNext s.tbs.alarms[a] (s.acu.alarms[a]).state (s.acu.alarms[a]).count value evaluation).1 = .active := by
          refine ((levelNext_becomes_set ?_).resolve_left hna).resolve_left hnl
          split at h <;> exact h
        rw [if_pos ⟨hstate, hna⟩]
        rfl

theorem takeEvent_moved (a : AlarmIx) (s : State) : AlarmsMoved s (takeEvent a s).1 := by
  unfold takeEvent
  dsimp only
  split
  · exact .refl s
  · exact .setAlarm (.inr rfl) fun _ => .inr rfl

theorem restartAlarms_moved (s : State) : AlarmsMoved s (restartAlarms s).1 := by
  refine ⟨rfl, rfl, fun a => .inl ?_, fun a h => .inl (restartAlarms_set h)⟩
  have hrec : (restartAlarms s).1.acu.alarms[a] = _ := Vector.getElem_ofFn ..
  rw [hrec]
  split <;> rfl

/-- The kinds of hand-over that change alarm records. -/
theorem handle_alarmRecords {t : Task} (s : State) (h : t.kind ∉ [.condition, .event, .restartAlarms]) :
    (handle t s).1.acu.alarms = s.acu.alarms := by
  by_cases ht : Block.acu ∈ touched t
  · cases t
    case condition | event | restartAlarms => simp [Task.kind] at h
    case a41Btk | a41Hld => rfl
    case activate g x => exact activateGroup_alarms g x s
    case deactivate g => exact deactivateGroup_alarms g s
    all_goals simp [touched] at ht
  · exact congrArg Acu.alarms ((handle_touches t s).same .acu ht)

theorem handle_moved {t : Task} (s : State) (h : t.kind ∉ cycleKinds) : AlarmsMoved s (handle t s).1 := by
  by_cases hk : t.kind ∈ [.condition, .event, .restartAlarms]
  · cases t
    case condition a value evaluation => exact takeCondition_moved a value evaluation s
    case event a => exact takeEvent_moved a s
    case restartAlarms => exact restartAlarms_moved s
    all_goals simp [Task.kind] at hk
  · exact .of_alarms (handle_lifHeld s h).cycle (handle_alarms t s) (handle_alarmRecords s hk)

/-- An event that is no cycle start moves the alarms by raises alone. -/
theorem settle_moved (n : Nat) {ts : List Task} (s : State) (h : ∀ t ∈ ts, t.kind ∉ cycleKinds) : AlarmsMoved s (settle n ts s) :=
  settle_keeps (P := AlarmsMoved s) (Q := fun t => t.kind ∉ cycleKinds) (fun _ u ht hu => hu.trans (handle_moved u ht))
    (fun _ u ht _ => handle_emits_no_cycle u ht) (fun _ hu => ⟨hu.cycle, hu.entries, hu.raise, hu.set⟩) n ts s h (.refl s)

theorem run_moved {ts : List Task} (s : State) (h : ∀ t ∈ ts, t.kind ∉ cycleKinds) : AlarmsMoved s (run s ts) := settle_moved _ s h

theorem settle_lifHeld (n : Nat) {ts : List Task} (s : State) (h : ∀ t ∈ ts, t.kind ∉ cycleKinds) : LifHeld s.lif (settle n ts s).lif :=
  settle_keeps (P := fun u => LifHeld s.lif u.lif) (Q := fun t => t.kind ∉ cycleKinds) (fun _ u ht hu => hu.trans (handle_lifHeld u ht))
    (fun _ u ht _ => handle_emits_no_cycle u ht) (fun _ hu => hu) n ts s h (.refl _)

/-! ## A raise by the event itself -/

theorem takeEvent_raises {a : AlarmIx} {s : State} (hm : (s.tbs.alarms[a]).masked = false) (hk : alarmKind a = .event) :
    RaisedNow (takeEvent a s).1 a ∧ alarmSet (takeEvent a s).1 a = true := by
  have hno : ¬((s.tbs.alarms[a]).masked || alarmKind a != .event) = true := by
    rw [hm, hk]
    decide
  unfold takeEvent
  dsimp only
  rw [if_neg hno]
  refine ⟨?_, (alarmSet_setAlarm_same ..).mpr (.inr rfl)⟩
  have hrec : (setAlarm s a (raised s.lif.cycle { s.acu.alarms[a] with state := .latched })).acu.alarms[a] = _ := vset_same ..
  rw [RaisedNow, hrec]
  rfl

/-- An alarm whose condition is handed over true is ACTIVE at once from LATCHED, and from CLEAR where it has no delay (R171). -/
theorem takeCondition_raises {a : AlarmIx} {s : State} (evaluation : Bool) (hm : (s.tbs.alarms[a]).masked = false)
    (hk : alarmKind a = .level)
    (hr : (s.acu.alarms[a]).state = .latched ∨ ((s.acu.alarms[a]).state = .clear ∧ (s.tbs.alarms[a]).delay = 0)) :
    RaisedNow (takeCondition a true evaluation s).1 a ∧ alarmSet (takeCondition a true evaluation s).1 a = true := by
  have hno : ¬((s.tbs.alarms[a]).masked || alarmKind a != .level) = true := by
    rw [hm, hk]
    decide
  have hnext : levelNext s.tbs.alarms[a] (s.acu.alarms[a]).state (s.acu.alarms[a]).count true evaluation = (.active, 0) := by
    obtain h | ⟨h, hd⟩ := hr
    · rw [h]
      rfl
    · rw [h]
      exact if_pos hd
  have hold : (s.acu.alarms[a]).state ≠ .active := by
    obtain h | ⟨h, -⟩ := hr <;> rw [h] <;> decide
  unfold takeCondition
  dsimp only
  rw [if_neg hno, hnext, if_pos (And.intro rfl hold)]
  refine ⟨?_, (alarmSet_setAlarm_same ..).mpr (.inl rfl)⟩
  rw [RaisedNow, show (setAlarm s a _).acu.alarms[a] = _ from vset_same ..]
  rfl

end Sys2Proof.Machine
end

section
/-! FEED_NOW (R153), ACK_HOLD and a HOLD that joins an episode (R188, R191). -/

namespace Sys2Proof.Machine

/-! ## The start of a feed (R153) -/

theorem mayFeed_iff (s : State) : mayFeed s = true ↔ s.pot.feeder.state = .idle ∧ (s.pot.state = .molten ∨ s.pot.state = .ready)
    ∧ groupActive s .feed = false ∧ ∃ m, s.pot.level = some m ∧ m < levelHigh s.tbs := by
  simp only [mayFeed, Bool.and_eq_true, beq_iff_eq, Bool.or_eq_true, Bool.not_eq_true', Option.any_eq_true, decide_eq_true_eq, and_assoc]

theorem handOperation_out (op : FeederOperation) (s : State) : (handOperation op s).out = { s.out with operation := some op } := by
  unfold handOperation
  dsimp only
  split <;> rfl

theorem handOperation_lif (op : FeederOperation) (s : State) : (handOperation op s).lif =
    if s.tbs.outputCommitted[O 21] = true then
      takeCommand ⟨O 21, outputNode s.tbs (O 21), outputChannel s.tbs (O 21), min op.quantity (outputLimit s.tbs (O 21)), op.number,
        op.action⟩ s.lif
    else s.lif := by
  unfold handOperation
  dsimp only
  split <;> rfl

/-- An operation changes the feeder's record in OUT and LIF's command stores, and nothing else (R28). -/
theorem handOperation_eq (op : FeederOperation) (s : State) :
    handOperation op s = { s with out := (handOperation op s).out, lif := (handOperation op s).lif } := by
  unfold handOperation
  dsimp only
  split <;> rfl

/-- The feeder as a feed starts (R153). -/
def feedingFeeder (s : State) : Feeder :=
  { s.pot.feeder with state := .feeding, number := s.pot.feeder.number + 1, levelBefore := s.pot.level, delivered := 0,
                      aborted := false, feedTimer := some (feedTimeout s.tbs) }

theorem startFeed_eq (s : State) : startFeed s =
    handOperation ⟨.feed, (feedQuantum s.tbs).toNat, s.pot.feeder.number + 1⟩ (setFeeder s (feedingFeeder s)) := rfl

theorem startFeed_feeder (s : State) : (startFeed s).pot = { s.pot with feeder := feedingFeeder s } := by
  rw [startFeed_eq, handOperation_pot]
  rfl

theorem startFeed_out (s : State) :
    (startFeed s).out = { s.out with operation := some ⟨.feed, (feedQuantum s.tbs).toNat, s.pot.feeder.number + 1⟩ } := by
  rw [startFeed_eq, handOperation_out]
  rfl

theorem startFeed_lif (s : State) : (startFeed s).lif =
    if s.tbs.outputCommitted[O 21] = true then
      takeCommand ⟨O 21, outputNode s.tbs (O 21), outputChannel s.tbs (O 21),
        min (feedQuantum s.tbs).toNat (outputLimit s.tbs (O 21)), s.pot.feeder.number + 1, .feed⟩ s.lif
    else s.lif := by
  rw [startFeed_eq, handOperation_lif]
  rfl

theorem startFeed_only (s : State) :
    startFeed s = { s with pot := (startFeed s).pot, out := (startFeed s).out, lif := (startFeed s).lif } := by
  rw [startFeed_eq, handOperation_pot]
  exact handOperation_eq ..

/-- Settles O55: the decision of FEED_NOW takes the start of a feed at once. -/
theorem feedStartedOnRequest : Obligations.FeedStartedOnRequest := by
  intro r s ha hline
  dsimp only
  refine ⟨fun hno => ?_, fun hmay => ?_⟩
  · refine exec_refused (c := .feedNow r) rfl ha ?_
    rw [show decideByCode (22 : Word16).toNat r s = decideFeedNow r s from rfl, decideFeedNow, if_neg hline,
      if_neg (fun h => hno ((mayFeed_iff s).mp h))]
  · refine ⟨startFeed s, ?_, startFeed_feeder s, startFeed_out s, startFeed_lif s, startFeed_only s⟩
    refine (exec_accepted (c := .feedNow r) rfl ha).trans ?_
    rw [show decideByCode (22 : Word16).toNat r s = decideFeedNow r s from rfl, decideFeedNow, if_neg hline,
      if_pos ((mayFeed_iff s).mpr hmay)]
    simp only [answer, run_nil, startFeed_feeder, feedingFeeder]

/-! ## ACK_HOLD, and a HOLD during an episode (R188, R191) -/

theorem beginsEpisode_joins {p : HoldPhase} (h : p = .stopping ∨ p = .held) : beginsEpisode p = false := by
  obtain rfl | rfl := h <;> rfl

/-- A cause during an episode joins its record (R188). -/
theorem holdCause_joins (c : Cause) {s : State} (hline : s.mru.line = .run ∨ s.mru.line = .draining)
    (hphase : s.hld.phase = .stopping ∨ s.hld.phase = .held) :
    holdCause c s = ({ s with hld := { s.hld with record := s.hld.record.map (joinRecord c) } }, []) := by
  rw [holdCause, if_pos ((lineTakesHolds_iff s).mpr hline)]
  obtain h | h := hphase <;> rw [h]

theorem joinRecord_eq (c : Cause) : joinRecord c = fun x =>
    if x.later.length < 7 then { x with later := x.later ++ [c], lock := .locked }
    else { x with notListed := min 255 (x.notListed + 1), lock := .locked } := rfl

/-- Settles O50: ACK_HOLD by its decision, HOLD by its one hand-over. -/
theorem holdJoinsAndIsAcknowledged : Obligations.HoldJoinsAndIsAcknowledged := by
  intro r s hline
  refine ⟨fun ha hphase => ?_, fun ha hrecord => ?_, fun x ha hrecord => ?_⟩
  · refine (exec_accepted (c := .hold r) rfl ha).trans ?_
    have hrun : run s [.holdCause (.request r.src)] = _ :=
      (Takes.one (t := .holdCause _) (holdCause_joins (.request r.src) hline hphase)).run (by decide)
    rw [show decideByCode (9 : Word16).toNat r s = decideHold r s from rfl, decideHold, inHoldLines_of _ hline]
    simp only [answer, hrun, holdBytes, lineByte, beginsEpisode_joins hphase, Bool.false_eq_true, if_false, joinRecord_eq]
  · refine exec_refused (c := .ackHold r) rfl ha ?_
    rw [show decideByCode (10 : Word16).toNat r s = decideAckHold r s from rfl, decideAckHold, inHoldLines_of _ hline, hrecord]
  · refine (exec_accepted (c := .ackHold r) rfl ha).trans ?_
    rw [show decideByCode (10 : Word16).toNat r s = decideAckHold r s from rfl, decideAckHold, inHoldLines_of _ hline, hrecord]
    simp only [answer, run_nil, holdBytes, lineByte, lockStateCode]

end Sys2Proof.Machine
end

section
/-! The hand-overs that only follow from others, and the alarms whose conditions each block gives (R7, R8, R20, R76, R103, R117,
R118, R146, R152, R164, R166, R169). -/

namespace Sys2Proof.Machine

/-! ## Kinds that follow from hand-overs alone -/

/-- The kinds of the hand-overs that are quiet. -/
def quietKinds : List TaskKind :=
  [.setAutomatic, .formDelivered, .handDelivered, .directClose, .condition, .a41Btk, .a41Hld, .event, .activate, .deactivate,
   .restartAlarms, .restartGroup, .entryBlocked, .admission, .conveyor, .noMotion, .defect, .disposition, .dispositionTold,
   .flxRework, .flxForcing, .tleGroup, .tleConditions, .tleRestart, .phmDecide, .phmPhase, .potEvaluate, .potChanged, .potAlarm,
   .potGroup, .potLine, .potLeavesUnconfigured, .setbackTimer, .potGoverning, .pumpCommand, .releasePumps, .potNotReadyTest,
   .pumpDelivered, .pumpFault, .levelConditions, .feedEvaluate, .feedFaulted, .settleOver, .settleFinish, .feederRelease,
   .feederRestart, .duct1Demand, .fanCommands, .fanCommand, .pumpReported, .fanReported, .fanGraceOver, .ductConditions,
   .ductSignal, .flame, .exmLeavesUnconfigured, .holdCause, .phaseTold, .holdLine, .lineTold, .drainingTest, .configuredTest]

theorem quietKinds_contains (t : Task) : quietKinds.contains t.kind = quiet t := by cases t <;> rfl

theorem quiet_of_kind {t : Task} (h : t.kind ∈ quietKinds) : quiet t = true := by
  rw [← quietKinds_contains]
  simpa using h

theorem among_quiet {ts : List Task} (h : ts.all quiet = true) : Among quietKinds ts := by
  refine List.all_eq_true.mpr fun t ht => ?_
  rw [quietKinds_contains]
  exact List.all_eq_true.mp h t ht

theorem settle_undisturbed (n : Nat) {ts : List Task} (s : State) (h : ts.all quiet = true) : Undisturbed s (settle n ts s) :=
  settle_kinds (P := Undisturbed s) quietKinds (by decide) (fun t u ht hu => hu.trans (handle_undisturbed t u (quiet_of_kind ht)))
    (fun u h => h.trans (Touches.undisturbed ⟨fun b hb => by cases b <;> first | exact absurd (by decide) hb | rfl⟩)) n ts s
    (among_quiet h) (.refl s)

/-! ## The conditions that a hand-over gives to ACU -/

/-- The alarms whose conditions a kind of hand-over gives. -/
def givenAlarms : TaskKind → List AlarmIx
  | .giveLoopLost => [A 0]
  | .blockComplete => [A 1]
  | .giveSignalStale => [A 2]
  | .tleConditions => [A 3, A 4, A 5, A 6, A 7, A 8, A 9, A 10, A 11, A 12, A 13, A 14, A 15, A 16, A 17, A 18]
  | .tleRestart => [A 11, A 12, A 13, A 14, A 15, A 16, A 17, A 18]
  | .levelConditions => [A 20, A 21, A 22]
  | .pumpFault => [A 25]
  | .fluxTank => [A 26, A 27]
  | .ductSignal => [A 30, A 31, A 32, A 33, A 34, A 35]
  | .flame => [A 36]
  | .entryBlocked => [A 40]
  | .a41Btk | .a41Hld => [A 41]
  | _ => []

theorem sensorLostAlarm_mem : ∀ l : LoopIx, sensorLostAlarm l ∈ givenAlarms .tleRestart := by decide

theorem loopAlarms_mem : ∀ l : LoopIx, sensorLostAlarm l ∈ givenAlarms .tleConditions ∧ overTempAlarm l ∈ givenAlarms .tleConditions := by
  decide

theorem ductAlarm_mem (d : Duct) (c : DuctCondition) : ductAlarm d c ∈ givenAlarms .ductSignal := by
  cases d <;> cases c <;> decide

theorem ductSignal_gives {a : AlarmIx} {v e : Bool} {i : SigIx} {s : State} (h : Task.condition a v e ∈ (ductSignal i s).2) :
    a ∈ givenAlarms .ductSignal := by
  unfold ductSignal at h
  split at h
  · unfold giveDuctCondition at h
    split at h
    · cases h
    · obtain ⟨rfl, -⟩ := Task.condition.inj (List.mem_singleton.mp h)
      exact ductAlarm_mem ..
  · cases h

theorem tleRestart_gives {a : AlarmIx} {v e : Bool} {s : State} (h : Task.condition a v e ∈ (tleRestart s).2) :
    a ∈ givenAlarms .tleRestart := by
  obtain ⟨l, -, hl⟩ := List.mem_map.mp h
  obtain ⟨rfl, -⟩ := Task.condition.inj hl
  exact sensorLostAlarm_mem l

theorem tleConditions_gives {l : LoopIx} {a : AlarmIx} {v e : Bool} {s : State} (h : Task.condition a v e ∈ (tleConditions l s).2) :
    a ∈ givenAlarms .tleConditions := by
  simp only [tleConditions, List.mem_cons, List.not_mem_nil, or_false] at h
  obtain h | h := h <;> obtain ⟨rfl, -⟩ := Task.condition.inj h
  · exact (loopAlarms_mem l).1
  · exact (loopAlarms_mem l).2

/-- A hand-over gives the conditions of its own block's alarms alone. -/
theorem handle_gives {t : Task} {a : AlarmIx} {v e : Bool} {s : State} (h : Task.condition a v e ∈ (handle t s).2) :
    a ∈ givenAlarms t.kind := by
  have hk : TaskKind.condition ∈ emitted t.kind := among_iff.mp (handle_emits t s) _ h
  cases t
  case ductSignal i => exact ductSignal_gives h
  case tleRestart => exact tleRestart_gives h
  case tleConditions l => exact tleConditions_gives h
  case levelConditions | fluxTank =>
    simp only [handle, levelConditions, fluxTank, List.mem_cons, List.not_mem_nil, or_false, Task.condition.injEq] at h
    simp only [Task.kind, givenAlarms, List.mem_cons, List.not_mem_nil, or_false]
    tauto
  case giveLoopLost | blockComplete | giveSignalStale | pumpFault | flame | entryBlocked | a41Btk | a41Hld =>
    obtain ⟨rfl, -⟩ := Task.condition.inj (List.mem_singleton.mp h)
    exact List.mem_singleton.mpr rfl
  all_goals exact absurd hk (by simp only [Task.kind]; decide)

/-! ## Alarms that an event leaves as they are -/

/-- A hand-over changes the record of a LEVEL alarm only where it gives its condition, or at RESTART. -/
theorem handle_alarm_stays {t : Task} {a : AlarmIx} (s : State) (hk : alarmKind a = .level) (hr : t.kind ≠ .restartAlarms)
    (hc : ∀ v e, t ≠ .condition a v e) : (handle t s).1.acu.alarms[a] = s.acu.alarms[a] := by
  by_cases hsame : t.kind ∈ [.condition, .event, .restartAlarms]
  · cases t
    case condition b v e =>
      have hne : b ≠ a := fun hb => hc v e (by rw [hb])
      simp only [handle, takeCondition]
      split
      · rfl
      · exact vset_other _ hne _
    case event b =>
      simp only [handle, takeEvent]
      split
      · rfl
      · next hev =>
        have hne : b ≠ a := by
          rintro rfl
          rw [hk] at hev
          simp at hev
        exact vset_other _ hne _
    case restartAlarms => exact absurd rfl hr
    all_goals simp [Task.kind] at hsame
  · rw [handle_alarmRecords s hsame]

/-- An event of some kinds leaves the record of a LEVEL alarm whose condition none of them gives. -/
theorem settle_alarm_stays {a : AlarmIx} (ks : List TaskKind) (hclosed : closedKinds ks = true)
    (hgive : (ks.all fun k => !(givenAlarms k).contains a) = true) (hrestart : TaskKind.restartAlarms ∉ ks) (hk : alarmKind a = .level)
    (n : Nat) {ts : List Task} (s : State) (hts : Among ks ts) (hc : ∀ v e, Task.condition a v e ∉ ts) :
    (settle n ts s).acu.alarms[a] = s.acu.alarms[a] := by
  refine settle_keeps (P := fun u => u.acu.alarms[a] = s.acu.alarms[a]) (Q := fun t => t.kind ∈ ks ∧ ∀ v e, t ≠ .condition a v e)
    (fun t u ht hu => ?_) (fun t u ht _ x hx => ⟨among_iff.mp (handle_among hclosed u ht.1) x hx, ?_⟩) (fun _ hu => hu) n ts s
    (fun t ht => ⟨among_iff.mp hts t ht, fun v e h => hc v e (h ▸ ht)⟩) rfl
  · exact (handle_alarm_stays u hk (fun h => hrestart (h ▸ ht.1)) ht.2).trans hu
  · rintro v e rfl
    have hno := List.all_eq_true.mp hgive t.kind ht.1
    simp only [Bool.not_eq_true', List.contains_eq_mem, decide_eq_false_iff_not] at hno
    exact hno (handle_gives hx)

/-- The quiet kinds but for RESTART's. -/
def followingKinds : List TaskKind := quietKinds.filter fun k => k != .restartAlarms && k != .restartGroup && k != .tleRestart

/-! ## The end of a degradation block (R8) -/

/-- The state as a degradation block ends (R1). -/
def blockEnded (s : State) : State :=
  { s with lif := { s.lif with lastBlockErrors := s.lif.blockErrors, blockErrors := 0, blockCycles := 0 } }

/-- The condition of A1 (R8). -/
def degraded (s : State) : Bool := s.mru.configured.line && decide (degradedThreshold s.tbs ≤ s.lif.blockErrors)

theorem degraded_iff (s : State) :
    degraded s = true ↔ s.mru.configured.line = true ∧ degradedThreshold s.tbs ≤ s.lif.blockErrors := by
  rw [degraded, Bool.and_eq_true, decide_eq_true_iff]

theorem blockComplete_eq (s : State) : blockComplete s = (blockEnded s, [.condition (A 1) (degraded s) true]) := rfl

theorem run_blockComplete (s : State) : ∃ n, run s [.blockComplete] =
    settle n (takeCondition (A 1) (degraded s) true (blockEnded s)).2 (takeCondition (A 1) (degraded s) true (blockEnded s)).1 := by
  refine ⟨4294967294, ?_⟩
  have h := settle_cons 4294967294 (.condition (A 1) (degraded s) true) [] (blockEnded s)
  rw [List.append_nil] at h
  exact (run_cons s .blockComplete []).trans h

theorem takeCondition_masked {a : AlarmIx} {s : State} (v e : Bool) (h : (s.tbs.alarms[a]).masked = true) :
    takeCondition a v e s = (s, []) := by
  unfold takeCondition
  dsimp only
  rw [if_pos (by rw [h]; rfl)]

/-- The record of a LEVEL alarm after a condition that it takes (R171, R174). -/
def conditionRecord (a : AlarmIx) (v e : Bool) (s : State) : AlarmRecord :=
  let next := levelNext s.tbs.alarms[a] (s.acu.alarms[a]).state (s.acu.alarms[a]).count v e
  let r := { s.acu.alarms[a] with state := next.1, count := next.2 }
  if next.1 = .active ∧ (s.acu.alarms[a]).state ≠ .active then raised s.lif.cycle r else r

theorem takeCondition_unmasked {a : AlarmIx} {s : State} (v e : Bool) (hm : (s.tbs.alarms[a]).masked = false)
    (hk : alarmKind a = .level) : takeCondition a v e s = (setAlarm s a (conditionRecord a v e s),
      changeTasks (s.tbs.alarms[a]).links a (s.acu.alarms[a]).state
        (levelNext s.tbs.alarms[a] (s.acu.alarms[a]).state (s.acu.alarms[a]).count v e).1) := by
  unfold takeCondition
  dsimp only
  rw [if_neg (by rw [hm, hk]; decide)]
  rfl

theorem changeTasks_followingKinds (links : BitVec 8) (a : AlarmIx) (x y : AlarmState) : Among followingKinds (changeTasks links a x y) :=
  (changeTasks_among links a x y).mono (by decide)

theorem changeTasks_no_condition (links : BitVec 8) (a b : AlarmIx) (x y : AlarmState) (v e : Bool) :
    Task.condition b v e ∉ changeTasks links a x y := fun h =>
  absurd (among_iff.mp (changeTasks_among links a x y) _ h) (by simp [Task.kind])

/-- An alarm that POT does not watch and that has no links calls for nothing (R174, R175). -/
theorem changeTasks_unlinked (a : AlarmIx) (x y : AlarmState) (h : isPotAlarm a = false) : changeTasks 0 a x y = [] := by
  have hgroups : allGroups.filter (groupLink 0) = [] := by decide
  have hraise : raiseTasks 0 a x = [] := by
    rw [raiseTasks, hgroups, potTold, h]
    simp [holdLink, admissionLink]
  have hclear : clearTasks 0 a = [] := by
    rw [clearTasks, potTold, h]
    simp [admissionLink]
  have htold : potTold a true = [] := by
    rw [potTold, h]
    rfl
  unfold changeTasks
  rw [hraise, hclear, htold]
  (repeat' split) <;> rfl

section
variable {a : AlarmIx} {s : State} (v e : Bool) (n : Nat) (hm : (s.tbs.alarms[a]).masked = false) (hk : alarmKind a = .level)
include hm hk

/-- What follows from a condition leaves the record of its alarm, unless it gives the condition again. -/
theorem settle_condition_record (hgive : (followingKinds.all fun k => !(givenAlarms k).contains a) = true) :
    (settle n (takeCondition a v e s).2 (takeCondition a v e s).1).acu.alarms[a] = conditionRecord a v e s := by
  rw [takeCondition_unmasked v e hm hk]
  exact (settle_alarm_stays followingKinds (by decide) hgive (by decide) hk n _ (changeTasks_followingKinds ..)
    (changeTasks_no_condition _ _ _ _ _)).trans (vset_same ..)

theorem settle_condition_unlinked (hlinks : (s.tbs.alarms[a]).links = 0) (hpot : isPotAlarm a = false) :
    settle n (takeCondition a v e s).2 (takeCondition a v e s).1 = setAlarm s a (conditionRecord a v e s) := by
  rw [takeCondition_unmasked v e hm hk, hlinks, changeTasks_unlinked _ _ _ hpot, settle_nil]

end

theorem settle_condition_undisturbed (a : AlarmIx) (v e : Bool) (n : Nat) (s : State) :
    Undisturbed s (settle n (takeCondition a v e s).2 (takeCondition a v e s).1) :=
  (handle_undisturbed (.condition a v e) s rfl).trans (settle_undisturbed n _ (takeCondition_quiet ..))

/-- The rows of the table of R171 at an evaluation. -/
theorem conditionRecord_rows {a : AlarmIx} {s : State} {v : Bool} {x : AlarmRecord} (hx : x = conditionRecord a v true s) :
    let old := s.acu.alarms[a]
    let e := s.tbs.alarms[a]
    let raisedNow : AlarmRecord := ⟨.active, 0, min 255 (old.occurrences + 1), some s.lif.cycle⟩
    (old.state = .clear → ¬v = true → x = old)
    ∧ (old.state = .clear → v = true → e.delay = 0 → x = raisedNow)
    ∧ (old.state = .clear → v = true → 0 < e.delay → x = { old with state := .pending, count := 0 })
    ∧ (old.state = .pending → v = true → e.delay ≤ old.count + 1 → x = raisedNow)
    ∧ (old.state = .pending → v = true → old.count + 1 < e.delay → x = { old with count := old.count + 1 })
    ∧ (old.state = .pending → ¬v = true → x = { old with state := .clear, count := 0 })
    ∧ (old.state = .active → v = true → x = old)
    ∧ (old.state = .active → ¬v = true → e.cls = .soft → x = { old with state := .clear })
    ∧ (old.state = .active → ¬v = true → e.cls = .hard → x = { old with state := .latched })
    ∧ (old.state = .latched → v = true → x = raisedNow)
    ∧ (old.state = .latched → ¬v = true → x = old) := by
  subst hx
  unfold conditionRecord
  generalize s.acu.alarms[a] = old
  generalize s.tbs.alarms[a] = e
  obtain ⟨state, count, occurrences, raiseCycle⟩ := old
  dsimp only
  cases v <;> cases state <;> simp [levelNext, raised, satAdd] <;> grind

/-- Settles O21: A1 takes its condition once, and nothing that follows gives it again. -/
theorem degradationBlockEnds : Obligations.DegradationBlockEnds := by
  intro s
  obtain ⟨n, hn⟩ := run_blockComplete s
  have hund := settle_condition_undisturbed (A 1) (degraded s) true n (blockEnded s)
  refine ⟨run s [.blockComplete], rfl, ?_⟩
  rw [hn]
  dsimp only
  rw [← degraded_iff]
  refine ⟨hund, fun hm => ?_, fun hm hlinks => ?_, fun hm => ?_⟩
  · rw [takeCondition_masked (s := blockEnded s) _ _ hm, settle_nil]
    rfl
  · have hrec := settle_condition_unlinked (a := A 1) (s := blockEnded s) (degraded s) true n hm rfl hlinks rfl
    have hnew : (setAlarm (blockEnded s) (A 1) (conditionRecord (A 1) (degraded s) true (blockEnded s))).acu.alarms[A 1] = _ :=
      vset_same ..
    rw [hrec, hnew]
    rfl
  · exact conditionRecord_rows (s := blockEnded s)
      (settle_condition_record (a := A 1) (s := blockEnded s) (degraded s) true n hm rfl (by decide))

end Sys2Proof.Machine
end

section
/-! The cycle start (R1, R2, R6) and the expiry of a stale timer (R18). -/

namespace Sys2Proof.Machine

/-! ## What a stale notice and the notices of a cycle start leave -/

/-- From `s` to `t` the signals, the tables, the position and what the records keep stay, and LIF changes in its command stores alone,
with no cell carried that was not carried before. -/
structure Steady (s t : State) : Prop where
  sig : t.sig = s.sig
  tbs : t.tbs = s.tbs
  pending : t.pending = s.pending
  mru : t.mru = { s.mru with line := t.mru.line }
  position : t.btk.position = s.btk.position
  identities : t.btk.train.map identity = s.btk.train.map identity
  stores : StoresOnly s.lif t.lif
  carried : t.lif.carryList.Sublist s.lif.carryList

theorem Steady.refl (s : State) : Steady s s := ⟨rfl, rfl, rfl, rfl, rfl, rfl, .refl _, .refl _⟩

theorem Steady.trans {s t u : State} (h : Steady s t) (k : Steady t u) : Steady s u where
  sig := k.sig.trans h.sig
  tbs := k.tbs.trans h.tbs
  pending := k.pending.trans h.pending
  mru := by rw [k.mru, h.mru]
  position := k.position.trans h.position
  identities := k.identities.trans h.identities
  stores := h.stores.trans k.stores
  carried := k.carried.trans h.carried

/-- A change of blocks that it does not speak of. -/
theorem Steady.of_touches {bs : List Block} {s t : State} (h : Touches bs s t)
    (hb : ∀ b ∈ bs, b ∉ [Block.sig, .tbs, .pending, .mru, .btk, .lif]) : Steady s t := by
  have same (b : Block) (hmem : b ∈ [Block.sig, .tbs, .pending, .mru, .btk, .lif]) : b ∉ bs := fun hin => hb b hin hmem
  have hbtk : t.btk = s.btk := h.same .btk (same _ (by decide))
  have hlif : t.lif = s.lif := h.same .lif (same _ (by decide))
  have hmru : t.mru = s.mru := h.same .mru (same _ (by decide))
  exact ⟨h.same .sig (same _ (by decide)), h.same .tbs (same _ (by decide)), h.same .pending (same _ (by decide)),
    by rw [hmru], by rw [hbtk], by rw [hbtk], by rw [hlif]; exact .refl _, by rw [hlif]⟩

theorem Undisturbed.steady {s t : State} (h : Undisturbed s t) (hc : t.lif.carryList.Sublist s.lif.carryList) : Steady s t := by
  obtain ⟨hsig, htbs, hpending, hlif, hmru, hbtk, hid, -⟩ := h
  exact ⟨hsig, htbs, hpending, hmru, by rw [hbtk], hid, hlif, hc⟩

theorem handCommand_carryList (o : OutIx) (s : State) : (handCommand o s).lif.carryList = s.lif.carryList := by
  unfold handCommand
  split
  · exact takeCommand_carryList ..
  · rfl

theorem formPure_carried (o : OutIx) (s : State) : (formPure o s).lif.carryList.Sublist s.lif.carryList := by
  unfold formPure
  dsimp only
  split
  · exact .refl _
  · rw [handCommand_carryList]
    change (ite _ _ _ : State).lif.carryList.Sublist _
    split
    · exact List.filter_sublist
    · exact .refl _

theorem handOperation_carryList (op : FeederOperation) (s : State) : (handOperation op s).lif.carryList = s.lif.carryList := by
  rw [handOperation_lif]
  split
  · exact takeCommand_carryList ..
  · rfl

theorem handOperation_carried (op : FeederOperation) (s : State) :
    (handOperation op s).lif.carryList.Sublist s.lif.carryList := by rw [handOperation_carryList]

/-- Only the nozzle edges carry cells (R10). -/
theorem handle_carried {t : Task} (s : State) (h : quiet t = true) : (handle t s).1.lif.carryList.Sublist s.lif.carryList := by
  by_cases ht : Block.lif ∈ touched t
  · cases t
    case setAutomatic o v => exact formPure_carried o _
    case formDelivered o => exact formPure_carried o s
    case handDelivered o =>
      simp only [handle, handDelivered]
      (repeat' split)
      · unfold handLastOperation
        split
        · exact handOperation_carried _ s
        · exact .refl _
      · rw [handCommand_carryList]
        exact formPure_carried o s
      · exact formPure_carried o s
    case directClose n =>
      exact (formPure_carried (valveOutput n) _).trans List.filter_sublist
    case potGroup g =>
      simp only [handle, potGroup, potActs]
      (repeat' split) <;> first | exact .refl _ | exact handOperation_carried _ s
    case feedEvaluate =>
      simp only [handle, feedEvaluate]
      split
      · exact handOperation_carried _ (setFeeder s (feedingFeeder s))
      · exact .refl _
    case feederRestart =>
      simp only [handle, feederRestart]
      split
      · exact handOperation_carried _ s
      all_goals exact .refl _
    all_goals simp [touched, quiet] at ht h
  · rw [show (handle t s).1.lif = s.lif from (handle_touches t s).same .lif ht]

/-- The notices of a cycle start and of a stale signal, and what follows from them. -/
def steadyKinds : List TaskKind :=
  quietKinds ++ silentKinds ++ [.loopDown, .giveLoopLost, .giveSignalStale, .staleDucts, .refresh]

theorem encoderGap_identities (s : State) : (encoderGap s).1.btk.train.map identity = s.btk.train.map identity := by
  simp only [encoderGap, List.map_map]
  rfl

theorem encoderGap_steady (s : State) : Steady s (encoderGap s).1 :=
  ⟨rfl, rfl, rfl, rfl, rfl, encoderGap_identities s, .refl _, .refl _⟩

theorem boardSensorSilent_steady (exit : Bool) (s : State) : Steady s (boardSensorSilent exit s).1 := by
  cases exit <;> exact ⟨rfl, rfl, rfl, rfl, rfl, rfl, .refl _, .refl _⟩

theorem handCommand_steady (o : OutIx) (s : State) : Steady s (handCommand o s) :=
  have h : Touches [.lif] s (handCommand o s) := handCommand_touches o s
  ⟨h.same .sig (by decide), h.same .tbs (by decide), h.same .pending (by decide), by rw [h.same .mru (by decide)],
    by rw [h.same .btk (by decide)], by rw [h.same .btk (by decide)], handCommand_stores o s, by rw [handCommand_carryList]⟩

theorem refresh_steady (s : State) : Steady s (refresh s).1 := by
  unfold refresh
  (repeat' split) <;> first | exact .refl s | exact handCommand_steady ..

theorem handle_steady {t : Task} (s : State) (h : t.kind ∈ steadyKinds) : Steady s (handle t s).1 := by
  by_cases hq : quiet t = true
  · exact (handle_undisturbed t s hq).steady (handle_carried s hq)
  · cases t
    case loopDown | encoderSilent => exact encoderGap_steady s
    case boardSensorSilent exit => exact boardSensorSilent_steady exit s
    case refresh => exact refresh_steady s
    case loopSilent l i => exact .of_touches (bs := [.tle]) (handle_touches (.loopSilent l i) s) (by decide)
    case potTemperature => exact .of_touches (handle_touches .potTemperature s) (by decide)
    case pyrometerSilent => exact .of_touches (handle_touches .pyrometerSilent s) (by decide)
    case levelSilent => exact .of_touches (handle_touches .levelSilent s) (by decide)
    case fluxTank => exact .of_touches (handle_touches .fluxTank s) (by decide)
    case pumpFeedbackSilent w => exact .of_touches (bs := [.pot]) (handle_touches (.pumpFeedbackSilent w) s) (by decide)
    case giveLoopLost | giveSignalStale | staleDucts => exact .refl s
    all_goals first | exact absurd rfl hq | simp [Task.kind, steadyKinds, quietKinds, silentKinds] at h

theorem settle_steady (n : Nat) {ts : List Task} (s : State) (h : Among steadyKinds ts) : Steady s (settle n ts s) :=
  settle_kinds (P := Steady s) steadyKinds (by decide) (fun _ u ht hu => hu.trans (handle_steady u ht))
    (fun _ hu => ⟨hu.sig, hu.tbs, hu.pending, hu.mru, hu.position, hu.identities, hu.stores, hu.carried⟩) n ts s h (.refl s)

/-! ## The expiry of a stale timer (R18) -/

/-- A signal goes STALE (R18). -/
def staleRecord (s : State) (i : SigIx) : State :=
  { s with sig := vset s.sig i { s.sig[i] with freshness := .stale, staleTimer := none } }

/-- Settles O31: the record is written first, and the stale notice leaves the signals. -/
theorem signalGoesStale : Obligations.SignalGoesStale := by
  intro i s
  have hexec : exec (.staleTimerExpiry i) s = .next (run (staleExpiry i s).1 (staleExpiry i s).2) := rfl
  refine ⟨fun h => ?_, fun h => ?_⟩
  · rw [hexec, show staleExpiry i s = (s, []) from if_neg (by rw [h]; decide), run_nil]
  · rw [hexec, show staleExpiry i s = (staleRecord s i, silentTasks i) from if_pos (Option.isSome_iff_ne_none.mpr h)]
    have hs : Steady (staleRecord s i) (run (staleRecord s i) (silentTasks i)) :=
      settle_steady _ _ ((silentTasks_among i).mono (by decide))
    exact ⟨_, rfl, hs.sig, hs.tbs, hs.pending, hs.mru, hs.stores, hs.position, hs.identities⟩

end Sys2Proof.Machine
end

section
/-! The cycle start (R1, R2, R6). -/

namespace Sys2Proof.Machine

/-! ## The train (R2) -/

/-- The cells that a train build leaves in the queue, before it makes them late (R2). -/
def leftCells (s : State) : List QueuedCell :=
  (dropOvertaken s.lif.carryList s.lif.commandQueue).drop (20 - s.lif.carryList.length)

/-- The cells of a train between its first two and its messages (R2). -/
def commandCells (s : State) : List RawCell :=
  ((dropOvertaken s.lif.carryList s.lif.commandQueue).take (20 - s.lif.carryList.length)).map queuedBytes
  ++ s.lif.carryList.map (fun c => timedBytes { c with delay := 0 })

/-- The deferred cells that move into the queue behind what a train build leaves there (R2). -/
def movedCells (s : State) : List CommandCell := s.lif.deferredSet.take (32 - (leftCells s).length)

theorem buildTrain_commandQueue (s : State) :
    (buildTrain s).lif.commandQueue = (leftCells s).map leftBehind ++ (movedCells s).map QueuedCell.command := by
  simp only [buildTrain, countLateEdges, leftCells, movedCells, List.length_map]

theorem buildTrain_deferredSet (s : State) : (buildTrain s).lif.deferredSet = s.lif.deferredSet.drop (32 - (leftCells s).length) := by
  simp only [buildTrain, countLateEdges, leftCells, List.length_map]

theorem deferredSet_moved (s : State) : s.lif.deferredSet = movedCells s ++ (buildTrain s).lif.deferredSet := by
  rw [buildTrain_deferredSet, movedCells, List.take_append_drop]

theorem buildTrain_sent (s : State) : (buildTrain s).lif.sent =
    [ownCell 63 1 0 (bytes4 s.lif.cycle.toNat), ownCell 63 10 0 (statusPayload s)] ++ commandCells s
    ++ (s.lif.messageQueue.take 6).map messageBytes ++ [ownCell 63 2 0 (bytes4 s.lif.cycle.toNat)] := by
  simp only [buildTrain, countLateEdges, commandCells, List.append_assoc]
  rfl

theorem isTimed_leftBehind (q : QueuedCell) : isTimed (leftBehind q) = isTimed q := by cases q <;> rfl

theorem filter_isTimed_leftBehind (l : List QueuedCell) :
    ((l.map leftBehind).filter isTimed).length = (l.filter isTimed).length := by
  rw [List.filter_map, List.length_map]
  congr 2
  funext q
  exact isTimed_leftBehind q

theorem buildTrain_lateEdges (s : State) :
    (buildTrain s).flx.lateEdges = min 65535 (s.flx.lateEdges + ((leftCells s).filter isTimed).length) := by
  rw [← filter_isTimed_leftBehind]
  rfl

theorem buildTrain_sent_length {s : State} (h : s.lif.carryList.length ≤ 20) : (buildTrain s).lif.sent.length ≤ 29 := by
  rw [buildTrain_sent]
  simp only [commandCells, List.length_append, List.length_map, List.length_cons, List.length_nil, List.length_take]
  omega

theorem buildTrain_timed {s : State} {c : TimedCell} (h : .timed c ∈ (buildTrain s).lif.commandQueue) : c.delay = 0 := by
  rw [buildTrain_commandQueue, List.mem_append, List.mem_map, List.mem_map] at h
  obtain ⟨q, -, hq⟩ | ⟨d, -, hd⟩ := h
  · cases q
    · cases hq
    · cases hq
      rfl
  · cases hd

theorem dropOvertaken_length (carry : List TimedCell) (q : List QueuedCell) : (dropOvertaken carry q).length ≤ q.length :=
  List.length_filter_le ..

theorem buildTrain_queue_length {s : State} (h : s.lif.commandQueue.length ≤ 32) : (buildTrain s).lif.commandQueue.length ≤ 32 := by
  have hleft : (leftCells s).length ≤ 32 := by
    rw [leftCells, List.length_drop]
    have := dropOvertaken_length s.lif.carryList s.lif.commandQueue
    omega
  rw [buildTrain_commandQueue, List.length_append, List.length_map, List.length_map, movedCells, List.length_take]
  omega

theorem buildTrain_left {s : State} {i : Nat} {q : QueuedCell} (h : (leftCells s)[i]? = some q) :
    (buildTrain s).lif.commandQueue[i]? = some (leftBehind q) := by
  obtain ⟨hi, -⟩ := List.getElem?_eq_some_iff.mp h
  rw [buildTrain_commandQueue, List.getElem?_append_left (by rw [List.length_map]; exact hi), List.getElem?_map, h]
  rfl

theorem buildTrain_moved (s : State) :
    (buildTrain s).lif.commandQueue.drop (leftCells s).length = (movedCells s).map QueuedCell.command := by
  rw [buildTrain_commandQueue]
  have h := List.drop_left (l₁ := (leftCells s).map leftBehind) (l₂ := (movedCells s).map QueuedCell.command)
  rwa [List.length_map] at h

theorem buildTrain_room (s : State) :
    (buildTrain s).lif.deferredSet = [] ∨ 32 ≤ (leftCells s).length + (movedCells s).length := by
  by_cases h : s.lif.deferredSet.length ≤ 32 - (leftCells s).length
  · exact .inl (by rw [buildTrain_deferredSet, List.drop_eq_nil_of_le h])
  · exact .inr (by rw [movedCells, List.length_take]; omega)

/-! ## The outcome of the cycle that was open (R1, R6) -/

/-- At its cycle start the loop goes DOWN (R6). -/
def GoesDown (s : State) : Prop := s.lif.openCycle = true ∧ s.lif.loopState = .up ∧ 7 ≤ s.lif.consecutiveLost

theorem outcomeLost_loopState (l : Lif) :
    (outcomeLost l).loopState = if l.loopState = .up ∧ min 8 (l.consecutiveLost + 1) = 8 then .down else l.loopState := rfl

theorem outcomeLost_stays {l : Lif} (h : ¬(l.loopState = .up ∧ 7 ≤ l.consecutiveLost)) : (outcomeLost l).loopState = l.loopState := by
  rw [outcomeLost_loopState, if_neg]
  rintro ⟨hup, hn⟩
  exact h ⟨hup, by omega⟩

theorem outcomeLost_down {l : Lif} (h : l.loopState = .up ∧ 7 ≤ l.consecutiveLost) : (outcomeLost l).loopState = .down := by
  rw [outcomeLost_loopState, if_pos ⟨h.1, by omega⟩]

theorem closeLostCycle_closed {s : State} (h : s.lif.openCycle = false) : closeLostCycle s = (s, []) :=
  if_neg (by rw [h]; exact Bool.false_ne_true)

theorem closeLostCycle_open {s : State} (h : s.lif.openCycle = true) :
    (closeLostCycle s).1 = { s with lif := outcomeLost { s.lif with openCycle := false } } := by
  rw [closeLostCycle, if_pos h]

theorem closeLostCycle_emits_down {s : State} (h : GoesDown s) : (closeLostCycle s).2 = [.loopDown] := by
  obtain ⟨hopen, hup, hn⟩ := h
  rw [closeLostCycle, if_pos hopen]
  exact if_pos ⟨by rw [hup]; decide, outcomeLost_down (l := { s.lif with openCycle := false }) ⟨hup, hn⟩⟩

theorem closeLostCycle_emits {s : State} (h : ¬GoesDown s) : (closeLostCycle s).2 = [] := by
  by_cases hopen : s.lif.openCycle = true
  · rw [closeLostCycle, if_pos hopen]
    refine if_neg ?_
    rintro ⟨hne, hd⟩
    refine hne (Eq.trans ?_ hd)
    exact (outcomeLost_stays (l := { s.lif with openCycle := false }) fun k => h ⟨hopen, k⟩).symm
  · rw [closeLostCycle_closed (by simpa using hopen)]

/-- What LIF's outcome of a lost cycle leaves of LIF. -/
theorem closeLostCycle_lif (s : State) : (closeLostCycle s).1.lif =
    { s.lif with openCycle := (closeLostCycle s).1.lif.openCycle, consecutiveComplete := (closeLostCycle s).1.lif.consecutiveComplete,
                 consecutiveLost := (closeLostCycle s).1.lif.consecutiveLost, loopState := (closeLostCycle s).1.lif.loopState } := by
  by_cases hopen : s.lif.openCycle = true
  · rw [closeLostCycle_open hopen]
    rfl
  · rw [closeLostCycle_closed (by simpa using hopen)]

theorem closeLostCycle_only (s : State) : (closeLostCycle s).1 = { s with lif := (closeLostCycle s).1.lif } := by
  by_cases hopen : s.lif.openCycle = true
  · rw [closeLostCycle_open hopen]
  · rw [closeLostCycle_closed (by simpa using hopen)]

theorem closeLostCycle_loopState {s : State} (h : ¬GoesDown s) : (closeLostCycle s).1.lif.loopState = s.lif.loopState := by
  by_cases hopen : s.lif.openCycle = true
  · rw [closeLostCycle_open hopen]
    exact outcomeLost_stays (l := { s.lif with openCycle := false }) fun k => h ⟨hopen, k⟩
  · rw [closeLostCycle_closed (by simpa using hopen)]

/-! ## The cycle that opens (R1, R2) -/

/-- The state after the cycle start itself, and the end of a degradation block where it comes (R1). -/
def cycleBegun (s : State) : State :=
  if 500 ≤ s.lif.blockCycles + 1 then blockEnded (beginCycle s).1 else (beginCycle s).1

/-- A state with the cycle count raised and the cycle open, from which the train is built. -/
def cycleOpened (s : State) : State := { s with lif := { s.lif with cycle := s.lif.cycle + 1, openCycle := true } }

/-- The notices of a cycle start, after the cycle has begun. -/
def cycleNotices : List Task := [.giveLoopLost, .giveSignalStale, .staleDucts, .refresh]

/-- After the cycle has begun only notices follow, unless the event was given up before. -/
theorem settle_beginCycle {n : Nat} (s : State) (h : 2 ≤ n ∨ (settle n (.beginCycle :: cycleNotices) s).overrun = false) :
    Steady (cycleBegun s) (settle n (.beginCycle :: cycleNotices) s) := by
  have hnotices : Among steadyKinds cycleNotices := rfl
  obtain _ | _ | n := n
  · obtain h | h := h
    · omega
    · cases h
  · obtain h | h := h
    · omega
    · have hstep : settle 1 (.beginCycle :: cycleNotices) s = settle 0 ((beginCycle s).2 ++ cycleNotices) (beginCycle s).1 := rfl
      rw [hstep] at h
      generalize (beginCycle s).2 = l at h
      cases l <;> cases h
  · have hstep : settle (n + 2) (.beginCycle :: cycleNotices) s = settle (n + 1) ((beginCycle s).2 ++ cycleNotices) (beginCycle s).1 :=
      settle_cons ..
    rw [hstep]
    by_cases hb : 500 ≤ s.lif.blockCycles + 1
    · have hemits : (beginCycle s).2 = [.blockComplete] := if_pos hb
      have hlast : settle (n + 1) ([.blockComplete] ++ cycleNotices) (beginCycle s).1 =
          settle n (.condition (A 1) (degraded (beginCycle s).1) true :: cycleNotices) (blockEnded (beginCycle s).1) := settle_cons ..
      rw [hemits, hlast, cycleBegun, if_pos hb]
      exact settle_steady n _ rfl
    · have hemits : (beginCycle s).2 = [] := if_neg hb
      rw [hemits, cycleBegun, if_neg hb]
      exact settle_steady (n + 1) _ hnotices

/-- A cycle start: the outcome of the cycle that was open, what follows where the loop goes DOWN, the begin of the new cycle, and the
notices. -/
theorem cycleStart_begun (s : State) (h : GoesDown s → (run s cycleStartTasks).overrun = false) :
    ∃ u, Steady (closeLostCycle s).1 u ∧ (¬GoesDown s → u = (closeLostCycle s).1)
      ∧ Steady (cycleBegun u) (run s cycleStartTasks) := by
  have hrun : run s cycleStartTasks = settle 4294967295 ((closeLostCycle s).2 ++ .beginCycle :: cycleNotices) (closeLostCycle s).1 :=
    run_cons s .closeLostCycle _
  by_cases hd : GoesDown s
  · have hno := h hd
    rw [hrun] at hno ⊢
    obtain ⟨m, u, -, hu, hsettle⟩ | ⟨u, -, hsettle⟩ :=
      settle_append (P := Steady (closeLostCycle s).1) (Q := fun t => t.kind ∈ steadyKinds)
        (fun _ u ht hu => hu.trans (handle_steady u ht)) (fun _ u ht _ => among_iff.mp (handle_among (by decide) u ht)) 4294967295
        (closeLostCycle s).2 (.beginCycle :: cycleNotices) (closeLostCycle s).1
        (by rw [closeLostCycle_emits_down hd]; decide) (.refl _)
    · rw [hsettle] at hno ⊢
      exact ⟨u, hu, fun k => absurd hd k, settle_beginCycle u (.inr hno)⟩
    · rw [hsettle] at hno
      cases hno
  · rw [hrun, closeLostCycle_emits hd]
    exact ⟨_, .refl _, fun _ => rfl, settle_beginCycle _ (.inl (by decide))⟩

theorem cycleBegun_only (s : State) : cycleBegun s = { s with lif := (cycleBegun s).lif, flx := (cycleBegun s).flx } := by
  unfold cycleBegun
  split <;> rfl

theorem cycleBegun_lif (s : State) : (cycleBegun s).lif =
    { (buildTrain (cycleOpened s)).lif with
      blockCycles := if 500 ≤ s.lif.blockCycles + 1 then 0 else s.lif.blockCycles + 1,
      blockErrors := if 500 ≤ s.lif.blockCycles + 1 then 0 else s.lif.blockErrors,
      lastBlockErrors := if 500 ≤ s.lif.blockCycles + 1 then s.lif.blockErrors else s.lif.lastBlockErrors } := by
  unfold cycleBegun
  split
  · rfl
  · next h =>
    have hb : (beginCycle s).1.lif = { (buildTrain (cycleOpened s)).lif with
      blockCycles := if 500 ≤ s.lif.blockCycles + 1 then 0 else s.lif.blockCycles + 1 } := rfl
    rw [hb, if_neg h]
    rfl

/-- What a cycle start leaves of LIF's counts, and what it makes of them: the state `l` before the cycle begins and `m` after. -/
theorem cycleBegun_counts (s : State) :
    (cycleBegun s).lif.cycle = s.lif.cycle + 1 ∧ (cycleBegun s).lif.openCycle = true
    ∧ (cycleBegun s).lif.loopState = s.lif.loopState ∧ (cycleBegun s).lif.consecutiveLost = s.lif.consecutiveLost
    ∧ (cycleBegun s).lif.consecutiveComplete = s.lif.consecutiveComplete ∧ (cycleBegun s).lif.checkErrors = s.lif.checkErrors
    ∧ (cycleBegun s).lif.lateCells = s.lif.lateCells ∧ (cycleBegun s).lif.messageQueue = s.lif.messageQueue.drop 6
    ∧ (cycleBegun s).lif.carryList = [] := by
  rw [cycleBegun_lif]
  exact ⟨rfl, rfl, rfl, rfl, rfl, rfl, rfl, rfl, rfl⟩

theorem Steady.sent {s t : State} (h : Steady s t) : t.lif.sent = s.lif.sent := by rw [h.stores]

section
variable {s : State} (h : GoesDown s → (run s cycleStartTasks).overrun = false)
include h

/-- LIF after a cycle start, from the outcome of the cycle that was open (R1, R6). -/
theorem cycleStart_counts : (run s cycleStartTasks).lif.cycle = s.lif.cycle + 1 ∧ (run s cycleStartTasks).lif.openCycle = true
    ∧ (run s cycleStartTasks).lif.loopState = (closeLostCycle s).1.lif.loopState
    ∧ (run s cycleStartTasks).lif.consecutiveLost = (closeLostCycle s).1.lif.consecutiveLost
    ∧ (run s cycleStartTasks).lif.consecutiveComplete = (closeLostCycle s).1.lif.consecutiveComplete
    ∧ (run s cycleStartTasks).lif.checkErrors = s.lif.checkErrors ∧ (run s cycleStartTasks).lif.lateCells = s.lif.lateCells
    ∧ (run s cycleStartTasks).lif.messageQueue = s.lif.messageQueue.drop 6 ∧ (run s cycleStartTasks).lif.carryList = [] := by
  obtain ⟨u, hu, -, ht⟩ := cycleStart_begun s h
  generalize run s cycleStartTasks = t at ht
  obtain ⟨hcycle, hopen, hloop, hlost, hcomplete, hcheck, hlate, hmessages, hcarry⟩ := cycleBegun_counts u
  have hl : StoresOnly (closeLostCycle s).1.lif u.lif := hu.stores
  have ht' : StoresOnly (cycleBegun u).lif t.lif := ht.stores
  have hclose := closeLostCycle_lif s
  have hc := ht.carried
  rw [hcarry, List.sublist_nil] at hc
  refine ⟨?_, ?_, ?_, ?_, ?_, ?_, ?_, ?_, hc⟩ <;> rw [ht']
  · rw [hcycle, hl, hclose]
  · exact hopen
  · rw [hloop, hl]
  · rw [hlost, hl]
  · rw [hcomplete, hl]
  · rw [hcheck, hl, hclose]
  · rw [hlate, hl, hclose]
  · rw [hmessages, hl, hclose]

theorem cycleStart_block : (run s cycleStartTasks).lif.blockCycles = (if 500 ≤ s.lif.blockCycles + 1 then 0 else s.lif.blockCycles + 1)
    ∧ (run s cycleStartTasks).lif.blockErrors = (if 500 ≤ s.lif.blockCycles + 1 then 0 else s.lif.blockErrors)
    ∧ (run s cycleStartTasks).lif.lastBlockErrors =
        (if 500 ≤ s.lif.blockCycles + 1 then s.lif.blockErrors else s.lif.lastBlockErrors) := by
  obtain ⟨u, hu, -, ht⟩ := cycleStart_begun s h
  generalize run s cycleStartTasks = t at ht
  have hl : StoresOnly (closeLostCycle s).1.lif u.lif := hu.stores
  have ht' : StoresOnly (cycleBegun u).lif t.lif := ht.stores
  have hclose := closeLostCycle_lif s
  have hblock : u.lif.blockCycles = s.lif.blockCycles := by rw [hl, hclose]
  have herrors : u.lif.blockErrors = s.lif.blockErrors := by rw [hl, hclose]
  have hlast : u.lif.lastBlockErrors = s.lif.lastBlockErrors := by rw [hl, hclose]
  rw [ht', cycleBegun_lif, hblock, herrors, hlast]
  exact ⟨rfl, rfl, rfl⟩

/-- A cycle start leaves the other blocks as the notices leave them. -/
theorem cycleStart_outside : (run s cycleStartTasks).sig = s.sig ∧ (run s cycleStartTasks).tbs = s.tbs
    ∧ (run s cycleStartTasks).pending = s.pending ∧ (run s cycleStartTasks).mru = { s.mru with line := (run s cycleStartTasks).mru.line }
    ∧ (run s cycleStartTasks).btk.position = s.btk.position
    ∧ (run s cycleStartTasks).btk.train.map identity = s.btk.train.map identity := by
  obtain ⟨u, hu, -, ht⟩ := cycleStart_begun s h
  generalize run s cycleStartTasks = t at ht
  have hbegun := cycleBegun_only u
  have honly := closeLostCycle_only s
  have hbtk : (closeLostCycle s).1.btk = s.btk := by rw [honly]
  have hbtk' : (cycleBegun u).btk = u.btk := by rw [hbegun]
  refine ⟨ht.sig.trans ?_, ht.tbs.trans ?_, ht.pending.trans ?_, ht.mru.trans ?_, ht.position.trans ?_, ht.identities.trans ?_⟩
  · rw [hbegun]
    exact hu.sig.trans (by rw [honly])
  · rw [hbegun]
    exact hu.tbs.trans (by rw [honly])
  · rw [hbegun]
    exact hu.pending.trans (by rw [honly])
  · rw [hbegun, hu.mru, honly]
  · rw [hbtk', hu.position, hbtk]
  · rw [hbtk', hu.identities, hbtk]

end

/-- Settles O18: the counts are those that the begin of the cycle leaves. -/
theorem cycleStartOpensCycle : Obligations.CycleStartOpensCycle := by
  intro s
  refine ⟨run s cycleStartTasks, rfl, fun hdown => ?_⟩
  obtain ⟨hcycle, hopen, hloop, hlost, hcomplete, hcheck, hlate, hmessages, hcarry⟩ := cycleStart_counts hdown
  obtain ⟨hblock, herrors, hlast⟩ := cycleStart_block hdown
  obtain ⟨hsig, htbs, hpending, hmru, hposition, hidentities⟩ := cycleStart_outside hdown
  refine ⟨hcycle, hopen, fun h => ?_, fun h => ?_, fun h => ?_, fun h => ?_, hcheck, hlate, hmessages, hcarry, hsig, htbs, hpending,
    hmru, hposition, hidentities⟩
  · rw [hloop, hlost, hcomplete, closeLostCycle_closed h]
    exact ⟨rfl, rfl, rfl⟩
  · rw [hloop, hlost, hcomplete, closeLostCycle_open h]
    exact ⟨rfl, rfl, rfl⟩
  · have hno : ¬500 ≤ s.lif.blockCycles + 1 := by omega
    rw [hblock, herrors, hlast, if_neg hno, if_neg hno, if_neg hno]
    exact ⟨rfl, rfl, rfl⟩
  · rw [hblock, herrors, hlast, if_pos h, if_pos h, if_pos h]
    exact ⟨rfl, rfl, rfl⟩

theorem statusPayload_withLif (s : State) {l : Lif} (h : l.loopState = s.lif.loopState) :
    statusPayload { s with lif := l } = statusPayload s := by
  have hstate : ({ s with lif := l } : State).lif.loopState = s.lif.loopState := h
  unfold statusPayload
  rw [hstate]
  rfl

theorem cycleBegun_sent (s : State) : (cycleBegun s).lif.sent =
    [ownCell 63 1 0 (bytes4 (s.lif.cycle + 1).toNat), ownCell 63 10 0 (statusPayload (cycleOpened s))] ++ commandCells s
    ++ (s.lif.messageQueue.take 6).map messageBytes ++ [ownCell 63 2 0 (bytes4 (s.lif.cycle + 1).toNat)] := by
  rw [cycleBegun_lif]
  exact buildTrain_sent (cycleOpened s)

/-- Settles O19: the train is the one that is built as the cycle begins. -/
theorem trainSentInOrder : Obligations.TrainSentInOrder := by
  refine ⟨fun s hno => ⟨run s cycleStartTasks, rfl, ?_⟩, fun s => ⟨run s cycleStartTasks, rfl, fun hdone => ?_⟩,
    fun s h => buildTrain_sent_length h, fun s c h => buildTrain_timed h, fun s h => buildTrain_queue_length h, fun s => ?_⟩
  · obtain ⟨u, -, hsame, ht⟩ := cycleStart_begun s fun h => absurd h hno
    have hu := hsame hno
    have hpayload : statusPayload (cycleOpened u) = statusPayload s := by
      rw [hu, cycleOpened, closeLostCycle_only]
      exact statusPayload_withLif s (closeLostCycle_loopState hno)
    have hlif : u.lif = _ := (congrArg State.lif hu).trans (closeLostCycle_lif s)
    rw [ht.sent, cycleBegun_sent, hpayload, commandCells, hlif]
    simp only [List.append_assoc]
  · obtain ⟨u, hu, -, ht⟩ := cycleStart_begun s fun _ => hdone
    refine ⟨statusPayload (cycleOpened u), commandCells u, ?_⟩
    rw [ht.sent, cycleBegun_sent, hu.stores, closeLostCycle_lif]
  · dsimp only
    refine ⟨buildTrain_lateEdges s, movedCells s, deferredSet_moved s, fun i c h => buildTrain_left h, fun i c h => buildTrain_left h,
      buildTrain_moved s, buildTrain_room s⟩

end Sys2Proof.Machine
end

section
/-! A SAMPLE cell as its channel positions (R14, R15): the arrivals of a cell, and the event of a cell with one arrival. -/

namespace Sys2Proof.Machine

/-! ## Channel positions (R15) -/

/-- The channel, the status code and the value of each position of a SAMPLE cell (R15). -/
def positionsOf (c : SampleCell) : List (Nat × Nat × Word16) :=
  [(0, c.value0), (1, c.value1), (2, c.value2), (3, c.value3)].map fun p =>
    (4 * c.sequence.toNat + p.1, c.statuses.toNat / 4 ^ (3 - p.1) % 4, p.2)

/-- The hand-over of one position. -/
def positionTask (src : Byte) (p : Nat × Nat × Word16) : Task := .samplePosition src p.1 p.2.1 p.2.2

/-- The arrival that a position makes, if an entry maps it (R14). -/
def arrivalAt (t : Tbs) (src : Byte) (p : Nat × Nat × Word16) : Option (SigIx × Nat × Word16) :=
  (mappedSignal t src p.1).map fun i => (i, p.2)

theorem sampleTasks_positions {c : SampleCell} (h : c.sequence.toNat ≤ 63) :
    sampleTasks c = (positionsOf c).map (positionTask c.src) := if_neg (by omega)

theorem sampleTasks_ignored {c : SampleCell} (h : 63 < c.sequence.toNat) : sampleTasks c = [] := if_pos h

theorem arrivalsOf_positions (s : State) (c : SampleCell) : arrivalsOf s c = (positionsOf c).filterMap (arrivalAt s.tbs c.src) := by
  rw [positionsOf, List.filterMap_map]
  rfl

theorem exec_sample {c : SampleCell} {s : State} (hv : verdict s.lif.openCycle (sampleRaw c) = .toSig) :
    exec (.sample c) s = .next (run s (sampleTasks c)) := by
  have h : takeSample c s = run s (sampleTasks c) := if_pos hv
  exact congrArg Host.Outcome.next h

/-- The signal records after one arrival (R16, R17). -/
def recordArrival (s : State) (v : Vector SignalRecord 23) (a : SigIx × Nat × Word16) : Vector SignalRecord 23 :=
  vset v a.1 (arrive (channelStaleLimit s.tbs a.1) s.lif.cycle (arrivalStatus a.1 a.2.1 a.2.2) (reading a.1 a.2.2) v[a.1])

/-- The state as an arrival reaches SIG, before the user blocks are told (R17). -/
def arrived (s : State) (a : SigIx × Nat × Word16) : State := { s with sig := recordArrival s s.sig a }

/-- The user blocks told of an arrival (R17). -/
def toldOf (a : SigIx × Nat × Word16) : List Task := arrivalTasks a.1 (arrivalStatus a.1 a.2.1 a.2.2) (reading a.1 a.2.2)

theorem handle_position_unmapped {s : State} {src : Byte} {p : Nat × Nat × Word16} (h : arrivalAt s.tbs src p = none) :
    handle (positionTask src p) s = (s, []) := by
  have hm : mappedSignal s.tbs src p.1 = none := Option.map_eq_none_iff.mp h
  simp only [handle, positionTask, samplePosition, hm]

theorem handle_position_mapped {s : State} {src : Byte} {p : Nat × Nat × Word16} {a : SigIx × Nat × Word16}
    (h : arrivalAt s.tbs src p = some a) : handle (positionTask src p) s = (arrived s a, toldOf a) := by
  obtain ⟨i, hm, rfl⟩ := Option.map_eq_some_iff.mp h
  simp only [handle, positionTask, samplePosition, hm]
  rfl

theorem arrivalAt_of_channel {t u : Tbs} (h : u.channel = t.channel) (src : Byte) (p : Nat × Nat × Word16) :
    arrivalAt u src p = arrivalAt t src p := by
  have hmap : mappedSignal u src p.1 = mappedSignal t src p.1 := by
    simp only [mappedSignal, channelMapped, channelNode, channelChannel, h]
  rw [arrivalAt, arrivalAt, hmap]

theorem TablesHeld.channel {t u : Tbs} (h : TablesHeld t u) : u.channel = t.channel := by rw [h.1]

theorem handle_channel (t : Task) (s : State) : (handle t s).1.tbs.channel = s.tbs.channel := (handle_configuration t s).1.channel

/-! ## All the arrivals of a cell -/

/-- The hand-over is no position of a cell and no step of a cycle start. -/
def follows (t : Task) : Prop := t.kind ∉ .samplePosition :: cycleKinds

theorem emitted_follows (k : TaskKind) : k ∉ .samplePosition :: cycleKinds →
    (emitted k).all (fun j => !(TaskKind.samplePosition :: cycleKinds).contains j) = true := by cases k <;> decide

theorem handle_emits_follows {t : Task} (s : State) (h : follows t) : ∀ u ∈ (handle t s).2, follows u := by
  intro u hu
  have hk := List.all_eq_true.mp (emitted_follows t.kind h) u.kind (among_iff.mp (handle_emits t s) u hu)
  rw [follows]
  simpa using hk

theorem arrivalTasks_follow (i : SigIx) (status : SampleStatus) (x : Int) : ∀ t ∈ arrivalTasks i status x, follows t := by
  intro t ht
  have hk := among_iff.mp (arrivalTasks_among i status x) t ht
  have hall : (emitted .samplePosition).all (fun k => !(TaskKind.samplePosition :: cycleKinds).contains k) = true := by decide
  have hno := List.all_eq_true.mp hall t.kind hk
  rw [follows]
  simpa using hno

theorem toldOf_follow (a : SigIx × Nat × Word16) : ∀ t ∈ toldOf a, follows t := arrivalTasks_follow _ _ _

theorem handle_sig {t : Task} (s : State) (h : t.kind ≠ .samplePosition) : (handle t s).1.sig = s.sig := by
  refine (handle_touches t s).same .sig ?_
  cases t <;> first | exact absurd rfl h | (simp only [touched]; decide)

/-- The signal records are `v`, and the cycle and CHANNEL are those of `s`. -/
structure Recorded (s : State) (v : Vector SignalRecord 23) (u : State) : Prop where
  sig : u.sig = v
  cycle : u.lif.cycle = s.lif.cycle
  channel : u.tbs.channel = s.tbs.channel

theorem Recorded.next {s u : State} {v : Vector SignalRecord 23} {t : Task} (h : Recorded s v u) (ht : follows t) :
    Recorded s v (handle t u).1 where
  sig := (handle_sig u fun k => ht (by rw [k]; decide)).trans h.sig
  cycle := (handle_lifHeld u fun k => ht (List.mem_cons_of_mem _ k)).cycle.trans h.cycle
  channel := (handle_channel t u).trans h.channel

theorem Recorded.arrived {s u : State} {v : Vector SignalRecord 23} (h : Recorded s v u) (a : SigIx × Nat × Word16) :
    Recorded s (recordArrival s v a) (arrived u a) where
  sig := by
    rw [Machine.arrived, recordArrival, recordArrival, h.sig, h.cycle]
    simp only [channelStaleLimit, h.channel]
  cycle := h.cycle
  channel := h.channel

/-- The records that an event of positions leaves: every arrival recorded in turn, unless the event was given up. -/
theorem settle_positions {s : State} (src : Byte) (ps : List (Nat × Nat × Word16)) (n : Nat) {u : State} {v : Vector SignalRecord 23}
    (hu : Recorded s v u) (hdone : (settle n (ps.map (positionTask src)) u).overrun = false) :
    (settle n (ps.map (positionTask src)) u).sig = (ps.filterMap (arrivalAt s.tbs src)).foldl (recordArrival s) v := by
  induction ps generalizing n u v with
  | nil => exact (congrArg State.sig (settle_nil n u)).trans hu.sig
  | cons p ps ih =>
    obtain _ | n := n
    · cases hdone
    · rw [List.map_cons, settle_cons] at hdone ⊢
      have hat := arrivalAt_of_channel hu.channel src p
      cases ha : arrivalAt s.tbs src p with
      | none =>
        rw [handle_position_unmapped (hat.trans ha)] at hdone ⊢
        rw [List.filterMap_cons_none ha]
        exact ih n hu hdone
      | some a =>
        rw [handle_position_mapped (hat.trans ha)] at hdone ⊢
        rw [List.filterMap_cons_some ha, List.foldl_cons]
        obtain ⟨m, w, -, hw, hsettle⟩ | ⟨w, -, hsettle⟩ :=
          settle_append (P := Recorded s (recordArrival s v a)) (Q := follows) (fun _ _ ht hw => hw.next ht)
            (fun _ w ht _ => handle_emits_follows w ht) n (toldOf a) (ps.map (positionTask src)) _
            (toldOf_follow a) (hu.arrived a)
        · rw [hsettle] at hdone ⊢
          exact ih m hw hdone
        · rw [hsettle] at hdone
          cases hdone

/-! ## A cell with one arrival -/

/-- The event ended as `w`, or was given up after it. -/
def EndsAs (t w : State) : Prop := t = w ∨ t = { w with overrun := true }

theorem EndsAs.eq {t w : State} (h : EndsAs t w) (hdone : t.overrun = false) : t = w := by
  obtain h | h := h
  · exact h
  · rw [h] at hdone
    cases hdone

theorem EndsAs.keeps {P : State → Prop} {t w : State} (h : EndsAs t w) (mark : ∀ u, P u → P { u with overrun := true }) (hw : P w) : P t := by
  obtain rfl | rfl := h
  · exact hw
  · exact mark w hw

theorem settle_unmapped {src : Byte} (ps : List (Nat × Nat × Word16)) (n : Nat) {u : State}
    (h : ∀ p ∈ ps, arrivalAt u.tbs src p = none) : EndsAs (settle n (ps.map (positionTask src)) u) u := by
  induction ps generalizing n with
  | nil => exact .inl (settle_nil n u)
  | cons p ps ih =>
    obtain _ | n := n
    · exact .inr rfl
    · rw [List.map_cons, settle_cons, handle_position_unmapped (h p (List.mem_cons_self ..))]
      exact ih n fun q hq => h q (List.mem_cons_of_mem _ hq)

theorem settle_then_unmapped {src : Byte} {ps : List (Nat × Nat × Word16)} {t : Tbs} (h : ∀ p ∈ ps, arrivalAt t src p = none) :
    ∀ (n : Nat) (ts : List Task) (u : State), u.tbs.channel = t.channel →
      EndsAs (settle n (ts ++ ps.map (positionTask src)) u) (settle n ts u)
  | n, [], u, hu => by
    rw [List.nil_append, settle_nil]
    exact settle_unmapped ps n fun p hp => (arrivalAt_of_channel hu src p).trans (h p hp)
  | 0, _ :: _, _, _ => .inl rfl
  | n + 1, x :: ts, u, hu => by
    rw [List.cons_append, settle_cons, settle_cons, ← List.append_assoc]
    exact settle_then_unmapped h n _ _ ((handle_channel x u).trans hu)

theorem takes_unmapped {s : State} {src : Byte} (ps : List (Nat × Nat × Word16)) (h : ∀ p ∈ ps, arrivalAt s.tbs src p = none) :
    Takes ps.length (ps.map (positionTask src)) s s := by
  induction ps with
  | nil => exact .nil s
  | cons p ps ih =>
    have hp : handle (positionTask src p) s = (s, []) := handle_position_unmapped (h p (List.mem_cons_self ..))
    exact Takes.append (.one hp) (ih fun q hq => h q (List.mem_cons_of_mem _ hq))

section
variable {c : SampleCell} {s : State} {a : SigIx × Nat × Word16} (hv : verdict s.lif.openCycle (sampleRaw c) = .toSig)
  (hseq : c.sequence.toNat ≤ 63) (ha : arrivalsOf s c = [a])
include hv hseq ha

/-- The event of a cell with one arrival: its user blocks are told, and nothing else happens. -/
theorem exec_single : ∃ n t, 4294967000 ≤ n ∧ exec (.sample c) s = .next t ∧ EndsAs t (settle n (toldOf a) (arrived s a)) := by
  rw [arrivalsOf_positions] at ha
  obtain ⟨pre, p, post, hpos, hpre, hp, hpost⟩ := List.filterMap_eq_cons_iff.mp ha
  rw [List.filterMap_eq_nil_iff] at hpost
  have hlen : pre.length ≤ 4 := by
    have h := congrArg List.length hpos
    rw [List.length_append, List.length_cons] at h
    change 4 = _ at h
    omega
  have hfuel : Config.cascadeBudget = 4294967295 - pre.length + 1 + pre.length := by
    change 4294967296 = _
    omega
  refine ⟨4294967295 - pre.length, run s (sampleTasks c), by omega, exec_sample hv, ?_⟩
  rw [run, sampleTasks_positions hseq, hpos, List.map_append, List.map_cons, hfuel, takes_unmapped pre hpre, settle_cons,
    handle_position_mapped hp]
  exact settle_then_unmapped (t := s.tbs) hpost _ _ _ rfl

/-- A short event of a cell with one arrival. -/
theorem exec_single_short {k : Nat} {u : State} (h : Takes k (toldOf a) (arrived s a) u) (hk : k ≤ 4294967000)
    (hu : u.tbs.channel = s.tbs.channel) : exec (.sample c) s = .next u := by
  rw [arrivalsOf_positions] at ha
  obtain ⟨pre, p, post, hpos, hpre, hp, hpost⟩ := List.filterMap_eq_cons_iff.mp ha
  rw [List.filterMap_eq_nil_iff] at hpost
  have hlen : pre.length + post.length ≤ 4 := by
    have h := congrArg List.length hpos
    rw [List.length_append, List.length_cons] at h
    change 4 = _ at h
    omega
  have hlast : Takes post.length (post.map (positionTask c.src)) u u :=
    takes_unmapped post fun q hq => (arrivalAt_of_channel hu c.src q).trans (hpost q hq)
  have hmid : Takes (k + 1) [positionTask c.src p] s u := .of_handle (handle_position_mapped hp) h
  rw [exec_sample hv, sampleTasks_positions hseq, hpos, List.map_append, List.map_cons]
  exact congrArg Host.Outcome.next (((takes_unmapped pre hpre).append (hmid.append hlast)).run (by omega))

end

theorem settle_recorded {s u : State} {v : Vector SignalRecord 23} {ts : List Task} (n : Nat) (hts : ∀ t ∈ ts, follows t)
    (h : Recorded s v u) : Recorded s v (settle n ts u) :=
  settle_keeps (P := Recorded s v) (Q := follows) (fun _ _ ht hw => hw.next ht) (fun _ w ht _ => handle_emits_follows w ht)
    (fun _ hw => ⟨hw.sig, hw.cycle, hw.channel⟩) n ts u hts h

theorem recordArrival_same (s : State) (v : Vector SignalRecord 23) (a : SigIx × Nat × Word16) : (recordArrival s v a)[a.1] =
    arrive (channelStaleLimit s.tbs a.1) s.lif.cycle (arrivalStatus a.1 a.2.1 a.2.2) (reading a.1 a.2.2) v[a.1] := vset_same ..

theorem positionTask_follows (src : Byte) (ps : List (Nat × Nat × Word16)) :
    ∀ t ∈ ps.map (positionTask src), t.kind ∉ cycleKinds := by
  intro t ht
  obtain ⟨p, -, rfl⟩ := List.mem_map.mp ht
  simp only [positionTask, Task.kind]
  decide

theorem sample_sig {c : SampleCell} {s : State} (hv : verdict s.lif.openCycle (sampleRaw c) = .toSig) (hseq : c.sequence.toNat ≤ 63)
    (hdone : 2 ≤ (arrivalsOf s c).length → (run s (sampleTasks c)).overrun = false) :
    (run s (sampleTasks c)).sig = (arrivalsOf s c).foldl (recordArrival s) s.sig := by
  have hs : Recorded s s.sig s := ⟨rfl, rfl, rfl⟩
  cases ha : arrivalsOf s c with
  | nil =>
    have hnone := ha
    rw [arrivalsOf_positions, List.filterMap_eq_nil_iff] at hnone
    rw [sampleTasks_positions hseq, (takes_unmapped _ hnone).run (by change 4 ≤ _; omega)]
    rfl
  | cons a as =>
    by_cases has : as = []
    · subst has
      obtain ⟨n, t, -, ht, hend⟩ := exec_single hv hseq ha
      cases Host.Outcome.next.inj (ht.symm.trans (exec_sample hv))
      exact hend.keeps (P := fun u => u.sig = recordArrival s s.sig a) (fun _ h => h)
        (settle_recorded n (toldOf_follow a) (hs.arrived a)).sig
    · have h2 : 2 ≤ (arrivalsOf s c).length := by
        obtain ⟨b, bs, rfl⟩ := List.exists_cons_of_ne_nil has
        rw [ha, List.length_cons, List.length_cons]
        omega
      have hno := hdone h2
      rw [sampleTasks_positions hseq] at hno ⊢
      rw [← ha, arrivalsOf_positions]
      exact settle_positions c.src (positionsOf c) _ hs hno

/-- Settles O25: the positions are taken in order, and what follows from an arrival leaves the signals, CHANNEL and the cycle. -/
theorem sampleArrivalsRecorded : Obligations.SampleArrivalsRecorded := by
  intro c s hv
  refine ⟨fun hseq => ?_, fun hseq => ⟨run s (sampleTasks c), exec_sample hv, fun hdone => ?_, fun i code v ha => ?_, ?_, ?_, ?_, ?_, ?_⟩⟩
  · rw [exec_sample hv, sampleTasks_ignored hseq, run_nil]
  · exact sample_sig hv hseq hdone
  · have hsig := sample_sig hv hseq (by rw [ha, List.length_singleton]; omega)
    rw [ha, List.foldl_cons, List.foldl_nil] at hsig
    dsimp only
    rw [hsig, recordArrival_same s s.sig (i, code, v)]
    simp only [arrive, reading, signedReading, decide_eq_true_iff, satAdd, and_true]
  · exact (run_configuration s _).1.1
  · exact run_pending s _
  · exact (run_configuration s _).1.2
  · exact (run_configuration s _).2
  · refine settle_lifHeld _ s ?_
    rw [sampleTasks_positions hseq]
    exact positionTask_follows c.src _

end Sys2Proof.Machine
end

section
/-! All the kinds of hand-over, and the position after a GOOD encoder sample (R65). -/

namespace Sys2Proof.Machine

/-! ## All kinds but some -/

/-- Every kind of hand-over. -/
def allKinds : List TaskKind :=
  [.closeLostCycle, .beginCycle, .blockComplete, .giveLoopLost, .giveSignalStale, .staleDucts, .refresh, .loopDown,
   .samplePosition, .setAutomatic, .formDelivered, .handDelivered, .directClose, .condition, .a41Btk, .a41Hld, .event,
   .activate, .deactivate, .restartAlarms, .restartGroup, .encoder, .encoderSilent, .boardSensor, .boardSensorSilent,
   .entryLead, .entryTail, .exitLead, .exitTail, .missingTest, .retire, .entryBlocked, .admission, .conveyor, .noMotion,
   .defect, .disposition, .dispositionTold, .flxNewRecord, .flxLength, .flxRework, .flxRemoved, .flxForcing, .flxSample,
   .flxAccount, .flxRunEnds, .flxRunEnd, .flxEndingCloses, .flxTakeEdges, .flxConsume, .fluxTank, .loopArrival, .loopSilent,
   .tleGroup, .tleConditions, .tleRestart, .phmNewRecord, .phmRemoved, .phmDecide, .phmArm, .phmPhase, .pyrometer,
   .pyrometerSilent, .potTemperature, .potEvaluate, .potChanged, .potAlarm, .potGroup, .potLine, .potLeavesUnconfigured,
   .setbackTimer, .potNewRecord, .potRemoved, .potRecord, .potSample, .potGoverning, .potWindows, .potContact, .potStatuses,
   .pumpCommand, .releasePumps, .potNotReadyTest, .pumpDelivered, .pumpFeedback, .pumpFeedbackSilent, .pumpFault,
   .levelArrival, .levelSilent, .levelConditions, .feedEvaluate, .feedFaulted, .settleOver, .settleFinish, .feederRelease,
   .feederRestart, .duct1Demand, .fanCommands, .fanCommand, .pumpReported, .fanReported, .fanGraceOver, .ductConditions,
   .ductSignal, .flame, .exmLeavesUnconfigured, .holdCause, .phaseTold, .hldEncoder, .reachHeld, .heldBoards, .holdLine,
   .lineTold, .drainingTest, .configuredTest]

theorem mem_allKinds (k : TaskKind) : k ∈ allKinds := by cases k <;> decide

/-- All kinds but some. -/
def without (ks : List TaskKind) : List TaskKind := allKinds.filter fun k => !ks.contains k

theorem mem_without {ks : List TaskKind} {k : TaskKind} : k ∈ without ks ↔ k ∉ ks := by
  simp [without, mem_allKinds]

theorem among_without {ks : List TaskKind} {ts : List Task} (h : ∀ t ∈ ts, t.kind ∉ ks) : Among (without ks) ts :=
  among_iff.mpr fun t ht => mem_without.mpr (h t ht)

/-! ## The position (R65) -/

/-- Only an encoder sample moves the position and the reference count. -/
theorem handle_position {t : Task} (s : State) (h : t.kind ≠ .encoder) :
    (handle t s).1.btk.position = s.btk.position ∧ (handle t s).1.btk.reference = s.btk.reference := by
  by_cases hm : movesTrain t = false
  · rw [(handle_train t s hm).2]
    exact ⟨rfl, rfl⟩
  · cases t
    case admission | loopDown | encoderSilent => exact ⟨rfl, rfl⟩
    case encoder status => exact absurd rfl h
    case entryLead p =>
      simp only [handle, entryLead]
      split <;> exact ⟨rfl, rfl⟩
    case retire lost =>
      simp only [handle, retire]
      split
      · exact ⟨rfl, rfl⟩
      · rw [pushReport_btk]
        exact ⟨rfl, rfl⟩
    case disposition n d =>
      simp only [handle, writeDisposition]
      split <;> exact ⟨rfl, rfl⟩
    all_goals exact absurd rfl hm

theorem settle_position (n : Nat) {ts : List Task} (s : State) (h : ∀ t ∈ ts, t.kind ∉ [.samplePosition, .encoder]) :
    (settle n ts s).btk.position = s.btk.position ∧ (settle n ts s).btk.reference = s.btk.reference :=
  settle_kinds (P := fun u => u.btk.position = s.btk.position ∧ u.btk.reference = s.btk.reference) (without [.samplePosition, .encoder])
    (by decide)
    (fun t u ht hu => by
      have hne : t.kind ≠ .encoder := fun k => mem_without.mp ht (by rw [k]; decide)
      exact ⟨(handle_position u hne).1.trans hu.1, (handle_position u hne).2.trans hu.2⟩)
    (fun _ hu => hu) n ts s (among_without h) ⟨rfl, rfl⟩

/-! ## A GOOD encoder sample -/

theorem arrivalStatus_encoder (v : Word16) : arrivalStatus (S 10) 0 v = .good := by
  simp only [arrivalStatus, if_true]
  refine if_pos ?_
  have h : ((v.toNat : Nat) : Int) ≤ 65535 := by have := v.isLt; omega
  simp [validValue, reading, signedReading, S, h]

theorem toldOf_encoder (v : Word16) : toldOf (S 10, 0, v) = [.encoder .good] := by
  rw [toldOf, arrivalStatus_encoder]
  rfl

/-- What follows from a sample has no sample of its own. -/
theorem handle_emits_no_encoder {t : Task} (s : State) (h : t.kind ≠ .samplePosition) :
    ∀ u ∈ (handle t s).2, u.kind ∉ [.samplePosition, .encoder] := by
  have hk : ∀ k : TaskKind, k ≠ .samplePosition → (emitted k).all (fun j => !([TaskKind.samplePosition, .encoder] : List TaskKind).contains j) = true := by
    intro k
    cases k <;> decide
  intro u hu
  simpa using List.all_eq_true.mp (hk t.kind h) u.kind (among_iff.mp (handle_emits t s) u hu)

theorem lastGood_arrived {s : State} {i : SigIx} {code : Nat} {v : Word16} (h : arrivalStatus i code v = .good) :
    lastGood (arrived s (i, code, v)) i = reading i v := by
  have hrec : (arrived s (i, code, v)).sig[i] = _ := recordArrival_same s s.sig (i, code, v)
  simp only [lastGood, hrec, arrive, h, if_true, Option.getD_some]

/-- The count that a GOOD encoder sample gives. -/
theorem encoderCount_arrived (s : State) (v : Word16) : BitVec.ofInt 16 (lastGood (arrived s (S 10, 0, v)) (S 10)) = v := by
  rw [lastGood_arrived (arrivalStatus_encoder v)]
  change BitVec.ofInt 16 ((v.toNat : Nat) : Int) = v
  rw [BitVec.ofInt_natCast]
  exact BitVec.eq_of_toNat_eq (by rw [BitVec.toNat_ofNat]; exact Nat.mod_eq_of_lt v.isLt)

/-- The position and the reference count that a GOOD encoder sample leaves (R65). -/
theorem encoder_position (s : State) : (encoder .good s).1.btk.position = nextPosition s.btk (BitVec.ofInt 16 (lastGood s (S 10)))
    ∧ (encoder .good s).1.btk.reference = some (BitVec.ofInt 16 (lastGood s (S 10))) := by
  simp only [encoder, if_true]
  split <;> exact ⟨rfl, rfl⟩

section
variable {c : SampleCell} {s : State} {v : Word16} (hv : verdict s.lif.openCycle (sampleRaw c) = .toSig)
  (hseq : c.sequence.toNat ≤ 63) (ha : arrivalsOf s c = [(S 10, 0, v)])
include hv hseq ha

/-- The state after the encoder's own part of a GOOD sample, and what follows. -/
theorem exec_encoder : ∃ n t, 4294966000 ≤ n ∧ exec (.sample c) s = .next t
    ∧ EndsAs t (settle n (encoder .good (arrived s (S 10, 0, v))).2 (encoder .good (arrived s (S 10, 0, v))).1) := by
  obtain ⟨n, t, hn, ht, hend⟩ := exec_single hv hseq ha
  obtain ⟨m, rfl⟩ : ∃ m, n = m + 1 := ⟨n - 1, by omega⟩
  rw [toldOf_encoder, settle_cons, List.append_nil] at hend
  exact ⟨m, t, by omega, ht, hend⟩

theorem exec_encoder_position : ∃ t, exec (.sample c) s = .next t ∧ t.btk.position = nextPosition s.btk v ∧ t.btk.reference = some v := by
  obtain ⟨n, t, -, ht, hend⟩ := exec_encoder hv hseq ha
  refine ⟨t, ht, hend.keeps (P := fun u => u.btk.position = nextPosition s.btk v ∧ u.btk.reference = some v) (fun _ h => h) ?_⟩
  obtain ⟨hp, hr⟩ := settle_position n (ts := (encoder .good (arrived s (S 10, 0, v))).2) (encoder .good (arrived s (S 10, 0, v))).1
    (handle_emits_no_encoder (t := .encoder .good) _ (by decide))
  obtain ⟨hp', hr'⟩ := encoder_position (arrived s (S 10, 0, v))
  rw [hp, hr, hp', hr', encoderCount_arrived]
  exact ⟨rfl, rfl⟩

end

/-- Settles O26: the position is written first, and nothing that follows writes it. -/
theorem encoderMovesPosition : Obligations.EncoderMovesPosition := by
  intro c s v hv hseq ha
  obtain ⟨t, ht, hposition, hreference⟩ := exec_encoder_position hv hseq ha
  refine ⟨t, ht, hreference, fun h => ?_, fun old h => ?_⟩
  · rw [hposition, nextPosition, h]
  · rw [hposition, nextPosition, h]
    rfl

end Sys2Proof.Machine
end

section
/-! What the hand-overs keep of POT's state, feeder and debt (R138, R149, R153 to R157), and a COMPLETION (R154). -/

namespace Sys2Proof.Machine

/-! ## POT's state, feeder and debt -/

/-- The pot state with its melt timer, the feeder and the debt stay. -/
structure PotCore (p q : Pot) : Prop where
  state : q.state = p.state
  meltTimer : q.meltTimer = p.meltTimer
  feeder : q.feeder = p.feeder
  debt : q.debt = p.debt

theorem PotCore.refl (p : Pot) : PotCore p p := ⟨rfl, rfl, rfl, rfl⟩

theorem PotCore.trans {p q r : Pot} (h : PotCore p q) (k : PotCore q r) : PotCore p r :=
  ⟨k.state.trans h.state, k.meltTimer.trans h.meltTimer, k.feeder.trans h.feeder, k.debt.trans h.debt⟩

theorem potActs_core {s : State} {e : Effect} (h : PotCore s.pot e.1.pot) : PotCore s.pot (potActs s e).1.pot :=
  potActs_keeps (P := fun u => PotCore s.pot u.pot) (.refl _) h

theorem setPump_core (s : State) (w : Wave) (x : Pump) : PotCore s.pot (setPump s w x).pot := by
  cases w <;> exact ⟨rfl, rfl, rfl, rfl⟩

theorem governWave_core (w : Wave) (s : State) : PotCore s.pot (governWave w s).pot := by
  have h : PotCore s.pot (setPump s w { pumpOf s.pot w with governing := waveGoverning s w }).pot := setPump_core ..
  unfold governWave
  dsimp only
  split
  · exact h.trans ⟨rfl, rfl, rfl, rfl⟩
  · exact h

theorem enterWindow_core (w : Wave) (s : State) : PotCore s.pot (enterWindow w s).1.pot :=
  List.foldlRecOn (motive := fun t : State => PotCore s.pot t.pot) _ _ (.refl _) fun _ ht _ _ => ht.trans ⟨rfl, rfl, rfl, rfl⟩

theorem contactFlags_core (s : State) : PotCore s.pot (contactFlags s).pot :=
  List.foldlRecOn (motive := fun t : State => PotCore s.pot t.pot) _ _ (.refl _) fun _ ht _ _ => ht.trans ⟨rfl, rfl, rfl, rfl⟩

theorem potContact_core (s : State) : PotCore s.pot (potContact s).1.pot := by
  unfold potContact
  refine potActs_core ?_
  dsimp only
  split
  · exact ⟨rfl, rfl, rfl, rfl⟩
  · rw [accrueWave_pot, accrueWave_pot]
    exact ⟨rfl, rfl, rfl, rfl⟩

theorem levelArrival_core (status : SampleStatus) (s : State) : PotCore s.pot (levelArrival status s).1.pot := by
  unfold levelArrival
  refine potActs_core ?_
  (repeat' split) <;> exact ⟨rfl, rfl, rfl, rfl⟩

theorem setbackTimer_core (s : State) : PotCore s.pot (setbackTimer s).1.pot := by
  unfold setbackTimer
  refine potActs_core ?_
  (repeat' split) <;> exact ⟨rfl, rfl, rfl, rfl⟩

/-- The kinds of hand-over that can move the feeder. -/
def feederKinds : List TaskKind := [.potGroup, .feedEvaluate, .feedFaulted, .settleOver, .settleFinish, .feederRelease, .feederRestart]

/-- The other hand-overs keep POT's state, feeder and debt, but for the evaluations of the state and the wave statuses. -/
theorem handle_potCore {t : Task} (s : State) (h : t.kind ∉ feederKinds ++ [.potEvaluate, .potAlarm, .potStatuses]) :
    PotCore s.pot (handle t s).1.pot := by
  by_cases ht : Block.pot ∈ touched t
  · cases t
    case loopDown | encoderSilent | potLeavesUnconfigured => exact ⟨rfl, rfl, rfl, rfl⟩
    case potTemperature | potNewRecord | potRemoved => exact potActs_core ⟨rfl, rfl, rfl, rfl⟩
    case setbackTimer => exact setbackTimer_core s
    case potGoverning => exact potActs_core ((governWave_core _ s).trans (governWave_core _ _))
    case potWindows => exact potActs_core ((enterWindow_core _ s).trans (enterWindow_core _ _))
    case pumpDelivered w => exact potActs_core (setPump_core ..)
    case pumpFeedback w status => exact potActs_core (setPump_core ..)
    case pumpFeedbackSilent w => exact potActs_core (setPump_core ..)
    case pumpFault w evaluation => exact setPump_core ..
    case levelArrival status => exact levelArrival_core status s
    case levelSilent => exact potActs_core ⟨rfl, rfl, rfl, rfl⟩
    case potContact => exact potContact_core s
    case potEvaluate | potAlarm | potStatuses | potGroup | feedEvaluate | feedFaulted | settleOver | settleFinish | feederRelease
      | feederRestart => exact absurd (by simp only [Task.kind]; decide) h
    all_goals simp [touched] at ht
  · rw [show (handle t s).1.pot = s.pot from (handle_touches t s).same .pot ht]
    exact .refl _

theorem potEvaluate_feeder (why : PotEvent) (s : State) :
    (potEvaluate why s).1.pot.feeder = s.pot.feeder ∧ (potEvaluate why s).1.pot.debt = s.pot.debt := by
  unfold potEvaluate
  refine potActs_keeps (P := fun u => u.pot.feeder = s.pot.feeder ∧ u.pot.debt = s.pot.debt) ⟨rfl, rfl⟩ ?_
  split <;> exact ⟨rfl, rfl⟩

theorem potAlarm_feeder (set : Bool) (s : State) :
    (potAlarm set s).1.pot.feeder = s.pot.feeder ∧ (potAlarm set s).1.pot.debt = s.pot.debt := by
  obtain h | ⟨-, -, h⟩ | ⟨-, -, h⟩ := potAlarm_cases set s <;> rw [h] <;> exact ⟨rfl, rfl⟩

theorem potStatuses_feeder (atSample : Bool) (s : State) : (potStatuses atSample s).1.pot.feeder = s.pot.feeder := by
  refine potActs_keeps (P := fun u => u.pot.feeder = s.pot.feeder) rfl ?_
  exact (contactFlags_core _).feeder

/-- Only the feeder's own hand-overs move it. -/
theorem handle_feeder {t : Task} (s : State) (h : t.kind ∉ feederKinds) : (handle t s).1.pot.feeder = s.pot.feeder := by
  by_cases hk : t.kind ∈ [.potEvaluate, .potAlarm, .potStatuses]
  · cases t
    case potEvaluate why => exact (potEvaluate_feeder why s).1
    case potAlarm set => exact (potAlarm_feeder set s).1
    case potStatuses atSample => exact potStatuses_feeder atSample s
    all_goals simp [Task.kind] at hk
  · exact (handle_potCore s (by rw [List.mem_append, not_or]; exact ⟨h, hk⟩)).feeder

/-! ## A feeder in flight -/

theorem feedEvaluate_busy {s : State} (h : s.pot.feeder.state ≠ .idle) : feedEvaluate s = (s, []) := by
  have hno : mayFeed s = false := by
    rw [← Bool.not_eq_true, mayFeed_iff]
    exact fun k => h k.1
  rw [feedEvaluate, hno]
  rfl

/-- A change of FEED reaches the feeder only as an ABORT of a feed in flight, or as an evaluation of the next (R155). -/
theorem potGroup_feeder (g : Group) (s : State) : (potGroup g s).1.pot.feeder = s.pot.feeder
    ∨ (s.pot.feeder.state = .feeding ∧ (potGroup g s).1.pot.feeder = { s.pot.feeder with aborted := true }) := by
  unfold potGroup potActs
  split
  · exact .inl rfl
  · cases g
    case feed =>
      dsimp only
      split
      · split
        · next h => exact .inr ⟨h, rfl⟩
        · exact .inl rfl
      · exact .inl rfl
    all_goals exact .inl rfl

/-- A feeder that is not IDLE is only aborted or faulted by what follows from other hand-overs. -/
theorem handle_feeder_busy {t : Task} {s : State} (ht : t.kind ∉ [.settleOver, .settleFinish, .feederRelease, .feederRestart])
    (hs : s.pot.feeder.state ≠ .idle) : (handle t s).1.pot.feeder =
      { s.pot.feeder with state := (handle t s).1.pot.feeder.state, aborted := (handle t s).1.pot.feeder.aborted }
    ∧ ((handle t s).1.pot.feeder.state = s.pot.feeder.state ∨ (handle t s).1.pot.feeder.state = .faulted) := by
  by_cases hk : t.kind ∈ [.potGroup, .feedEvaluate, .feedFaulted]
  · cases t
    case potGroup g =>
      obtain h | ⟨-, h⟩ := potGroup_feeder g s <;>
      · rw [show (handle (.potGroup g) s).1.pot.feeder = _ from h]
        exact ⟨rfl, .inl rfl⟩
    case feedEvaluate =>
      rw [show handle .feedEvaluate s = (s, []) from feedEvaluate_busy hs]
      exact ⟨rfl, .inl rfl⟩
    case feedFaulted => exact ⟨rfl, .inr rfl⟩
    all_goals simp [Task.kind] at hk
  · rw [handle_feeder s fun h => by
      rw [show feederKinds = [.potGroup, .feedEvaluate, .feedFaulted] ++ [.settleOver, .settleFinish, .feederRelease, .feederRestart]
        from rfl, List.mem_append] at h
      exact h.elim hk ht]
    exact ⟨rfl, .inl rfl⟩

/-- The feeder's hand-overs that only a beginning of an event makes. -/
def feederStarts : List TaskKind := [.settleOver, .settleFinish, .feederRelease, .feederRestart]

/-- A feeder in flight keeps its operation until it is faulted. -/
structure InFlight (f g : Feeder) : Prop where
  only : g = { f with state := g.state, aborted := g.aborted }
  state : g.state = f.state ∨ g.state = .faulted

theorem InFlight.refl (f : Feeder) : InFlight f f := ⟨rfl, .inl rfl⟩

theorem InFlight.next {f : Feeder} {s : State} {t : Task} (hf : f.state ≠ .idle) (h : InFlight f s.pot.feeder)
    (ht : t.kind ∉ feederStarts) : InFlight f (handle t s).1.pot.feeder := by
  have hbusy : s.pot.feeder.state ≠ .idle := by
    obtain h | h := h.state <;> rw [h]
    · exact hf
    · decide
  obtain ⟨honly, hstate⟩ := handle_feeder_busy ht hbusy
  refine ⟨?_, ?_⟩
  · rw [honly, h.only]
  · obtain hs | hs := hstate
    · exact h.state.imp hs.trans hs.trans
    · exact .inr hs

theorem settle_inFlight (n : Nat) {ts : List Task} (s : State) (hs : s.pot.feeder.state ≠ .idle) (h : ∀ t ∈ ts, t.kind ∉ feederStarts) :
    InFlight s.pot.feeder (settle n ts s).pot.feeder :=
  settle_kinds (P := fun u => InFlight s.pot.feeder u.pot.feeder) (without feederStarts) (by decide)
    (fun _ _ ht hu => hu.next hs (mem_without.mp ht)) (fun _ hu => hu) n ts s (among_without h) (.refl _)

/-! ## Events that end with a step of their own -/

/-- The last hand-over is taken after what follows from the others, unless the event was given up. -/
theorem settle_last {P : State → Prop} {Q : Task → Prop} (keeps : ∀ t s, Q t → P s → P (handle t s).1)
    (emits : ∀ t s, Q t → P s → ∀ u ∈ (handle t s).2, Q u) (n : Nat) (ts : List Task) (t : Task) (s : State) (hq : ∀ u ∈ ts, Q u)
    (hs : P s) : (settle n (ts ++ [t]) s).overrun = true
      ∨ ∃ m u, P u ∧ settle n (ts ++ [t]) s = settle m (handle t u).2 (handle t u).1 := by
  obtain ⟨m, u, -, hu, h⟩ | ⟨u, -, h⟩ := settle_append keeps emits n ts [t] s hq hs
  · obtain _ | m := m
    · exact .inl (by rw [h]; rfl)
    · exact .inr ⟨m, u, hu, by rw [h, settle_cons, List.append_nil]⟩
  · exact .inl (by rw [h])

/-- An event that ends with the feeder's fault leaves it FAULTED (R154, R155, R156). -/
theorem settle_faulted (n : Nat) (ts : List Task) (s : State) :
    (settle n (ts ++ [.feedFaulted]) s).overrun = true ∨ (settle n (ts ++ [.feedFaulted]) s).pot.feeder.state = .faulted := by
  obtain h | ⟨m, u, -, h⟩ := settle_last (P := fun _ => True) (Q := fun _ => True) (fun _ _ _ h => h) (fun _ _ _ _ _ _ => trivial) n ts
    .feedFaulted s (fun _ _ => trivial) trivial
  · exact .inl h
  · refine .inr ?_
    rw [h, show (handle .feedFaulted u).2 = [] from rfl, settle_nil]
    rfl

/-! ## A report to an EVENT alarm (R173) -/

/-- An EVENT alarm that is LATCHED stays set but for RESTART. -/
theorem handle_event_set {t : Task} {a : AlarmIx} {s : State} (hk : alarmKind a = .event) (ht : t.kind ≠ .restartAlarms)
    (hs : alarmSet s a = true) : alarmSet (handle t s).1 a = true := by
  by_cases hsame : t.kind ∈ [.condition, .event, .restartAlarms]
  · cases t
    case condition b v e =>
      simp only [handle, takeCondition]
      split
      · exact hs
      · next hno =>
        have hne : b ≠ a := by
          rintro rfl
          rw [hk] at hno
          simp at hno
        rw [alarmSet_setAlarm_other s _ hne, hs]
    case event b =>
      simp only [handle, takeEvent]
      split
      · exact hs
      · by_cases hne : b = a
        · subst hne
          exact (alarmSet_setAlarm_same ..).mpr (.inr rfl)
        · rw [alarmSet_setAlarm_other s _ hne, hs]
    case restartAlarms => exact absurd rfl ht
    all_goals simp [Task.kind] at hsame
  · rw [alarmSet_of_eq (handle_alarmRecords s hsame), hs]

/-- An unmasked EVENT alarm that an event begins with is raised, and set after the event. -/
theorem settle_event_raised {a : AlarmIx} {s : State} (n : Nat) (ts : List Task) (hm : (s.tbs.alarms[a]).masked = false)
    (hk : alarmKind a = .event) (hts : ∀ t ∈ ts, t.kind ∉ cycleKinds ++ [.restartAlarms]) :
    RaisedNow (settle (n + 1) (.event a :: ts) s) a ∧ alarmSet (settle (n + 1) (.event a :: ts) s) a = true := by
  have hraise := takeEvent_raises hm hk
  have hwait : ∀ t ∈ (handle (.event a) s).2 ++ ts, t.kind ∉ cycleKinds ++ [.restartAlarms] := by
    intro t ht
    obtain ht | ht := List.mem_append.mp ht
    · have hkind := among_iff.mp (handle_emits (.event a) s) t ht
      have hall : (emitted .event).all (fun k => !(cycleKinds ++ [TaskKind.restartAlarms]).contains k) = true := by decide
      simpa using List.all_eq_true.mp hall t.kind hkind
    · exact hts t ht
  rw [settle_cons]
  refine ⟨(settle_moved n _ fun t ht h => hwait t ht (List.mem_append_left _ h)).raisedNow hraise.1, ?_⟩
  exact settle_kinds (P := fun u => alarmSet u a = true) (without (cycleKinds ++ [.restartAlarms])) (by decide)
    (fun t u ht hu => handle_event_set hk (fun h => mem_without.mp ht (by rw [h]; decide)) hu) (fun _ hu => hu) n _ _
    (among_without hwait) hraise.2

/-! ## A COMPLETION (R154) -/

theorem completionMatches_iff (s : State) (src number : Byte) : completionMatches s src number = true ↔
    src = outputNode s.tbs (O 21) ∧ number = s.pot.feeder.number ∧ s.pot.feeder.state = .feeding := by
  simp only [completionMatches, Bool.and_eq_true, beq_iff_eq, and_assoc]

theorem exec_completion {c : CompletionCell} {s : State} (hv : verdict s.lif.openCycle (completionRaw c) = .toPot)
    (hline : s.mru.line ≠ .unconfigured) : exec (.completion c) s = .next (runEffect
      (if completionMatches s c.src c.number = true then
        if c.result = 0 ∨ c.result = 1 then
          (setFeeder s
            { s.pot.feeder with
              delivered := c.quantity.toNat, feedTimer := none, aborted := s.pot.feeder.aborted || c.result == 1, state := .settling,
              settleTimer := some (settleTime s.tbs) },
            if settleTime s.tbs = 0 then [.settleOver] else [])
        else (setFeeder s { s.pot.feeder with delivered := c.quantity.toNat, feedTimer := none }, [.event (A 24), .feedFaulted])
      else (ignoreCompletion s, []))) := by
  have hidle : ¬potIdle s = true := by
    rw [potIdle, beq_iff_eq]
    exact hline
  have h : takeCompletionCell c s = runEffect (takeCompletion c.src c.number c.result c.quantity.toNat s) := if_pos hv
  rw [takeCompletion, potActs, if_neg hidle] at h
  exact congrArg Host.Outcome.next h

/-- Settles O57: two of the three rows end at once, and the fault is the last hand-over of the third. -/
theorem completionTaken : Obligations.CompletionTaken := by
  intro c s hv hline
  dsimp only
  rw [exec_completion hv hline, ← completionMatches_iff]
  refine ⟨fun h => ?_, fun h hr hsettle => ?_, fun h h0 h1 => ?_⟩
  · rw [if_neg h, runEffect, run_nil]
    rfl
  · rw [if_pos h, if_pos hr, if_neg hsettle, runEffect, run_nil]
    rfl
  · rw [if_pos h, if_neg (not_or.mpr ⟨h0, h1⟩)]
    obtain ⟨-, -, hfeeding⟩ := (completionMatches_iff s c.src c.number).mp h
    obtain ⟨u, hu⟩ : ∃ u, u = setFeeder s { s.pot.feeder with delivered := c.quantity.toNat, feedTimer := none } := ⟨_, rfl⟩
    have hund : Undisturbed s u := by rw [hu]; exact setFeeder_undisturbed ..
    rw [← hu]
    have hflight : InFlight u.pot.feeder (run u [.event (A 24), .feedFaulted]).pot.feeder :=
      settle_inFlight _ u (by rw [hu]; exact fun k => absurd (hfeeding.symm.trans k) (by decide)) (by decide)
    refine ⟨_, rfl, hund.trans (run_undisturbed u _ rfl), ?_, ?_, settle_faulted _ [.event (A 24)] u, fun hm => ?_⟩
    · rw [show runEffect (u, [.event (A 24), .feedFaulted]) = run u [.event (A 24), .feedFaulted] from rfl, hflight.only, hu]
      rfl
    · rw [show runEffect (u, [.event (A 24), .feedFaulted]) = run u [.event (A 24), .feedFaulted] from rfl, hflight.only, hu]
      rfl
    · have hm' : (u.tbs.alarms[A 24]).masked = false := by rw [hu]; exact hm
      have hraised := settle_event_raised 4294967295 [.feedFaulted] hm' rfl (by decide)
      have hmoved := run_moved (ts := [.event (A 24), .feedFaulted]) u (by decide)
      refine ⟨?_, hraised.2⟩
      have hcycle : u.lif.cycle = s.lif.cycle := by rw [hu]; rfl
      rw [← hcycle, ← hmoved.cycle]
      exact hraised.1

end Sys2Proof.Machine
end

section
/-! The pot state within an event (R138, R140, R141): who moves it, who calls for its evaluation, and what a pot alarm raised in the
event can do. -/

namespace Sys2Proof.Machine

/-! ## Who moves the pot state -/

theorem potStatuses_state (atSample : Bool) (s : State) : (potStatuses atSample s).1.pot.state = s.pot.state := by
  refine potActs_keeps (P := fun u => u.pot.state = s.pot.state) rfl ?_
  exact (contactFlags_core _).state

theorem potGroup_state (g : Group) (s : State) : (potGroup g s).1.pot.state = s.pot.state := by
  unfold potGroup potActs
  (repeat' split) <;> rfl

theorem feedEvaluate_state (s : State) : (feedEvaluate s).1.pot.state = s.pot.state := by
  unfold feedEvaluate
  split
  · rw [startFeed_feeder]
  · rfl

theorem settleFinish_state (s : State) : (settleFinish s).1.pot.state = s.pot.state := by
  unfold settleFinish
  dsimp only
  split <;> rfl

theorem feederRelease_state (s : State) : (feederRelease s).1.pot.state = s.pot.state := by
  unfold feederRelease
  refine potActs_keeps (P := fun u => u.pot.state = s.pot.state) rfl ?_
  split <;> rfl

theorem feederRestart_state (s : State) : (feederRestart s).1.pot.state = s.pot.state := by
  unfold feederRestart
  dsimp only
  split
  · have h : (handOperation ⟨.abort, 0, s.pot.feeder.number⟩ s).pot.state = s.pot.state := by rw [handOperation_pot]
    exact h
  all_goals rfl

theorem settleOver_state (s : State) : (settleOver s).1.pot.state = s.pot.state := by
  unfold settleOver
  split <;> rfl

/-- Only its evaluation and a notice of POT's alarms move the pot state (R138, R140). -/
theorem handle_potState {t : Task} (s : State) (h : t.kind ∉ [.potEvaluate, .potAlarm]) :
    (handle t s).1.pot.state = s.pot.state := by
  by_cases hk : t.kind ∈ feederKinds ++ [.potStatuses]
  · cases t
    case potGroup g => exact potGroup_state g s
    case feedEvaluate => exact feedEvaluate_state s
    case feedFaulted => rfl
    case settleOver => exact settleOver_state s
    case settleFinish => exact settleFinish_state s
    case feederRelease => exact feederRelease_state s
    case feederRestart => exact feederRestart_state s
    case potStatuses atSample => exact potStatuses_state atSample s
    all_goals simp [Task.kind, feederKinds] at hk
  · refine (handle_potCore s fun hin => ?_).state
    rw [List.mem_append, not_or] at hk
    obtain hin | hin := List.mem_append.mp hin
    · exact hk.1 hin
    · simp only [List.mem_cons, List.not_mem_nil, or_false] at hin h hk
      tauto

/-- An evaluation takes one row of the table of R138, or none. -/
theorem potEvaluate_cases (why : PotEvent) (s : State) :
    ((potEvaluate why s).1 = s ∧ (potEvaluate why s).2 = [])
    ∨ ∃ next, nextPotState s why = some next ∧ (potEvaluate why s).1.pot.state = next
      ∧ (potEvaluate why s).2 = [.potChanged s.pot.state, .potEvaluate (nextPotEvent s why next)] := by
  unfold potEvaluate potActs
  split
  · exact .inl ⟨rfl, rfl⟩
  · split
    · exact .inl ⟨rfl, rfl⟩
    · next next h => exact .inr ⟨next, h, rfl, rfl⟩

theorem nextPotState_setback {s : State} {why : PotEvent} (h : nextPotState s why = some .setback) : entersSetback why = true := by
  unfold nextPotState at h
  split at h <;> (repeat' split at h) <;> first | assumption | cases h

/-- In SETBACK only an event that leaves it moves the pot state (R138). -/
theorem nextPotState_of_setback {s : State} {why : PotEvent} (hs : s.pot.state = .setback) (hw : why ≠ .leaveSetback) :
    nextPotState s why = none := by
  rw [nextPotState, hs]
  exact if_neg hw

theorem nextPotEvent_cases (s : State) (why : PotEvent) (next : PotState) :
    nextPotEvent s why next = .plain ∨ nextPotEvent s why next = .dwellOver ∨ nextPotEvent s why next = why := by
  unfold nextPotEvent
  (repeat' split) <;> simp

/-! ## Who calls for an evaluation -/

/-- The origins of an evaluation other than a plain one (R138, R141). -/
theorem handle_emits_potEvaluate {t : Task} {s : State} {why : PotEvent} (h : Task.potEvaluate why ∈ (handle t s).2) :
    why = .plain ∨ (why = .setbackOver ∧ s.mru.line = .standby ∧ setbackDelay s.tbs = 0)
    ∨ (why = .leaveSetback ∧ t = .potLine ∧ s.mru.line = .run) ∨ ∃ w, t = .potEvaluate w ∧ (why = w ∨ why = .dwellOver) := by
  have hk : TaskKind.potEvaluate ∈ emitted t.kind := among_iff.mp (handle_emits t s) _ h
  cases t
  case potEvaluate w =>
    obtain ⟨-, hnone⟩ | ⟨next, -, -, hemits⟩ := potEvaluate_cases w s
    · rw [show (handle (.potEvaluate w) s).2 = _ from hnone] at h
      cases h
    · rw [show (handle (.potEvaluate w) s).2 = _ from hemits] at h
      have heq : why = nextPotEvent s w next := by simpa using h
      obtain hp | hd | hw := nextPotEvent_cases s w next
      · exact .inl (heq.trans hp)
      · exact .inr (.inr (.inr ⟨w, rfl, .inr (heq.trans hd)⟩))
      · exact .inr (.inr (.inr ⟨w, rfl, .inl (heq.trans hw)⟩))
  case setbackTimer =>
    simp only [handle, setbackTimer, potActs] at h
    split at h
    · cases h
    · split at h
      · next hholds =>
        split at h
        · cases h
        · split at h
          · next hdelay =>
            obtain rfl : why = .setbackOver := by simpa using h
            simp only [setbackHolds, Bool.and_eq_true, beq_iff_eq] at hholds
            exact .inr (.inl ⟨rfl, hholds.1.2, hdelay⟩)
          · cases h
      · cases h
  case potLine =>
    simp only [handle, potLine, potActs] at h
    split at h
    · cases h
    · have heq : why = if s.mru.line = .run then .leaveSetback else .plain := by simpa using h
      split at heq
      · next hline => exact .inr (.inr (.inl ⟨heq, rfl, hline⟩))
      · exact .inl heq
  case potTemperature =>
    simp only [handle, potTemperature, potActs] at h
    split at h
    · cases h
    · exact .inl (by simpa using h)
  case potAlarm set =>
    obtain hp | ⟨-, -, hp⟩ | ⟨-, -, hp⟩ := potAlarm_cases set s
    · refine .inl ?_
      simp only [handle, potAlarm, potActs] at h
      (repeat' split at h) <;> simp_all
    · rw [show (handle (.potAlarm set) s).2 = _ from congrArg Prod.snd hp] at h
      simp at h
    · rw [show (handle (.potAlarm set) s).2 = _ from congrArg Prod.snd hp] at h
      exact .inl (by simpa using h)
  case potGroup g =>
    simp only [handle, potGroup, potActs] at h
    (repeat' split at h) <;> simp_all
  case potLeavesUnconfigured => exact .inl (by simpa [handle, potLeavesUnconfigured] using h)
  case levelArrival status =>
    simp only [handle, levelArrival, potActs, setLevel] at h
    (repeat' split at h) <;> simp_all
  case levelSilent =>
    simp only [handle, levelSilent, potActs, setLevel] at h
    (repeat' split at h) <;> simp_all
  all_goals exact absurd hk (by simp only [Task.kind]; decide)

/-! ## A pot alarm raised within the event (R140) -/

/-- No pot alarm is set, and no notice of one that has been raised waits. -/
def Calm (ts : List Task) (s : State) : Prop := anyPotAlarmSet s = false ∧ Task.potAlarm true ∉ ts

theorem anyPotAlarmSet_iff (s : State) : anyPotAlarmSet s = true ↔ ∃ a : AlarmIx, isPotAlarm a = true ∧ alarmSet s a = true := by
  simp only [anyPotAlarmSet, List.any_eq_true, Bool.and_eq_true]
  exact ⟨fun ⟨a, _, h⟩ => ⟨a, h⟩, fun ⟨a, h⟩ => ⟨a, List.mem_finRange a, h⟩⟩

theorem anyPotAlarmSet_false (s : State) : anyPotAlarmSet s = false ↔ ∀ a : AlarmIx, isPotAlarm a = true → alarmSet s a = false := by
  rw [← Bool.not_eq_true, anyPotAlarmSet_iff]
  simp

theorem potTold_true {a : AlarmIx} {x : Bool} (h : Task.potAlarm true ∈ potTold a x) : isPotAlarm a = true ∧ x = true := by
  unfold potTold at h
  split at h
  · next ha => exact ⟨ha, by simpa using h⟩
  · cases h

theorem raiseTasks_potAlarm {links : BitVec 8} {a : AlarmIx} {x : AlarmState} (h : Task.potAlarm true ∈ raiseTasks links a x) :
    isPotAlarm a = true := by
  simp only [raiseTasks, List.mem_append, List.mem_map] at h
  obtain ((h | ⟨g, -, h⟩) | h) | h := h
  · split at h <;> simp at h
  · cases h
  · split at h <;> simp at h
  · exact (potTold_true h).1

theorem clearTasks_potAlarm {links : BitVec 8} {a : AlarmIx} : Task.potAlarm true ∉ clearTasks links a := by
  intro h
  simp only [clearTasks, List.mem_append] at h
  obtain h | h := h
  · split at h <;> simp at h
  · exact Bool.false_ne_true (potTold_true h).2

/-- The notice that a pot alarm has been set comes with its raise, or from one that was set before. -/
theorem handle_emits_potAlarm {t : Task} {s : State} (h : Task.potAlarm true ∈ (handle t s).2) :
    anyPotAlarmSet s = true ∨ potAlarmRaised (handle t s).1 := by
  have hk : TaskKind.potAlarm ∈ emitted t.kind := among_iff.mp (handle_emits t s) _ h
  cases t
  case condition a v e =>
    by_cases hm : ((s.tbs.alarms[a]).masked || alarmKind a != .level) = true
    · rw [show handle (.condition a v e) s = (s, []) from if_pos hm] at h
      cases h
    · rw [Bool.or_eq_true, not_or, Bool.not_eq_true, bne_iff_ne, not_not] at hm
      have heq := takeCondition_unmasked (s := s) v e hm.1 hm.2
      rw [show handle (.condition a v e) s = _ from heq] at h ⊢
      simp only [changeTasks] at h
      split at h
      · cases h
      · next hne =>
        split at h
        · next hactive =>
          refine .inr ⟨a, raiseTasks_potAlarm h, ?_⟩
          have hrec : (setAlarm s a (conditionRecord a v e s)).acu.alarms[a] = _ := vset_same ..
          rw [hrec, conditionRecord]
          dsimp only
          rw [if_pos ⟨hactive, fun k => hne (hactive.trans k.symm)⟩]
          rfl
        · split at h
          · next hlatch =>
            exact .inl ((anyPotAlarmSet_iff s).mpr ⟨a, (potTold_true h).1, (alarmSet_iff s a).mpr (.inl hlatch.1)⟩)
          · split at h
            · exact absurd h clearTasks_potAlarm
            · cases h
  case event a =>
    by_cases hm : ((s.tbs.alarms[a]).masked || alarmKind a != .event) = true
    · rw [show handle (.event a) s = (s, []) from if_pos hm] at h
      cases h
    · rw [show handle (.event a) s = _ from if_neg hm] at h ⊢
      refine .inr ⟨a, raiseTasks_potAlarm h, ?_⟩
      have hrec : (setAlarm s a (raised s.lif.cycle { s.acu.alarms[a] with state := .latched })).acu.alarms[a] = _ := vset_same ..
      rw [hrec]
      rfl
  case restartAlarms =>
    obtain ⟨a, -, ha⟩ := List.mem_flatMap.mp h
    exact absurd ha clearTasks_potAlarm
  case potAlarm set =>
    obtain hp | ⟨-, -, hp⟩ | ⟨-, -, hp⟩ := potAlarm_cases set s
    · simp only [handle, potAlarm, potActs] at h
      (repeat' split at h) <;> simp_all
    · rw [show (handle (.potAlarm set) s).2 = _ from congrArg Prod.snd hp] at h
      simp at h
    · rw [show (handle (.potAlarm set) s).2 = _ from congrArg Prod.snd hp] at h
      simp at h
  all_goals exact absurd hk (by simp only [Task.kind]; decide)

theorem AlarmsMoved.potAlarmRaised {s t : State} (h : AlarmsMoved s t) (hr : potAlarmRaised s) : potAlarmRaised t := by
  obtain ⟨a, ha, hraise⟩ := hr
  exact ⟨a, ha, h.raisedNow hraise⟩

/-- A calm pot stays so until one of its alarms is raised. -/
theorem Calm.next {t : Task} {ts : List Task} {s : State} (h : Calm (t :: ts) s) (ht : t.kind ∉ cycleKinds) :
    Calm ((handle t s).2 ++ ts) (handle t s).1 ∨ Machine.potAlarmRaised (handle t s).1 := by
  obtain ⟨hnone, hwait⟩ := h
  by_cases hset : anyPotAlarmSet (handle t s).1 = true
  · obtain ⟨a, ha, hs⟩ := (anyPotAlarmSet_iff _).mp hset
    obtain hold | hraised := (handle_moved s ht).set a hs
    · exact absurd ((anyPotAlarmSet_iff s).mpr ⟨a, ha, hold⟩) (by rw [hnone]; exact Bool.false_ne_true)
    · exact .inr ⟨a, ha, hraised⟩
  · by_cases hemit : Task.potAlarm true ∈ (handle t s).2
    · obtain hold | hraised := handle_emits_potAlarm hemit
      · exact absurd hold (by rw [hnone]; exact Bool.false_ne_true)
      · exact .inr hraised
    · refine .inl ⟨by simpa using hset, fun hin => ?_⟩
      obtain hin | hin := List.mem_append.mp hin
      · exact hemit hin
      · exact hwait (List.mem_cons_of_mem _ hin)

/-- An invariant of an event in which no pot alarm is raised: it holds at the end, or a pot alarm has been raised. -/
theorem settle_calm {J : List Task → State → Prop} {P : State → Prop}
    (next : ∀ t ts s, Calm (t :: ts) s → t.kind ∉ cycleKinds → J (t :: ts) s → J ((handle t s).2 ++ ts) (handle t s).1)
    (done : ∀ s, J [] s → P s) (mark : ∀ ts s, J ts s → P { s with overrun := true }) (n : Nat) (ts : List Task) (s : State)
    (hts : ∀ t ∈ ts, t.kind ∉ cycleKinds) (hc : Calm ts s) (hJ : J ts s) :
    P (settle n ts s) ∨ potAlarmRaised (settle n ts s) := by
  refine settle_holds (I := fun ts s => (∀ t ∈ ts, t.kind ∉ cycleKinds) ∧ ((Calm ts s ∧ J ts s) ∨ potAlarmRaised s))
    (P := fun s => P s ∨ potAlarmRaised s) (fun t ts s hI => ?_) (fun s hI => ?_) (fun ts s hI => ?_) n ts s ⟨hts, .inl ⟨hc, hJ⟩⟩
  · obtain ⟨hkinds, hor⟩ := hI
    have ht := hkinds t (List.mem_cons_self ..)
    refine ⟨fun u hu => ?_, ?_⟩
    · obtain hu | hu := List.mem_append.mp hu
      · exact handle_emits_no_cycle s ht u hu
      · exact hkinds u (List.mem_cons_of_mem _ hu)
    · obtain ⟨hcalm, hj⟩ | hr := hor
      · exact (hcalm.next ht).imp_left fun k => ⟨k, next t ts s hcalm ht hj⟩
      · exact .inr ((handle_moved s ht).potAlarmRaised hr)
  · exact hI.2.imp_left fun k => done s k.2
  · exact hI.2.imp (fun k => mark ts s k.2) id

end Sys2Proof.Machine
end

section
/-! SETBACK (R141), and the timers of the pot state (R138, R141). -/

namespace Sys2Proof.Machine

/-- The kinds outside `src` make no hand-over of a kind in `bad`. -/
theorem handle_emits_none {src bad : List TaskKind} (h : ((without src).all fun k => (emitted k).all fun j => !bad.contains j) = true)
    {t : Task} (s : State) (ht : t.kind ∉ src) : ∀ u ∈ (handle t s).2, u.kind ∉ bad := by
  intro u hu
  have hk := List.all_eq_true.mp (List.all_eq_true.mp h t.kind (mem_without.mpr ht)) u.kind (among_iff.mp (handle_emits t s) u hu)
  simpa using hk

/-! ## The notices of the line state while it is RUN -/

/-- While the line runs, no notice of a change of the line state waits. -/
def RunUntold (ts : List Task) (s : State) : Prop := s.mru.line = .run → ∀ t ∈ ts, t.kind ∉ [.lineTold, .potLine]

theorem drainingTest_run {s : State} (h : s.mru.line = .run) : drainingTest s = (s, []) :=
  if_neg (by rw [h]; exact fun k => absurd k.1 (by decide))

theorem configuredTest_run {s : State} (h : s.mru.line = .run) : configuredTest s = (s, []) :=
  if_neg (by rw [h]; exact fun k => absurd k.1 (by decide))

/-- A running line has no notice of a change that it did not have before. -/
theorem RunUntold.next {t : Task} {ts : List Task} {s : State} (h : RunUntold (t :: ts) s) :
    RunUntold ((handle t s).2 ++ ts) (handle t s).1 := by
  intro hrun u hu
  have hline : s.mru.line = .run := by
    obtain hl | hl := handle_line t s
    · rw [← hl, hrun]
    · rw [hrun] at hl
      cases hl
  obtain hu | hu := List.mem_append.mp hu
  · by_cases hk : t.kind ∈ [.lineTold, .drainingTest, .configuredTest]
    · cases t
      case drainingTest =>
        rw [show handle .drainingTest s = (s, []) from drainingTest_run hline] at hu
        cases hu
      case configuredTest =>
        rw [show handle .configuredTest s = (s, []) from configuredTest_run hline] at hu
        cases hu
      case lineTold old => exact absurd (by simp [Task.kind]) (h hline _ (List.mem_cons_self ..))
      all_goals simp [Task.kind] at hk
    · exact handle_emits_none (by decide) s hk u hu
  · exact h hline u (List.mem_cons_of_mem _ hu)

/-! ## A pot in SETBACK stays there -/

/-- The pot is in SETBACK, and nothing that waits takes it out. -/
structure SetbackHeld (ts : List Task) (s : State) : Prop where
  state : s.pot.state = .setback
  kept : Task.potEvaluate .leaveSetback ∉ ts
  untold : RunUntold ts s

theorem SetbackHeld.next {t : Task} {ts : List Task} {s : State} (hc : Calm (t :: ts) s) (h : SetbackHeld (t :: ts) s) :
    SetbackHeld ((handle t s).2 ++ ts) (handle t s).1 := by
  refine ⟨?_, fun hin => ?_, h.untold.next⟩
  · by_cases hk : t.kind ∈ [.potEvaluate, .potAlarm]
    · cases t
      case potEvaluate why =>
        obtain ⟨hsame, -⟩ | ⟨next, hnext, -⟩ := potEvaluate_cases why s
        · rw [show (handle (.potEvaluate why) s).1 = s from hsame, h.state]
        · rw [nextPotState_of_setback h.state fun k => h.kept (by rw [k]; exact List.mem_cons_self ..)] at hnext
          cases hnext
      case potAlarm set =>
        obtain hp | ⟨hor, -, -⟩ | ⟨-, hf, -⟩ := potAlarm_cases set s
        · rw [show (handle (.potAlarm set) s).1 = s from hp, h.state]
        · rw [hc.1, or_iff_left Bool.false_ne_true] at hor
          exact absurd (by rw [hor]; exact List.mem_cons_self ..) hc.2
        · rw [h.state] at hf
          cases hf
      all_goals simp [Task.kind] at hk
    · rw [handle_potState s hk, h.state]
  · obtain hin | hin := List.mem_append.mp hin
    · obtain hp | ⟨hp, -⟩ | ⟨-, rfl, hline⟩ | ⟨w, rfl, hw⟩ := handle_emits_potEvaluate hin
      · cases hp
      · cases hp
      · exact absurd (by simp [Task.kind]) (h.untold hline _ (List.mem_cons_self ..))
      · obtain hw | hw := hw
        · exact h.kept (by rw [← hw]; exact List.mem_cons_self ..)
        · cases hw
    · exact h.kept (List.mem_cons_of_mem _ hin)

/-- The pot is sent to SETBACK by an evaluation, and stays there unless one of its alarms is raised. -/
theorem run_enters_setback {s : State} {why : PotEvent} (hw : entersSetback why = true) (hline : s.mru.line ≠ .unconfigured)
    (hliq : belowLiquidus s = false) (hcalm : anyPotAlarmSet s = false)
    (hs : (s.pot.state = .molten ∧ readyConditions s = false) ∨ (s.pot.state = .ready ∧ readyConditions s = true)) :
    (run s [.potEvaluate why]).pot.state = .setback ∨ potAlarmRaised (run s [.potEvaluate why]) := by
  have hidle : ¬potIdle s = true := by
    rw [potIdle, beq_iff_eq]
    exact hline
  have hnext : nextPotState s why = some .setback := by
    obtain ⟨hstate, hready⟩ | ⟨hstate, hready⟩ := hs <;> simp [nextPotState, hstate, hready, hliq, hw]
  have hevent : nextPotEvent s why .setback = .plain := by simp [nextPotEvent]
  have hstep : handle (.potEvaluate why) s =
      ({ s with pot := { s.pot with state := .setback, meltTimer := none, setbackTimer := none } },
       [.potChanged s.pot.state, .potEvaluate .plain]) := by
    simp only [handle, potEvaluate, potActs, if_neg hidle, hnext, hevent, nextMeltTimer, if_true, reduceCtorEq, if_false]
  rw [run_cons, hstep]
  refine settle_calm (J := SetbackHeld) (P := fun u => u.pot.state = .setback) (fun t ts u hc _ hJ => hJ.next hc) (fun u h => h.state)
    (fun _ u h => h.state) _ _ _ ?_ ⟨hcalm, by simp⟩ ⟨rfl, by simp, fun _ t ht => ?_⟩
  · simp [Task.kind, cycleKinds]
  · revert t
    simp [Task.kind]

/-! ## A pot that is not sent to SETBACK -/

/-- An evaluation that does not send the pot to SETBACK leaves it out of SETBACK. -/
theorem potEvaluate_outside {s : State} {why : PotEvent} (hs : s.pot.state ≠ .setback) (hw : entersSetback why = false) :
    (potEvaluate why s).1.pot.state ≠ .setback := by
  obtain ⟨hsame, -⟩ | ⟨next, hnext, hstate, -⟩ := potEvaluate_cases why s
  · rw [hsame]
    exact hs
  · rw [hstate]
    rintro rfl
    rw [nextPotState_setback hnext] at hw
    cases hw

theorem potAlarm_outside {s : State} (set : Bool) (hs : s.pot.state ≠ .setback) : (potAlarm set s).1.pot.state ≠ .setback := by
  obtain hp | ⟨-, -, hp⟩ | ⟨-, -, hp⟩ := potAlarm_cases set s
  · rw [hp]
    exact hs
  · rw [hp]
    exact PotState.noConfusion
  · rw [hp]
    exact PotState.noConfusion

/-- A hand-over other than an evaluation that sends the pot to SETBACK leaves it out of SETBACK. -/
theorem handle_outside {t : Task} {s : State} (ht : ∀ why, t = .potEvaluate why → entersSetback why = false)
    (hs : s.pot.state ≠ .setback) : (handle t s).1.pot.state ≠ .setback := by
  by_cases hk : t.kind ∈ [.potEvaluate, .potAlarm]
  · cases t
    case potEvaluate why => exact potEvaluate_outside hs (ht why rfl)
    case potAlarm set => exact potAlarm_outside set hs
    all_goals simp [Task.kind] at hk
  · rw [handle_potState s hk]
    exact hs

/-- Where the setback timer does not end at once, no evaluation sends the pot to SETBACK that none called for. -/
theorem handle_emits_outside {t : Task} {s : State} (ht : ∀ why, t = .potEvaluate why → entersSetback why = false)
    (hs : ¬(s.mru.line = .standby ∧ setbackDelay s.tbs = 0)) :
    ∀ u ∈ (handle t s).2, ∀ why, u = .potEvaluate why → entersSetback why = false := by
  rintro u hu why rfl
  obtain rfl | ⟨-, hstandby⟩ | ⟨rfl, -⟩ | ⟨w, hw, rfl | rfl⟩ := handle_emits_potEvaluate hu
  · rfl
  · exact absurd hstandby hs
  · rfl
  · exact ht why hw
  · rfl

theorem settle_outside (n : Nat) {ts : List Task} {s : State} (hts : ts.all quiet = true)
    (hno : ∀ t ∈ ts, ∀ why, t = .potEvaluate why → entersSetback why = false)
    (hs : s.pot.state ≠ .setback) (hdelay : setbackDelay s.tbs ≠ 0) : (settle n ts s).pot.state ≠ .setback := by
  refine (settle_keeps (P := fun u => u.pot.state ≠ .setback ∧ setbackDelay u.tbs ≠ 0)
    (Q := fun t => quiet t = true ∧ ∀ why, t = .potEvaluate why → entersSetback why = false) (fun t u ht hu => ?_) (fun t u ht hu x hx => ?_)
    (fun _ hu => hu) n ts s (fun t ht => ⟨List.all_eq_true.mp hts t ht, hno t ht⟩) ⟨hs, hdelay⟩).1
  · obtain ⟨-, htbs, -⟩ := handle_undisturbed t u ht.1
    exact ⟨handle_outside ht.2 hu.1, by rw [htbs]; exact hu.2⟩
  · exact ⟨List.all_eq_true.mp (handle_quiet t u ht.1) x hx, handle_emits_outside ht.2 (fun k => hu.2 k.2) x hx⟩

/-- A pot that leaves SETBACK is not back in it at the end of the event, unless the setback timer ends at once. -/
theorem run_leaves_setback {s : State} (hline : s.mru.line ≠ .unconfigured) (hs : s.pot.state = .setback) (hdelay : setbackDelay s.tbs ≠ 0) :
    (run s [.potEvaluate .leaveSetback]).pot.state ≠ .setback := by
  have hidle : ¬potIdle s = true := by
    rw [potIdle, beq_iff_eq]
    exact hline
  have hnext : nextPotState s .leaveSetback = some .molten := by rw [nextPotState, hs]; rfl
  have hevent : nextPotEvent s .leaveSetback .molten = .plain := by simp [nextPotEvent, hs]
  have hstep : handle (.potEvaluate .leaveSetback) s =
      ({ s with pot := { s.pot with state := .molten, meltTimer := none, setbackTimer := s.pot.setbackTimer } },
       [.potChanged s.pot.state, .potEvaluate .plain]) := by
    simp only [handle, potEvaluate, potActs, if_neg hidle, hnext, hevent, nextMeltTimer, reduceCtorEq, if_false]
  rw [run_cons, hstep]
  refine settle_outside _ rfl (fun t ht why hw => ?_) PotState.noConfusion hdelay
  obtain rfl | rfl : t = .potChanged s.pot.state ∨ t = .potEvaluate .plain := by simpa using ht
  · cases hw
  · cases hw
    rfl

/-! ## SETBACK (R141) -/

section
variable {r : ReqCell} {s : State} (hline : s.mru.line ≠ .unconfigured)
include hline

theorem decideSetback_off (h : reqByte r 6 = 0) : decideByCode (23 : Word16).toNat r s = setbackOff s := by
  rw [show decideByCode (23 : Word16).toNat r s = decideSetback r s from rfl, decideSetback, if_neg hline, if_pos h]

theorem decideSetback_on (h : reqByte r 6 = 1) : decideByCode (23 : Word16).toNat r s = setbackOn s := by
  rw [show decideByCode (23 : Word16).toNat r s = decideSetback r s from rfl, decideSetback, if_neg hline,
    if_neg (by rw [h]; decide), if_pos h]

theorem decideSetback_badValue (h : 1 < reqByte r 6) : decideByCode (23 : Word16).toNat r s = refuse .badValue s := by
  rw [show decideByCode (23 : Word16).toNat r s = decideSetback r s from rfl, decideSetback, if_neg hline,
    if_neg (by omega), if_neg (by omega)]

end

theorem setbackOn_taken {s : State} (h : s.pot.state = .molten ∨ s.pot.state = .ready) :
    setbackOn s = { status := .ok, state := s, tasks := [.potEvaluate .setbackOn], data := potData } := by
  obtain h | h := h <;> rw [setbackOn, h]

/-- Settles O56: the evaluation takes the row of the event, and nothing that follows takes it back. -/
theorem setbackTakenAndLeft : Obligations.SetbackTakenAndLeft := by
  intro r s ha hline
  dsimp only
  refine ⟨fun h => ?_, fun h hs => ?_, fun h hs => ?_, fun h hs => ?_, fun h hliq hcalm hs => ?_, fun h hs hdelay => ?_⟩
  · exact exec_refused (c := .setback r) rfl ha (decideSetback_badValue hline h)
  · refine (exec_taken (c := .setback r) (data := potData) rfl ha ?_).trans ?_
    · rw [decideSetback_on hline h, setbackOn, hs]
    · rw [potData, hs]
      rfl
  · refine exec_refused (c := .setback r) rfl ha ?_
    rw [decideSetback_on hline h, setbackOn]
    obtain hs | hs | hs := hs <;> rw [hs]
  · refine (exec_taken (c := .setback r) (data := potData) rfl ha ?_).trans rfl
    rw [decideSetback_off hline h, setbackOff, if_neg hs]
  · refine ⟨run s [.potEvaluate .setbackOn], (exec_accepted (c := .setback r) rfl ha).trans ?_, run_undisturbed s _ rfl,
      run_enters_setback rfl hline hliq hcalm hs⟩
    rw [decideSetback_on hline h, setbackOn_taken (hs.imp And.left And.left)]
    rfl
  · refine ⟨run s [.potEvaluate .leaveSetback], (exec_accepted (c := .setback r) rfl ha).trans ?_, run_undisturbed s _ rfl,
      run_leaves_setback hline hs hdelay⟩
    rw [decideSetback_off hline h, setbackOff, if_pos hs]
    rfl

end Sys2Proof.Machine
end

section
/-! POT's readings within an event (R137, R151), and the expiries of POT's timers (R138, R141, R155, R156). -/

namespace Sys2Proof.Machine

/-! ## POT's readings -/

/-- T_pot, the level window and the level stay. -/
structure PotReadings (p q : Pot) : Prop where
  temperature : q.temperature = p.temperature
  window : q.levelWindow = p.levelWindow
  level : q.level = p.level

theorem PotReadings.refl (p : Pot) : PotReadings p p := ⟨rfl, rfl, rfl⟩

theorem PotReadings.trans {p q r : Pot} (h : PotReadings p q) (k : PotReadings q r) : PotReadings p r :=
  ⟨k.temperature.trans h.temperature, k.window.trans h.window, k.level.trans h.level⟩

theorem potActs_readings {s : State} {e : Effect} (h : PotReadings s.pot e.1.pot) : PotReadings s.pot (potActs s e).1.pot :=
  potActs_keeps (P := fun u => PotReadings s.pot u.pot) (.refl _) h

theorem setPump_readings (s : State) (w : Wave) (x : Pump) : PotReadings s.pot (setPump s w x).pot := by
  cases w <;> exact ⟨rfl, rfl, rfl⟩

theorem governWave_readings (w : Wave) (s : State) : PotReadings s.pot (governWave w s).pot := by
  have h : PotReadings s.pot (setPump s w { pumpOf s.pot w with governing := waveGoverning s w }).pot := setPump_readings ..
  unfold governWave
  dsimp only
  split
  · exact h.trans ⟨rfl, rfl, rfl⟩
  · exact h

theorem enterWindow_readings (w : Wave) (s : State) : PotReadings s.pot (enterWindow w s).1.pot :=
  List.foldlRecOn (motive := fun t : State => PotReadings s.pot t.pot) _ _ (.refl _) fun _ ht _ _ => ht.trans ⟨rfl, rfl, rfl⟩

theorem contactFlags_readings (s : State) : PotReadings s.pot (contactFlags s).pot :=
  List.foldlRecOn (motive := fun t : State => PotReadings s.pot t.pot) _ _ (.refl _) fun _ ht _ _ => ht.trans ⟨rfl, rfl, rfl⟩

theorem potContact_readings (s : State) : PotReadings s.pot (potContact s).1.pot := by
  unfold potContact
  refine potActs_readings ?_
  dsimp only
  split
  · exact ⟨rfl, rfl, rfl⟩
  · rw [accrueWave_pot, accrueWave_pot]
    exact ⟨rfl, rfl, rfl⟩

theorem potGroup_readings (g : Group) (s : State) : PotReadings s.pot (potGroup g s).1.pot := by
  refine potActs_readings ?_
  cases g
  case feed =>
    dsimp only
    split
    · split <;> exact ⟨rfl, rfl, rfl⟩
    · exact .refl _
  all_goals exact .refl _

theorem potEvaluate_readings (why : PotEvent) (s : State) : PotReadings s.pot (potEvaluate why s).1.pot := by
  refine potActs_readings ?_
  split <;> exact ⟨rfl, rfl, rfl⟩

theorem potAlarm_readings (set : Bool) (s : State) : PotReadings s.pot (potAlarm set s).1.pot := by
  obtain h | ⟨-, -, h⟩ | ⟨-, -, h⟩ := potAlarm_cases set s <;> rw [h] <;> exact ⟨rfl, rfl, rfl⟩

theorem setbackTimer_readings (s : State) : PotReadings s.pot (setbackTimer s).1.pot := by
  unfold setbackTimer
  refine potActs_readings ?_
  (repeat' split) <;> exact ⟨rfl, rfl, rfl⟩

theorem feedEvaluate_readings (s : State) : PotReadings s.pot (feedEvaluate s).1.pot := by
  unfold feedEvaluate
  split
  · rw [startFeed_feeder]
    exact ⟨rfl, rfl, rfl⟩
  · exact .refl _

theorem feederRestart_readings (s : State) : PotReadings s.pot (feederRestart s).1.pot := by
  unfold feederRestart
  dsimp only
  split
  · have h : PotReadings s.pot (handOperation ⟨.abort, 0, s.pot.feeder.number⟩ s).pot := by
      rw [handOperation_pot]
      exact .refl _
    exact h.trans ⟨rfl, rfl, rfl⟩
  all_goals exact ⟨rfl, rfl, rfl⟩

/-- The kinds of hand-over that bring a reading of the pot. -/
def readingKinds : List TaskKind := [.potTemperature, .potLeavesUnconfigured, .levelArrival, .levelSilent]

/-- Only an arrival or a silence of its signals moves the pot's readings. -/
theorem handle_readings {t : Task} (s : State) (h : t.kind ∉ readingKinds) : PotReadings s.pot (handle t s).1.pot := by
  by_cases ht : Block.pot ∈ touched t
  · cases t
    case loopDown | encoderSilent | feedFaulted => exact ⟨rfl, rfl, rfl⟩
    case potNewRecord | potRemoved => exact potActs_readings ⟨rfl, rfl, rfl⟩
    case setbackTimer => exact setbackTimer_readings s
    case potGoverning => exact potActs_readings ((governWave_readings _ s).trans (governWave_readings _ _))
    case potWindows => exact potActs_readings ((enterWindow_readings _ s).trans (enterWindow_readings _ _))
    case pumpDelivered w => exact potActs_readings (setPump_readings ..)
    case pumpFeedback w status => exact potActs_readings (setPump_readings ..)
    case pumpFeedbackSilent w => exact potActs_readings (setPump_readings ..)
    case pumpFault w evaluation => exact setPump_readings ..
    case potContact => exact potContact_readings s
    case potEvaluate why => exact potEvaluate_readings why s
    case potAlarm set => exact potAlarm_readings set s
    case potStatuses atSample =>
      refine potActs_readings ?_
      have hk := contactFlags_readings
        { s with btk := { s.btk with train := s.btk.train.map fun b => { b with wave := nextWaveStatus s atSample b } } }
      exact ⟨hk.temperature, hk.window, hk.level⟩
    case potGroup g => exact potGroup_readings g s
    case feedEvaluate => exact feedEvaluate_readings s
    case settleOver =>
      simp only [handle, settleOver]
      split <;> exact ⟨rfl, rfl, rfl⟩
    case settleFinish =>
      simp only [handle, settleFinish]
      split <;> exact ⟨rfl, rfl, rfl⟩
    case feederRelease =>
      refine potActs_readings ?_
      split <;> exact ⟨rfl, rfl, rfl⟩
    case feederRestart => exact feederRestart_readings s
    case potTemperature | potLeavesUnconfigured | levelArrival | levelSilent =>
      exact absurd (by simp only [Task.kind]; decide) h
    all_goals simp [touched] at ht
  · rw [show (handle t s).1.pot = s.pot from (handle_touches t s).same .pot ht]
    exact .refl _

theorem PotReadings.belowLiquidus {s t : State} (h : PotReadings s.pot t.pot) (htbs : t.tbs = s.tbs) :
    belowLiquidus t = belowLiquidus s := by
  rw [Machine.belowLiquidus, Machine.belowLiquidus, h.temperature, htbs]

/-! ## Events after the configuration -/

/-- A quiet hand-over other than those of the commit that completes the configuration. -/
def Routine (t : Task) : Prop := t.kind ∈ quietKinds ∧ t.kind ∉ [.potLeavesUnconfigured, .configuredTest] ∧ t ≠ .lineTold .unconfigured

theorem drainingTest_told {s : State} {old : LineState} (h : Task.lineTold old ∈ (drainingTest s).2) : old = .draining := by
  unfold drainingTest at h
  split at h
  · simpa using h
  · cases h

theorem Routine.emits {t : Task} (s : State) (ht : Routine t) : ∀ u ∈ (handle t s).2, Routine u := by
  intro u hu
  obtain ⟨hquiet, hkind, htold⟩ := ht
  have hq : u.kind ∈ quietKinds := by
    have := List.all_eq_true.mp (handle_quiet t s (quiet_of_kind hquiet)) u hu
    rw [← quietKinds_contains] at this
    simpa using this
  have hemit : u.kind ∈ emitted t.kind := among_iff.mp (handle_emits t s) u hu
  refine ⟨hq, fun hin => ?_, fun hin => ?_⟩
  · by_cases hl : t.kind = .lineTold
    · cases t
      case lineTold old =>
        simp only [handle, lineTold, if_neg (show old ≠ .unconfigured from fun k => htold (by rw [k]))] at hu
        simp only [List.append_nil, List.cons_append, List.nil_append, List.mem_cons, List.not_mem_nil, or_false] at hu
        obtain rfl | rfl | rfl | rfl := hu <;> simp [Task.kind] at hin
      all_goals cases hl
    · exact handle_emits_none (src := [.lineTold]) (bad := [.potLeavesUnconfigured, .configuredTest]) (by decide) s
        (by simpa using hl) u hu hin
  · subst hin
    by_cases hk : t.kind ∈ [.drainingTest, .configuredTest]
    · cases t
      case drainingTest => cases drainingTest_told hu
      case configuredTest => exact hkind (by simp [Task.kind])
      all_goals simp [Task.kind] at hk
    · exact handle_emits_none (src := [.drainingTest, .configuredTest]) (bad := [.lineTold]) (by decide) s hk _ hu
        (by simp [Task.kind])

theorem Routine.readings {t : Task} (s : State) (ht : Routine t) : PotReadings s.pot (handle t s).1.pot := by
  refine handle_readings s fun h => ?_
  obtain ⟨hquiet, hkind, -⟩ := ht
  simp only [readingKinds, List.mem_cons, List.not_mem_nil, or_false] at h hkind
  obtain h | h | h | h := h
  · rw [h] at hquiet
    revert hquiet
    decide
  · exact hkind (.inl h)
  all_goals
    rw [h] at hquiet
    revert hquiet
    decide

/-! ## The melt dwell timer (R138) -/

/-- The pot is past MELTING with T_pot not below the liquidus, and only routine hand-overs wait. -/
structure Melted (ts : List Task) (s : State) : Prop where
  state : s.pot.state = .molten ∨ s.pot.state = .ready ∨ s.pot.state = .setback
  hot : belowLiquidus s = false
  routine : ∀ t ∈ ts, Routine t

theorem nextPotState_melted {s : State} {why : PotEvent} {next : PotState} (hhot : belowLiquidus s = false)
    (hs : s.pot.state = .molten ∨ s.pot.state = .ready ∨ s.pot.state = .setback) (h : nextPotState s why = some next) :
    next = .molten ∨ next = .ready ∨ next = .setback := by
  obtain hs | hs | hs := hs <;> simp only [nextPotState, hs, hhot, Bool.false_eq_true, if_false] at h <;> (repeat' split at h) <;>
    simp_all

theorem Melted.next {t : Task} {ts : List Task} {s : State} (hc : Calm (t :: ts) s) (h : Melted (t :: ts) s) :
    Melted ((handle t s).2 ++ ts) (handle t s).1 := by
  obtain ⟨hstate, hhot, hroutine⟩ := h
  have ht := hroutine t (List.mem_cons_self ..)
  obtain ⟨-, htbs, -⟩ := handle_undisturbed t s (quiet_of_kind ht.1)
  refine ⟨?_, by rw [(ht.readings s).belowLiquidus htbs, hhot], fun u hu => ?_⟩
  · by_cases hk : t.kind ∈ [.potEvaluate, .potAlarm]
    · cases t
      case potEvaluate why =>
        obtain ⟨hsame, -⟩ | ⟨next, hnext, hnew, -⟩ := potEvaluate_cases why s
        · rwa [show (handle (.potEvaluate why) s).1 = s from hsame]
        · rw [show (handle (.potEvaluate why) s).1.pot.state = next from hnew]
          exact nextPotState_melted hhot hstate hnext
      case potAlarm set =>
        obtain hp | ⟨hor, -, -⟩ | ⟨-, hf, -⟩ := potAlarm_cases set s
        · rwa [show (handle (.potAlarm set) s).1 = s from hp]
        · rw [hc.1, or_iff_left Bool.false_ne_true] at hor
          exact absurd (by rw [hor]; exact List.mem_cons_self ..) hc.2
        · simp [hf] at hstate
      all_goals simp [Task.kind] at hk
    · rwa [handle_potState s hk]
  · obtain hu | hu := List.mem_append.mp hu
    · exact ht.emits s u hu
    · exact hroutine u (List.mem_cons_of_mem _ hu)

/-- The melt dwell ends MELTING, unless a pot alarm is raised at the event. -/
theorem run_melts {s : State} (hline : s.mru.line ≠ .unconfigured) (hs : s.pot.state = .melting) (hhot : belowLiquidus s = false)
    (hcalm : anyPotAlarmSet s = false) :
    ((run s [.potEvaluate .dwellOver]).pot.state = .molten ∨ (run s [.potEvaluate .dwellOver]).pot.state = .ready
      ∨ (run s [.potEvaluate .dwellOver]).pot.state = .setback) ∨ potAlarmRaised (run s [.potEvaluate .dwellOver]) := by
  have hidle : ¬potIdle s = true := by
    rw [potIdle, beq_iff_eq]
    exact hline
  have hnext : nextPotState s .dwellOver = some .molten := by simp [nextPotState, hs, hhot]
  have hevent : nextPotEvent s .dwellOver .molten = .plain := by simp [nextPotEvent, hs]
  have hstep : handle (.potEvaluate .dwellOver) s =
      ({ s with pot := { s.pot with state := .molten, meltTimer := none, setbackTimer := s.pot.setbackTimer } },
       [.potChanged s.pot.state, .potEvaluate .plain]) := by
    simp only [handle, potEvaluate, potActs, if_neg hidle, hnext, hevent, nextMeltTimer, reduceCtorEq, if_false]
  rw [run_cons, hstep]
  refine settle_calm (J := Melted)
    (P := fun u => u.pot.state = .molten ∨ u.pot.state = .ready ∨ u.pot.state = .setback) (fun t ts u hc _ hJ => hJ.next hc)
    (fun u h => h.state) (fun _ u h => h.state) _ _ _ ?_ ⟨hcalm, by simp⟩ ⟨.inl rfl, hhot, fun t ht => ?_⟩
  · simp [Task.kind, cycleKinds]
  · obtain rfl | rfl : t = .potChanged s.pot.state ∨ t = .potEvaluate .plain := by simpa using ht
    · exact ⟨by simp only [Task.kind]; decide, by simp [Task.kind], by simp⟩
    · exact ⟨by simp only [Task.kind]; decide, by simp [Task.kind], by simp⟩

/-! ## The feed timer (R155) -/

theorem run_feed_expires {s : State} (ht : s.pot.feeder.feedTimer ≠ none) : ∃ t, exec .feedTimerExpiry s = .next t ∧ Undisturbed s t
    ∧ (s.pot.feeder.state = .feeding → t.pot.feeder.feedTimer = none ∧ t.pot.feeder.delivered = s.pot.feeder.delivered)
    ∧ (t.overrun = true ∨ t.pot.feeder.state = .faulted)
    ∧ ((s.tbs.alarms[A 24]).masked = false → (t.acu.alarms[A 24]).raiseCycle = some s.lif.cycle ∧ alarmSet t (A 24) = true) := by
  obtain ⟨u, hu⟩ : ∃ u, u = setFeeder s { s.pot.feeder with feedTimer := none } := ⟨_, rfl⟩
  have hund : Undisturbed s u := by rw [hu]; exact setFeeder_undisturbed ..
  have hexec : exec .feedTimerExpiry s = .next (run u [.event (A 24), .feedFaulted]) := by
    refine congrArg Host.Outcome.next ?_
    rw [feedExpiry, if_pos (Option.isSome_iff_ne_none.mpr ht), hu]
    rfl
  refine ⟨_, hexec, hund.trans (run_undisturbed u _ rfl), fun hs => ?_, settle_faulted _ [.event (A 24)] u, fun hm => ?_⟩
  · have hflight : InFlight u.pot.feeder (run u [.event (A 24), .feedFaulted]).pot.feeder :=
      settle_inFlight _ u (by rw [hu]; exact fun k => absurd (hs.symm.trans k) (by decide)) (by decide)
    rw [hflight.only, hu]
    exact ⟨rfl, rfl⟩
  · have hm' : (u.tbs.alarms[A 24]).masked = false := by rw [hu]; exact hm
    have hraised := settle_event_raised 4294967295 [.feedFaulted] hm' rfl (by decide)
    have hmoved := run_moved (ts := [.event (A 24), .feedFaulted]) u (by decide)
    refine ⟨?_, hraised.2⟩
    have hcycle : u.lif.cycle = s.lif.cycle := by rw [hu]; rfl
    rw [← hcycle, ← hmoved.cycle]
    exact hraised.1

/-! ## The settle timer (R156) -/

/-- The settle timer is stopped, and the judgment has counted `n` ineffective feeds in a row. -/
def JudgedAs (n : Nat) (f : Feeder) : Prop := f.settleTimer = none ∧ f.ineffective = n

theorem handle_judgedAs {n : Nat} {t : Task} {s : State} (ht : t.kind ∉ [.settleOver, .feederRelease, .feederRestart])
    (h : JudgedAs n s.pot.feeder) : JudgedAs n (handle t s).1.pot.feeder := by
  by_cases hk : t.kind ∈ feederKinds
  · cases t
    case potGroup g =>
      obtain hg | ⟨-, hg⟩ := potGroup_feeder g s <;>
      · rw [show (handle (.potGroup g) s).1.pot.feeder = _ from hg]
        exact h
    case feedEvaluate =>
      simp only [handle, feedEvaluate]
      split
      · rw [startFeed_feeder]
        exact h
      · exact h
    case feedFaulted => exact h
    case settleFinish =>
      simp only [handle, settleFinish]
      split <;> exact h
    all_goals simp [Task.kind, feederKinds] at hk ht
  · rwa [handle_feeder s hk]

/-- Quiet hand-overs other than the end of a judgment keep the debt. -/
theorem handle_debt {t : Task} (s : State) (hq : t.kind ∈ quietKinds) (ht : t.kind ∉ [.settleFinish]) :
    (handle t s).1.pot.debt = s.pot.debt := by
  by_cases hk : t.kind ∈ feederKinds ++ [.potEvaluate, .potAlarm]
  · cases t
    case potGroup g =>
      refine potActs_keeps (P := fun u => u.pot.debt = s.pot.debt) rfl ?_
      (repeat' split) <;> rfl
    case feedEvaluate =>
      simp only [handle, feedEvaluate]
      split
      · rw [startFeed_feeder]
      · rfl
    case feedFaulted => rfl
    case settleOver =>
      simp only [handle, settleOver]
      split <;> rfl
    case feederRelease =>
      refine potActs_keeps (P := fun u => u.pot.debt = s.pot.debt) rfl ?_
      split <;> rfl
    case feederRestart =>
      simp only [handle, feederRestart]
      split
      · rw [setFeeder, handOperation_pot]
      all_goals rfl
    case potEvaluate why => exact (potEvaluate_feeder why s).2
    case potAlarm set => exact (potAlarm_feeder set s).2
    all_goals simp [Task.kind, feederKinds] at hk ht
  · refine (handle_potCore s fun hin => ?_).debt
    simp only [List.mem_append, List.mem_cons, List.not_mem_nil, or_false, not_or] at hin hk
    obtain hin | hin | hin | hin := hin
    · exact hk.1 hin
    · exact hk.2.1 hin
    · exact hk.2.2 hin
    · rw [hin] at hq
      revert hq
      decide

/-- The kinds of hand-over that can follow while a judged feed waits for its end. -/
def judgingKinds : List TaskKind := quietKinds.filter fun k => !feederStarts.contains k

theorem mem_judgingKinds {k : TaskKind} : k ∈ judgingKinds ↔ k ∈ quietKinds ∧ k ∉ feederStarts := by
  simp [judgingKinds]

/-- The end of a judgment finds the feed of its beginning: still not IDLE, with its delivered quantity, its number, its count and
the debt. -/
structure Awaiting (s u : State) : Prop where
  flight : InFlight s.pot.feeder u.pot.feeder
  debt : u.pot.debt = s.pot.debt

theorem Awaiting.next {s u : State} {t : Task} (hs : s.pot.feeder.state ≠ .idle) (h : Awaiting s u) (ht : t.kind ∈ judgingKinds) :
    Awaiting s (handle t u).1 := by
  obtain ⟨hq, hstart⟩ := mem_judgingKinds.mp ht
  refine ⟨h.flight.next hs hstart, (handle_debt u hq fun k => hstart ?_).trans h.debt⟩
  rw [List.mem_singleton.mp k]
  decide

theorem settle_debt (n : Nat) {ts : List Task} (s : State) (h : ∀ t ∈ ts, t.kind ∈ judgingKinds) :
    (settle n ts s).pot.debt = s.pot.debt := by
  refine settle_kinds (P := fun u => u.pot.debt = s.pot.debt) judgingKinds (by decide) (fun t u ht hu => ?_) (fun _ hu => hu) n ts s
    (among_iff.mpr h) rfl
  obtain ⟨hq, hstart⟩ := mem_judgingKinds.mp ht
  exact (handle_debt u hq fun k => hstart (by rw [List.mem_singleton.mp k]; decide)).trans hu

/-- The state in which a feed has been judged, with its count of ineffective ones. -/
def judgedState (s : State) (k : Nat) : State := setFeeder s { s.pot.feeder with settleTimer := none, ineffective := k }

theorem settleFinish_faults {s : State} (h : s.pot.feeder.ineffective = 3) :
    settleFinish s = ({ s with pot := { s.pot with debt := max 0 (s.pot.debt - s.pot.feeder.delivered) } },
      [.event (A 24), .feedFaulted]) := if_pos h

theorem settleFinish_returns {s : State} (h : s.pot.feeder.ineffective ≠ 3) :
    settleFinish s = ({ s with pot := { s.pot with
      debt := max 0 (s.pot.debt - s.pot.feeder.delivered),
      feeder := { s.pot.feeder with state := .idle } } }, [.feedEvaluate]) := if_neg h

theorem settleFinish_debt (s : State) : (settleFinish s).1.pot.debt = max 0 (s.pot.debt - s.pot.feeder.delivered) := by
  unfold settleFinish
  dsimp only
  split <;> rfl

theorem settleFinish_among (s : State) : ∀ t ∈ (settleFinish s).2, t.kind ∈ judgingKinds := by
  by_cases h : s.pot.feeder.ineffective = 3
  · rw [settleFinish_faults h]
    show ∀ t ∈ [Task.event (A 24), .feedFaulted], t.kind ∈ judgingKinds
    decide
  · rw [settleFinish_returns h]
    show ∀ t ∈ [Task.feedEvaluate], t.kind ∈ judgingKinds
    decide

/-- Three ineffective feeds in a row fault the feeder (R156). -/
theorem settle_judged_faults (n : Nat) (s : State) (h : s.pot.feeder.settleTimer = none ∧ s.pot.feeder.ineffective = 3) :
    (settle n [.event (A 23), .settleFinish] s).overrun = true
      ∨ (settle n [.event (A 23), .settleFinish] s).pot.feeder.state = .faulted := by
  obtain ho | ⟨m, u, hu, heq⟩ := settle_last (P := fun u => JudgedAs 3 u.pot.feeder) (Q := fun t => t.kind ∈ judgingKinds)
    (fun t u ht hu => handle_judgedAs (fun k => (mem_judgingKinds.mp ht).2 (by revert k; cases t <;> simp [Task.kind, feederStarts])) hu)
    (fun t u ht _ => among_iff.mp (handle_among (ks := judgingKinds) (by decide) u ht)) n [.event (A 23)] .settleFinish s (by decide) h
  · exact .inl ho
  · have hend := settle_faulted m [.event (A 24)]
      { u with pot := { u.pot with debt := max 0 (u.pot.debt - u.pot.feeder.delivered) } }
    rw [show handle .settleFinish u = settleFinish u from rfl, settleFinish_faults hu.2] at heq
    rw [show [Task.event (A 23)] ++ [.settleFinish] = [.event (A 23), .settleFinish] from rfl] at heq
    rw [heq]
    exact hend

/-- What a judged feed leaves of the debt, and where the feeder goes below three in a row (R153, R156). -/
theorem settle_judged_settles (n : Nat) (s : State) (hs : s.pot.feeder.state ≠ .idle) :
    (settle n [.event (A 23), .settleFinish] s).overrun = true
      ∨ ((settle n [.event (A 23), .settleFinish] s).pot.debt = max 0 (s.pot.debt - s.pot.feeder.delivered)
        ∧ (s.pot.feeder.ineffective ≠ 3 → (settle n [.event (A 23), .settleFinish] s).overrun = true
          ∨ (settle n [.event (A 23), .settleFinish] s).pot.feeder.state = .idle
          ∨ ((settle n [.event (A 23), .settleFinish] s).pot.feeder.state = .feeding
            ∧ (settle n [.event (A 23), .settleFinish] s).pot.feeder.number = s.pot.feeder.number + 1))) := by
  obtain ho | ⟨m, u, hu, heq⟩ := settle_last (P := Awaiting s) (Q := fun t => t.kind ∈ judgingKinds)
    (fun t u ht hu => hu.next hs ht)
    (fun t u ht _ => among_iff.mp (handle_among (ks := judgingKinds) (by decide) u ht)) n [.event (A 23)] .settleFinish s (by decide)
    ⟨.refl _, rfl⟩
  · exact .inl ho
  · rw [show [Task.event (A 23)] ++ [.settleFinish] = [.event (A 23), .settleFinish] from rfl,
      show handle .settleFinish u = settleFinish u from rfl] at heq
    have hdelivered : u.pot.feeder.delivered = s.pot.feeder.delivered := by rw [hu.flight.only]
    have hnumber : u.pot.feeder.number = s.pot.feeder.number := by rw [hu.flight.only]
    have hcount : u.pot.feeder.ineffective = s.pot.feeder.ineffective := by rw [hu.flight.only]
    rw [heq]
    refine .inr ⟨?_, fun hne => ?_⟩
    · rw [settle_debt m _ (settleFinish_among u), settleFinish_debt, hu.debt, hdelivered]
    · rw [settleFinish_returns (by rw [hcount]; exact hne)]
      obtain _ | m := m
      · exact .inl rfl
      · refine .inr ?_
        rw [settle_cons, show (handle .feedEvaluate _).2 = [] from rfl, List.append_nil, settle_nil]
        simp only [handle, feedEvaluate]
        split
        · rw [startFeed_feeder]
          exact .inr ⟨rfl, by simp only [feedingFeeder]; rw [hnumber]⟩
        · exact .inl rfl

section
variable {s : State} (ht : s.pot.feeder.settleTimer ≠ none)
include ht

theorem settleOver_ineffective (h : feedJudged s = true) (hi : feedIneffective s = true) : exec .settleTimerExpiry s =
    .next (run (judgedState s (min 3 (s.pot.feeder.ineffective + 1))) [.event (A 23), .settleFinish]) := by
  refine congrArg Host.Outcome.next ?_
  rw [settleOver, if_pos (Option.isSome_iff_ne_none.mpr ht), nextIneffective, if_pos h, if_pos hi, h, hi]
  rfl

/-- A feed that is not judged ineffective ends, and the next may start at once. -/
theorem settleOver_returns (h : (feedJudged s && feedIneffective s) = false) {n : Nat} (hn : nextIneffective s = n) (h3 : n ≠ 3) :
    exec .settleTimerExpiry s = .next (feedEvaluate { s with pot := { s.pot with
      debt := max 0 (s.pot.debt - s.pot.feeder.delivered),
      feeder := { s.pot.feeder with settleTimer := none, ineffective := n, state := .idle } } }).1 := by
  refine congrArg Host.Outcome.next ?_
  rw [settleOver, if_pos (Option.isSome_iff_ne_none.mpr ht), h, hn]
  have hfin := settleFinish_returns (s := judgedState s n) h3
  rw [runEffect, show ((if false = true then [Task.event (A 23)] else []) ++ [.settleFinish]) = [.settleFinish] from rfl, run_cons,
    show handle .settleFinish (setFeeder s { s.pot.feeder with settleTimer := none, ineffective := n }) = _ from hfin,
    List.append_nil, settle_cons, show (handle .feedEvaluate _).2 = [] from rfl, List.append_nil, settle_nil]
  rfl

end

theorem feedJudged_iff (s : State) : feedJudged s = true ↔ s.pot.feeder.aborted = false ∧ s.pot.level ≠ none := by
  simp [feedJudged, Option.isSome_iff_ne_none]

theorem feedIneffective_iff (s : State) : feedIneffective s = true ↔ (s.pot.level.getD 0 - s.pot.feeder.levelBefore.getD 0) * 2
    < Int.tdiv (risePerGram s.tbs * s.pot.feeder.delivered) 10 := decide_eq_true_iff

/-- A feed judged ineffective (R156). -/
theorem exec_settle_ineffective {s : State} (ht : s.pot.feeder.settleTimer ≠ none) (hj : feedJudged s = true)
    (hi : feedIneffective s = true) : ∃ t, exec .settleTimerExpiry s = .next t ∧ Undisturbed s t
      ∧ t.pot.feeder.settleTimer = none ∧ t.pot.feeder.ineffective = min 3 (s.pot.feeder.ineffective + 1)
      ∧ ((s.tbs.alarms[A 23]).masked = false → (t.acu.alarms[A 23]).raiseCycle = some s.lif.cycle)
      ∧ (2 ≤ s.pot.feeder.ineffective → t.overrun = true ∨ t.pot.feeder.state = .faulted)
      ∧ (s.pot.feeder.state = .settling → t.overrun = true ∨ t.pot.debt = max 0 (s.pot.debt - s.pot.feeder.delivered))
      ∧ (s.pot.feeder.state = .settling → s.pot.feeder.ineffective < 2 → t.overrun = true ∨ t.pot.feeder.state = .idle
          ∨ (t.pot.feeder.state = .feeding ∧ t.pot.feeder.number = s.pot.feeder.number + 1)) := by
  obtain ⟨k, hk⟩ : ∃ k, k = min 3 (s.pot.feeder.ineffective + 1) := ⟨_, rfl⟩
  rw [settleOver_ineffective ht hj hi, ← hk]
  obtain ⟨u, hu⟩ : ∃ u, u = judgedState s k := ⟨_, rfl⟩
  have hund : Undisturbed s u := by rw [hu]; exact setFeeder_undisturbed ..
  have hjudged : JudgedAs k (run u [.event (A 23), .settleFinish]).pot.feeder :=
    settle_kinds (P := fun v => JudgedAs k v.pot.feeder) (without [.settleOver, .feederRelease, .feederRestart]) (by decide)
      (fun t v ht hv => handle_judgedAs (mem_without.mp ht) hv) (fun _ hv => hv) _ _ u (among_without (by decide))
      (by rw [hu]; exact ⟨rfl, rfl⟩)
  have hstate : s.pot.feeder.state = .settling → u.pot.feeder.state ≠ .idle := by
    intro h
    rw [hu, judgedState]
    exact fun k => absurd (h.symm.trans k) (by decide)
  have htimer : u.pot.feeder.settleTimer = none := by rw [hu]; rfl
  have hcount : u.pot.feeder.ineffective = k := by rw [hu]; rfl
  have hsettles := settle_judged_settles Config.cascadeBudget u
  rw [← hu]
  refine ⟨_, rfl, hund.trans (run_undisturbed u _ rfl), hjudged.1, hjudged.2, fun hm => ?_, fun h2 => ?_, fun h => ?_, fun h h2 => ?_⟩
  · have hm' : (u.tbs.alarms[A 23]).masked = false := by rw [hu]; exact hm
    have hmoved := run_moved (ts := [.event (A 23), .settleFinish]) u (by decide)
    have hcycle : u.lif.cycle = s.lif.cycle := by rw [hu]; rfl
    rw [← hcycle, ← hmoved.cycle]
    exact (settle_event_raised 4294967295 [.settleFinish] hm' rfl (by decide)).1
  · exact settle_judged_faults _ u ⟨htimer, by omega⟩
  · refine (hsettles (hstate h)).imp_right fun hs => hs.1.trans ?_
    rw [hu]
    rfl
  · obtain ho | ⟨-, hs⟩ := hsettles (hstate h)
    · exact .inl ho
    · obtain ho | hidle | ⟨hf, hn⟩ := hs (by omega)
      · exact .inl ho
      · exact .inr (.inl hidle)
      · exact .inr (.inr ⟨hf, hn.trans (by rw [hu]; rfl)⟩)

/-- Settles O59: the timers of the pot state by its table, the feed timer by the fault at the end of its event, and the settle timer
by what waits between a judgment and its end. -/
theorem potTimersExpire : Obligations.PotTimersExpire := by
  intro s
  refine ⟨fun h => ?_, fun h => ?_, fun h => ?_, fun h => ?_, fun ht hline hs hhot hcalm => ?_, fun ht hline hhot hcalm hs => ?_,
    fun ht => run_feed_expires ht, fun ht => ?_⟩
  · exact congrArg Host.Outcome.next (by rw [meltDwellExpiry, if_neg (by rw [h]; exact Bool.false_ne_true)]; rfl)
  · exact congrArg Host.Outcome.next (by rw [setbackExpiry, if_neg (by rw [h]; exact Bool.false_ne_true)]; rfl)
  · exact congrArg Host.Outcome.next (by rw [feedExpiry, if_neg (by rw [h]; exact Bool.false_ne_true)]; rfl)
  · exact congrArg Host.Outcome.next (by rw [settleOver, if_neg (by rw [h]; exact Bool.false_ne_true)]; rfl)
  · obtain ⟨u, hu⟩ : ∃ u : State, u = { s with pot := { s.pot with meltTimer := none } } := ⟨_, rfl⟩
    refine ⟨run u [.potEvaluate .dwellOver], congrArg Host.Outcome.next ?_, ?_, ?_⟩
    · rw [meltDwellExpiry, if_pos (Option.isSome_iff_ne_none.mpr ht), hu]
      rfl
    · refine Undisturbed.trans (t := u) ?_ (run_undisturbed u _ rfl)
      rw [hu]
      exact ⟨rfl, rfl, rfl, rfl, rfl, rfl, rfl, rfl, rfl, rfl, rfl, rfl, rfl, rfl⟩
    · have h := run_melts (s := u) (by rw [hu]; exact hline) (by rw [hu]; exact hs) (by rw [hu]; exact hhot) (by rw [hu]; exact hcalm)
      tauto
  · obtain ⟨u, hu⟩ : ∃ u : State, u = { s with pot := { s.pot with setbackTimer := none } } := ⟨_, rfl⟩
    refine ⟨run u [.potEvaluate .setbackOver], congrArg Host.Outcome.next ?_, ?_, ?_⟩
    · rw [setbackExpiry, if_pos (Option.isSome_iff_ne_none.mpr ht), hu]
      rfl
    · refine Undisturbed.trans (t := u) ?_ (run_undisturbed u _ rfl)
      rw [hu]
      exact ⟨rfl, rfl, rfl, rfl, rfl, rfl, rfl, rfl, rfl, rfl, rfl, rfl, rfl, rfl⟩
    · exact run_enters_setback rfl (by rw [hu]; exact hline) (by rw [hu]; exact hhot) (by rw [hu]; exact hcalm) (by rw [hu]; exact hs)
  · dsimp only
    rw [← feedJudged_iff, ← feedIneffective_iff]
    refine ⟨fun n hn hrow => ?_, fun hj hi => exec_settle_ineffective ht hj hi⟩
    have hnot : (feedJudged s && feedIneffective s) = false := by
      obtain ⟨h, -⟩ | ⟨-, h, -⟩ := hrow <;> simp [h]
    have hnext : nextIneffective s = n := by
      obtain ⟨h, rfl⟩ | ⟨hj, hi, rfl⟩ := hrow
      · rw [nextIneffective, if_neg h]
      · rw [nextIneffective, if_pos hj, if_neg hi]
    rw [settleOver_returns ht hnot hnext hn, feedEvaluate]
    simp only [Bool.and_eq_true]

end Sys2Proof.Machine
end

section
/-! The manual commands (R23, R39, R142), and the requests that change the line state (R34, R35, R36). -/

namespace Sys2Proof.Machine

/-! ## Who changes a manual command -/

/-- Every manual command stays. -/
def ManualKept (s t : State) : Prop := ∀ o : OutIx, (outputRecord t o).manual = (outputRecord s o).manual

theorem ManualKept.refl (s : State) : ManualKept s s := fun _ => rfl

theorem ManualKept.trans {s t u : State} (h : ManualKept s t) (k : ManualKept t u) : ManualKept s u := fun o => (k o).trans (h o)

theorem ManualKept.of_records {s t : State} (h : t.out.records = s.out.records) : ManualKept s t := by
  intro o
  rw [outputRecord, outputRecord, h]

theorem setOutputRecord_manual {s : State} {o : OutIx} {r : OutputRecord} (h : r.manual = (outputRecord s o).manual) :
    ManualKept s (setOutputRecord s o r) := by
  intro p
  by_cases hop : o = p
  · subst hop
    rw [outputRecord_set_same, h]
  · rw [outputRecord_set_other _ _ hop]

theorem formPure_manual (o : OutIx) (s : State) : ManualKept s (formPure o s) := by
  intro p
  by_cases hop : o = p
  · subst hop
    by_cases ho : o = O 21
    · rw [formPure, if_pos (.inl ho)]
    · rw [formPure_record_same s ho]
  · rw [formPure_record_other s hop]

theorem setAutomatic_manual (o : OutIx) (v : Nat) (s : State) : ManualKept s (setAutomatic o v s).1 := by
  have h : ManualKept s (setOutputRecord s o { outputRecord s o with automatic := v }) := setOutputRecord_manual rfl
  exact h.trans (formPure_manual o _)

theorem handLastOperation_records (s : State) : (handLastOperation s).out.records = s.out.records := by
  unfold handLastOperation
  split
  · exact handOperation_records ..
  · rfl

theorem handDelivered_manual (o : OutIx) (s : State) : ManualKept s (handDelivered o s).1 := by
  unfold handDelivered
  dsimp only
  (repeat' split)
  · exact .of_records (handLastOperation_records s)
  · exact (formPure_manual o s).trans (.of_records (by rw [handCommand_records]))
  · exact formPure_manual o s

theorem captureHeld_manual (g : Group) (s : State) : ManualKept s (captureHeld g s) :=
  List.foldlRecOn (motive := fun t : State => ManualKept s t) _ _ (.refl s) fun _ ht _ _ => ht.trans (setOutputRecord_manual rfl)

theorem activateGroup_manual (g : Group) (x : Cause) (s : State) : ManualKept s (activateGroup g x s).1 := by
  by_cases h : (groupRecord s g).active = true
  · rw [activateGroup_active h]
    exact .refl s
  · rw [activateGroup_inactive (Bool.eq_false_iff.mpr h)]
    exact (captureHeld_manual g s).trans (.of_records rfl)

theorem potGroup_records (g : Group) (s : State) : (potGroup g s).1.out.records = s.out.records := by
  refine potActs_keeps (P := fun u => u.out.records = s.out.records) rfl ?_
  cases g
  case feed =>
    dsimp only
    split
    · split
      · exact handOperation_records ..
      · rfl
    · rfl
  all_goals rfl

theorem feedEvaluate_records (s : State) : (feedEvaluate s).1.out.records = s.out.records := by
  unfold feedEvaluate
  split
  · rw [startFeed_out]
  · rfl

theorem feederRestart_records (s : State) : (feederRestart s).1.out.records = s.out.records := by
  unfold feederRestart
  dsimp only
  split
  · exact handOperation_records ..
  all_goals rfl

/-- Among the hand-overs that leave the nozzles' edges alone, only the pumps' release changes a manual command. -/
theorem handle_manual {t : Task} (s : State) (h : t.kind ∉ [.releasePumps, .flxEndingCloses, .flxTakeEdges]) :
    ManualKept s (handle t s).1 := by
  by_cases ht : Block.out ∈ touched t
  · cases t
    case setAutomatic o v => exact setAutomatic_manual o v s
    case formDelivered o => exact formPure_manual o s
    case handDelivered o => exact handDelivered_manual o s
    case directClose n => exact setAutomatic_manual (valveOutput n) 0 { s with lif := withdraw (valveOutput n) s.lif }
    case activate g x => exact activateGroup_manual g x s
    case potGroup g => exact .of_records (potGroup_records g s)
    case feedEvaluate => exact .of_records (feedEvaluate_records s)
    case feederRestart => exact .of_records (feederRestart_records s)
    case releasePumps | flxEndingCloses | flxTakeEdges => exact absurd (by simp [Task.kind]) h
    all_goals simp [touched] at ht
  · exact .of_records (by rw [(handle_touches t s).same .out ht])

theorem releasePumps_manual {s : State} {o : OutIx} (h : o ≠ O 17) (k : o ≠ O 18) :
    (outputRecord (releasePumps s).1 o).manual = (outputRecord s o).manual := by
  rw [releasePumps, outputRecord_set_other _ _ k.symm, outputRecord_set_other _ _ h.symm]

theorem releasePumps_released (s : State) (o : OutIx) :
    (outputRecord (releasePumps s).1 o).manual = (outputRecord s o).manual ∨ (outputRecord (releasePumps s).1 o).manual = none := by
  by_cases h18 : O 18 = o
  · subst h18
    exact .inr (by rw [releasePumps, outputRecord_set_same])
  · by_cases h17 : O 17 = o
    · subst h17
      exact .inr (by rw [releasePumps, outputRecord_set_other _ _ h18, outputRecord_set_same])
    · exact .inl (releasePumps_manual (Ne.symm h17) (Ne.symm h18))

/-- A quiet hand-over keeps a manual command or releases it. -/
theorem handle_releases {t : Task} (s : State) (hq : t.kind ∈ quietKinds) (o : OutIx) :
    (outputRecord (handle t s).1 o).manual = (outputRecord s o).manual ∨ (outputRecord (handle t s).1 o).manual = none := by
  by_cases h : t.kind = .releasePumps
  · cases t
    case releasePumps => exact releasePumps_released s o
    all_goals cases h
  · refine .inl (handle_manual s (fun hin => ?_) o)
    simp only [List.mem_cons, List.not_mem_nil, or_false] at hin
    obtain hin | hin | hin := hin
    · exact h hin
    all_goals
      rw [hin] at hq
      revert hq
      decide

/-- A quiet hand-over keeps the manual command of an output that is not a pump's. -/
theorem handle_manual_other {t : Task} (s : State) (hq : t.kind ∈ quietKinds) {o : OutIx} (h17 : o ≠ O 17) (h18 : o ≠ O 18) :
    (outputRecord (handle t s).1 o).manual = (outputRecord s o).manual := by
  by_cases h : t.kind = .releasePumps
  · cases t
    case releasePumps => exact releasePumps_manual h17 h18
    all_goals cases h
  · refine handle_manual s (fun hin => ?_) o
    simp only [List.mem_cons, List.not_mem_nil, or_false] at hin
    obtain hin | hin | hin := hin
    · exact h hin
    all_goals
      rw [hin] at hq
      revert hq
      decide

theorem settle_manual_other (n : Nat) {ts : List Task} (s : State) (hq : Among quietKinds ts) {o : OutIx} (h17 : o ≠ O 17) (h18 : o ≠ O 18) :
    (outputRecord (settle n ts s) o).manual = (outputRecord s o).manual :=
  settle_kinds (P := fun u => (outputRecord u o).manual = (outputRecord s o).manual) quietKinds (by decide)
    (fun _ u ht hu => (handle_manual_other u ht h17 h18).trans hu) (fun _ hu => hu) n ts s hq rfl

theorem settle_releases (n : Nat) {ts : List Task} (s : State) (hq : Among quietKinds ts) (o : OutIx) :
    (outputRecord (settle n ts s) o).manual = (outputRecord s o).manual ∨ (outputRecord (settle n ts s) o).manual = none :=
  settle_kinds (P := fun u => (outputRecord u o).manual = (outputRecord s o).manual ∨ (outputRecord u o).manual = none) quietKinds
    (by decide) (fun _ u ht hu => (handle_releases u ht o).elim (fun h => hu.imp h.trans h.trans) .inr) (fun _ hu => hu) n ts s hq (.inl rfl)

theorem releaseManual_manual (s : State) (o : OutIx) : (outputRecord (releaseManual s) o).manual = none := by
  simp only [outputRecord, releaseManual, Fin.getElem_fin, Vector.getElem_map]

/-! ## Requests that change the line state -/

theorem setLine_undisturbed (s : State) (l : LineState) : Undisturbed s (setLine s l) :=
  ⟨rfl, rfl, rfl, rfl, rfl, rfl, rfl, rfl, rfl, rfl, rfl, rfl, rfl, rfl⟩

theorem releaseManual_undisturbed (s : State) : Undisturbed s (releaseManual s) :=
  ⟨rfl, rfl, rfl, rfl, rfl, rfl, rfl, rfl, rfl, rfl, rfl, rfl, rfl, rfl⟩

/-- MRU after an event that begins with a change of the line state that nothing undoes. -/
theorem Undisturbed.mru_line {s t : State} (h : Undisturbed s t) {l : LineState} (hl : t.mru.line = l) :
    t.mru = { s.mru with line := l } := by
  rw [← hl]
  exact h.mru

theorem lineData_of {t : State} {l : LineState} (h : t.mru.line = l) : lineData t = replyData [(5, lineStateCode l)] := by
  rw [← h]
  rfl

theorem firstHoldAlarm_none {s : State} (h : ∀ a : AlarmIx, holdAlarmSet s a = false) : (firstHoldAlarm s).isSome = false := by
  rw [firstHoldAlarm, List.find?_eq_none.mpr fun a _ => by rw [h a]; exact Bool.false_ne_true]
  rfl

theorem firstHoldAlarm_some {s : State} (h : ∃ a : AlarmIx, holdAlarmSet s a = true) : (firstHoldAlarm s).isSome = true := by
  obtain ⟨a, ha⟩ := h
  rw [firstHoldAlarm, List.find?_isSome]
  exact ⟨a, List.mem_finRange a, ha⟩

/-- The line runs, no evaluation that sends the pot to SETBACK waits, and the pot is out of SETBACK or about to be taken out. -/
structure StartsPot (ts : List Task) (s : State) : Prop where
  line : s.mru.line = .run
  calls : ∀ t ∈ ts, ∀ why, t = .potEvaluate why → entersSetback why = false
  leaves : s.pot.state ≠ .setback ∨ Task.potLine ∈ ts ∨ Task.potEvaluate .leaveSetback ∈ ts

theorem StartsPot.next {t : Task} {ts : List Task} {s : State} (h : StartsPot (t :: ts) s) :
    StartsPot ((handle t s).2 ++ ts) (handle t s).1 := by
  obtain ⟨hline, hcalls, hleaves⟩ := h
  have hactive : ¬potIdle s = true := by
    rw [potIdle, hline]
    decide
  have hno := hcalls t (List.mem_cons_self ..)
  refine ⟨?_, fun u hu => ?_, ?_⟩
  · rw [handle_line_stays t (by rw [hline]; decide) (by rw [hline]; decide), hline]
  · obtain hu | hu := List.mem_append.mp hu
    · exact handle_emits_outside hno (by rw [hline]; exact fun k => absurd k.1 (by decide)) u hu
    · exact hcalls u (List.mem_cons_of_mem _ hu)
  · by_cases hs : s.pot.state = .setback
    · obtain hl | hl | hl := hleaves
      · exact absurd hs hl
      · obtain rfl | hl := List.mem_cons.mp hl
        · have hemit : (handle .potLine s).2 = [.potEvaluate .leaveSetback, .setbackTimer] := by
            simp only [handle, potLine, potActs, if_neg hactive, hline, if_true]
          exact .inr (.inr (by rw [hemit]; simp))
        · exact .inr (.inl (List.mem_append_right _ hl))
      · obtain rfl | hl := List.mem_cons.mp hl
        · refine .inl ?_
          have hnext : nextPotState s .leaveSetback = some .molten := by rw [nextPotState, hs]; rfl
          have hstep : (potEvaluate .leaveSetback s).1.pot.state = .molten := by
            simp only [potEvaluate, potActs, if_neg hactive, hnext]
          rw [show (handle (.potEvaluate .leaveSetback) s).1.pot.state = .molten from hstep]
          decide
        · exact .inr (.inr (List.mem_append_right _ hl))
    · exact .inl (handle_outside hno hs)

theorem StartsPot.settled (n : Nat) {ts : List Task} {s : State} (h : StartsPot ts s) :
    (settle n ts s).overrun = true ∨ (settle n ts s).pot.state ≠ .setback :=
  settle_holds (I := StartsPot) (P := fun u => u.overrun = true ∨ u.pot.state ≠ .setback) (fun _ _ _ hI => hI.next)
    (fun _ hI => .inr (hI.leaves.resolve_right (by simp))) (fun _ _ _ => .inl rfl) n ts s h

/-- START takes the pot out of SETBACK (R138). -/
theorem run_start_pot {s : State} (h : s.mru.line = .run) :
    (run s [.lineTold .standby]).overrun = true ∨ (run s [.lineTold .standby]).pot.state ≠ .setback := by
  rw [run_cons]
  exact StartsPot.settled _ ⟨h, by simp [handle, lineTold], .inr (.inl (by simp [handle, lineTold]))⟩

theorem decideStart_taken {r : ReqCell} {s : State} (hl : s.mru.line = .standby) (h : (firstHoldAlarm s).isSome = false) :
    decideStart r s = { status := .ok, state := setLine s .run, tasks := [.lineTold .standby], data := lineData } := by
  rw [decideStart, hl]
  simp only [h, Bool.false_eq_true, if_false, moveLine, hl]

/-! ## STOP (R35) -/

/-- The line drains with a board in the train or a hold in progress. -/
def Drains (s : State) : Prop := s.mru.line = .draining ∧ (s.btk.train ≠ [] ∨ s.hld.phase ≠ .none)

theorem train_ne_nil_of_undisturbed {s t : State} (h : Undisturbed s t) (hs : s.btk.train ≠ []) : t.btk.train ≠ [] := by
  obtain ⟨-, -, -, -, -, -, hid, -⟩ := h
  intro k
  rw [k, List.map_nil, eq_comm, List.map_eq_nil_iff] at hid
  exact hs hid

theorem train_nil_of_undisturbed {s t : State} (h : Undisturbed s t) (hs : s.btk.train = []) : t.btk.train = [] := by
  obtain ⟨-, -, -, -, -, -, hid, -⟩ := h
  rwa [hs, List.map_nil, List.map_eq_nil_iff] at hid

theorem Drains.next {t : Task} {s : State} (hq : quiet t = true) (h : Drains s) : Drains (handle t s).1 := by
  obtain ⟨hline, hor⟩ := h
  refine ⟨?_, hor.imp (train_ne_nil_of_undisturbed (handle_undisturbed t s hq)) (handle_quiet_phase t s hq)⟩
  by_cases ht : Block.mru ∈ touched t
  · cases t
    case drainingTest =>
      simp only [handle, drainingTest]
      rw [if_neg fun k => hor.elim (· k.2.1) (· k.2.2), hline]
    case configuredTest =>
      simp only [handle, configuredTest]
      rw [if_neg fun k => absurd (hline.symm.trans k.1) (by decide), hline]
    case retire => cases hq
    all_goals simp [touched] at ht
  · rw [show (handle t s).1.mru = s.mru from (handle_touches t s).same .mru ht, hline]

/-- The train is empty, and the line is STANDBY, or a hold is in progress, or the test of R35 waits. -/
structure EmptiedLine (ts : List Task) (s : State) : Prop where
  quiet : ts.all quiet = true
  train : s.btk.train = []
  line : s.mru.line = .draining ∨ s.mru.line = .standby
  ends : s.hld.phase ≠ .none ∨ s.mru.line = .standby ∨ Task.drainingTest ∈ ts

theorem handle_line_within {t : Task} {s : State} (h : s.mru.line = .draining ∨ s.mru.line = .standby) :
    (handle t s).1.mru.line = .draining ∨ (handle t s).1.mru.line = .standby := by
  obtain hl | hl := handle_line t s
  · rwa [hl]
  · exact .inr hl

theorem EmptiedLine.next {t : Task} {ts : List Task} {s : State} (h : EmptiedLine (t :: ts) s) :
    EmptiedLine ((handle t s).2 ++ ts) (handle t s).1 := by
  obtain ⟨hquiet, htrain, hline, hends⟩ := h
  obtain ⟨hq, hrest⟩ : Machine.quiet t = true ∧ ts.all Machine.quiet = true := by simpa using hquiet
  refine ⟨all_quiet_append (handle_quiet t s hq) hrest, train_nil_of_undisturbed (handle_undisturbed t s hq) htrain,
    handle_line_within hline, ?_⟩
  by_cases hp : s.hld.phase = .none
  · obtain hends | hends | hends := hends
    · exact absurd hp hends
    · exact .inr (.inl ((handle_line_stays t (by rw [hends]; decide) (by rw [hends]; decide)).trans hends))
    · obtain rfl | hends := List.mem_cons.mp hends
      · refine .inr (.inl ?_)
        simp only [handle, drainingTest]
        split
        · rfl
        · next hno => exact hline.resolve_left fun hd => hno ⟨hd, htrain, hp⟩
      · exact .inr (.inr (List.mem_append_right _ hends))
  · exact .inl (handle_quiet_phase t s hq hp)

theorem EmptiedLine.run {ts : List Task} {s : State} (h : EmptiedLine ts s) :
    (run s ts).overrun = true ∨ (run s ts).hld.phase ≠ .none ∨ (run s ts).mru.line = .standby :=
  settle_holds (I := EmptiedLine) (P := fun u => u.overrun = true ∨ u.hld.phase ≠ .none ∨ u.mru.line = .standby)
    (fun _ _ _ hI => hI.next) (fun _ hI => .inr (hI.ends.imp_right fun k => k.resolve_right List.not_mem_nil))
    (fun _ _ _ => .inl rfl) _ ts s h

theorem decideStop_run {r : ReqCell} {s : State} (hl : s.mru.line = .run) :
    decideStop r s = { status := .ok, state := setLine s .draining, tasks := [.lineTold .run, .drainingTest], data := lineData } := by
  rw [decideStop, hl]
  simp only [moveLine, hl]

theorem decideEnterMaintenance_standby {r : ReqCell} {s : State} (hl : s.mru.line = .standby) (h : s.btk.train = []) :
    decideEnterMaintenance r s =
      { status := .ok, state := setLine s .maintenance, tasks := [.lineTold .standby], data := lineData } := by
  rw [decideEnterMaintenance, hl]
  simp only [moveLine, hl, if_pos h]

theorem decideLeaveMaintenance_maintenance {r : ReqCell} {s : State} (hl : s.mru.line = .maintenance) :
    decideLeaveMaintenance r s = { status := .ok, state := setLine (releaseManual s) .standby,
                                   tasks := allOutputs.map Task.formDelivered ++ [.lineTold .maintenance], data := lineData } := by
  rw [decideLeaveMaintenance, hl]

/-- Settles O46: the line state moves before anything follows from it, and only the test of R35 can move it on. -/
theorem lineStatesChangedByRequest : Obligations.LineStatesChangedByRequest := by
  refine ⟨fun r s ha hl => ⟨fun h => ?_, fun h => ?_⟩, fun r s ha hl => ?_, fun r s ha hl => ⟨fun h => ?_, fun h => ?_⟩,
    fun r s ha hl => ?_⟩
  · refine exec_refused (c := .start r) rfl ha ?_
    rw [show decideByCode (7 : Word16).toNat r s = decideStart r s from rfl, decideStart, hl]
    exact if_pos (firstHoldAlarm_some h)
  · have hund := (setLine_undisturbed s .run).trans (run_undisturbed (setLine s .run) [.lineTold .standby] rfl)
    have hline : (run (setLine s .run) [.lineTold .standby]).mru.line = .run :=
      run_line_stays _ (s := setLine s .run) LineState.noConfusion LineState.noConfusion
    have hpot := run_start_pot (s := setLine s .run) rfl
    generalize ht : run (setLine s .run) [.lineTold .standby] = t at hund hline hpot
    refine ⟨t, (exec_accepted (c := .start r) rfl ha).trans ?_, hund.mru_line hline, hund, hpot⟩
    rw [show decideByCode (7 : Word16).toNat r s = decideStart r s from rfl, decideStart_taken hl (firstHoldAlarm_none h), answer, ht]
    dsimp only
    rw [lineData_of hline]
    rfl
  · have hrun := run_undisturbed (setLine s .draining) [.lineTold .run, .drainingTest] rfl
    have hund := (setLine_undisturbed s .draining).trans hrun
    have hline : (run (setLine s .draining) [.lineTold .run, .drainingTest]).mru.line = .draining
        ∨ (run (setLine s .draining) [.lineTold .run, .drainingTest]).mru.line = .standby :=
      run_keeps (P := fun u => u.mru.line = .draining ∨ u.mru.line = .standby) (fun _ _ => handle_line_within) (fun _ hu => hu) _ _
        (.inl rfl)
    have hdrains : s.btk.train ≠ [] ∨ s.hld.phase ≠ .none →
        Drains (run (setLine s .draining) [.lineTold .run, .drainingTest]) := fun h =>
      run_quiet (P := Drains) (fun _ _ hq hu => hu.next hq) (fun _ hu => hu) _ _ rfl ⟨rfl, h⟩
    have hempty : s.btk.train = [] → (run (setLine s .draining) [.lineTold .run, .drainingTest]).overrun = true
        ∨ (run (setLine s .draining) [.lineTold .run, .drainingTest]).hld.phase ≠ .none
        ∨ (run (setLine s .draining) [.lineTold .run, .drainingTest]).mru.line = .standby := fun h =>
      EmptiedLine.run ⟨rfl, h, .inl rfl, .inr (.inr (by simp))⟩
    generalize ht : run (setLine s .draining) [.lineTold .run, .drainingTest] = t at hund hline hdrains hempty
    refine ⟨t, (exec_accepted (c := .stop r) rfl ha).trans ?_, hund, hline, fun h => (hdrains h).1, hempty⟩
    rw [show decideByCode (8 : Word16).toNat r s = decideStop r s from rfl, decideStop_run hl, answer, ht]
    rfl
  · refine exec_refused (c := .enterMaintenance r) rfl ha ?_
    rw [show decideByCode (15 : Word16).toNat r s = decideEnterMaintenance r s from rfl, decideEnterMaintenance, hl]
    exact if_neg h
  · have hund := (setLine_undisturbed s .maintenance).trans (run_undisturbed (setLine s .maintenance) [.lineTold .standby] rfl)
    have hline : (run (setLine s .maintenance) [.lineTold .standby]).mru.line = .maintenance :=
      run_line_stays _ (s := setLine s .maintenance) LineState.noConfusion LineState.noConfusion
    generalize ht : run (setLine s .maintenance) [.lineTold .standby] = t at hund hline
    refine ⟨t, (exec_accepted (c := .enterMaintenance r) rfl ha).trans ?_, hund.mru_line hline, hund⟩
    rw [show decideByCode (15 : Word16).toNat r s = decideEnterMaintenance r s from rfl, decideEnterMaintenance_standby hl h, answer, ht]
    dsimp only
    rw [lineData_of hline]
    rfl
  · obtain ⟨ts, hts⟩ : ∃ ts, ts = allOutputs.map Task.formDelivered ++ [.lineTold .maintenance] := ⟨_, rfl⟩
    have hquiet : ts.all quiet = true := by
      rw [hts]
      exact all_quiet_append (all_quiet_map _ (fun _ => rfl) _) rfl
    obtain ⟨u, hu⟩ : ∃ u, u = setLine (releaseManual s) .standby := ⟨_, rfl⟩
    have hund : Undisturbed s (run u ts) := by
      refine Undisturbed.trans (t := u) ?_ (run_undisturbed u ts hquiet)
      rw [hu]
      exact (releaseManual_undisturbed s).trans (setLine_undisturbed _ _)
    have hstandby : u.mru.line = .standby := by rw [hu]; rfl
    have hline : (run u ts).mru.line = .standby :=
      (run_line_stays ts (by rw [hstandby]; decide) (by rw [hstandby]; decide)).trans hstandby
    have hmanual : ∀ o, (outputRecord (run u ts) o).manual = none := by
      intro o
      have hnone : (outputRecord u o).manual = none := by rw [hu]; exact releaseManual_manual s o
      obtain h | h := settle_releases Config.cascadeBudget u (among_quiet hquiet) o
      · exact h.trans hnone
      · exact h
    generalize ht : run u ts = t at hund hline hmanual
    refine ⟨t, (exec_accepted (c := .leaveMaintenance r) rfl ha).trans ?_, hund.mru_line hline, hund, hmanual⟩
    rw [show decideByCode (16 : Word16).toNat r s = decideLeaveMaintenance r s from rfl, decideLeaveMaintenance_maintenance hl, ← hts, ← hu,
      answer, ht]
    dsimp only
    rw [lineData_of hline]
    rfl

end Sys2Proof.Machine
end

section
/-! SET_OUTPUT (R39, R23): the manual command, and what OUT forms of it. -/

namespace Sys2Proof.Machine

/-- Nothing but one output's record and LIF's command stores is changed. -/
def OutputOnly (o : OutIx) (s t : State) : Prop :=
  t = { s with out := { s.out with records := vset s.out.records o (outputRecord t o) },
               lif := { s.lif with commandQueue := t.lif.commandQueue, carryList := t.lif.carryList, deferredSet := t.lif.deferredSet } }

theorem outputOnly_iff {o : OutIx} {s t : State} : OutputOnly o s t ↔
    ∃ (r : OutputRecord) (q : List QueuedCell) (k : List TimedCell) (d : List CommandCell),
      t = { s with out := { s.out with records := vset s.out.records o r },
                   lif := { s.lif with commandQueue := q, carryList := k, deferredSet := d } } := by
  constructor
  · exact fun h => ⟨_, _, _, _, h⟩
  · rintro ⟨r, q, k, d, rfl⟩
    have hr : (vset s.out.records o r)[o] = r := vset_same ..
    simp only [OutputOnly, outputRecord, hr]

theorem OutputOnly.trans {o : OutIx} {s t u : State} (h : OutputOnly o s t) (k : OutputOnly o t u) : OutputOnly o s u := by
  obtain ⟨r, q, l, d, rfl⟩ := outputOnly_iff.mp h
  obtain ⟨r', q', l', d', rfl⟩ := outputOnly_iff.mp k
  refine outputOnly_iff.mpr ⟨r', q', l', d', ?_⟩
  simp only [vset_vset]

theorem OutputOnly.refl (o : OutIx) (s : State) : OutputOnly o s s :=
  outputOnly_iff.mpr ⟨s.out.records[o], s.lif.commandQueue, s.lif.carryList, s.lif.deferredSet, by rw [vset_self]⟩

theorem setOutputRecord_only (o : OutIx) (s : State) (r : OutputRecord) : OutputOnly o s (setOutputRecord s o r) :=
  outputOnly_iff.mpr ⟨r, s.lif.commandQueue, s.lif.carryList, s.lif.deferredSet, rfl⟩

theorem withdraw_only (o : OutIx) (s : State) : OutputOnly o s { s with lif := withdraw o s.lif } :=
  outputOnly_iff.mpr ⟨s.out.records[o], _, _, s.lif.deferredSet, by rw [vset_self]; rfl⟩

theorem handCommand_only (o : OutIx) (s : State) : OutputOnly o s (handCommand o s) := by
  unfold handCommand
  split
  · exact outputOnly_iff.mpr ⟨s.out.records[o], _, s.lif.carryList, _, by rw [vset_self, takeCommand_eq]⟩
  · exact .refl o s

/-- Forming a delivered command changes the output's record and its cells, and nothing else (R25, R26). -/
theorem formPure_only (o : OutIx) (s : State) : OutputOnly o s (formPure o s) := by
  unfold formPure
  dsimp only
  split
  · exact .refl o s
  · split
    · exact ((withdraw_only o s).trans (setOutputRecord_only o _ _)).trans (handCommand_only o _)
    · exact (setOutputRecord_only o s _).trans (handCommand_only o _)

/-- No block is told of the delivered commands of the heaters and the valves (R25). -/
theorem deliveredReports_none : ∀ o : OutIx, o.val < 16 → deliveredReports o = [] := by decide

theorem deliveredValue_setManual (o : OutIx) (v : Option Nat) (s : State) : deliveredValue (setManual o v s) o =
    clampUse s.tbs o (if cutOff s o = true then cutoffLevel s o else v.getD (outputRecord s o).automatic) := by
  have hr : outputRecord (setManual o v s) o = { outputRecord s o with manual := v } := outputRecord_set_same ..
  have hcut : cutOff (setManual o v s) o = cutOff s o := cutOff_of_eq (fun _ => rfl) o
  have hlevel : cutoffLevel (setManual o v s) o = cutoffLevel s o := by rw [cutoffLevel, cutoffLevel, hr]; rfl
  rw [deliveredValue, hr, hcut, hlevel]
  rfl

theorem setManual_undisturbed (o : OutIx) (v : Option Nat) (s : State) : Undisturbed s (setManual o v s) :=
  ⟨rfl, rfl, rfl, rfl, rfl, rfl, rfl, rfl, rfl, rfl, rfl, rfl, rfl, rfl⟩

/-- An event that sets a manual command (R39). -/
theorem run_setManual (o : OutIx) (ho : o ≠ O 21) (v : Option Nat) (s : State) : ∃ t, run (setManual o v s) [.formDelivered o] = t
    ∧ Undisturbed s t ∧ (o ≠ O 17 → o ≠ O 18 → (outputRecord t o).manual = v)
    ∧ ((outputRecord t o).manual = v ∨ (outputRecord t o).manual = none)
    ∧ (deliveredValue (setManual o v s) o = (outputRecord s o).delivered → t = setManual o v s)
    ∧ (o.val < 16 → OutputOnly o s t ∧ (outputRecord t o).automatic = (outputRecord s o).automatic
        ∧ (outputRecord t o).held = (outputRecord s o).held
        ∧ (outputRecord t o).delivered = deliveredValue (setManual o v s) o) := by
  have hr : outputRecord (setManual o v s) o = { outputRecord s o with manual := v } := outputRecord_set_same ..
  have hquiet : [Task.formDelivered o].all quiet = true := rfl
  refine ⟨_, rfl, (setManual_undisturbed o v s).trans (run_undisturbed _ _ hquiet), fun h17 h18 => ?_, ?_, fun h => ?_, fun h => ?_⟩
  · exact (settle_manual_other _ _ (among_quiet hquiet) h17 h18).trans (by rw [hr])
  · exact (settle_releases _ _ (among_quiet hquiet) o).imp_left fun h => h.trans (by rw [hr])
  · have hform : formPure o (setManual o v s) = setManual o v s := by rw [formPure, if_pos (.inr (by rw [h, hr]))]
    have hhandle : handle (.formDelivered o) (setManual o v s) = (setManual o v s, []) := by
      simp only [handle, formDelivered, hform, if_true]
    exact (Takes.one hhandle).run (by decide)
  · have hhandle : handle (.formDelivered o) (setManual o v s) = (formPure o (setManual o v s), []) := by
      simp only [handle, formDelivered, deliveredReports_none o h, ite_self]
    rw [(Takes.one hhandle).run (by decide)]
    refine ⟨(setOutputRecord_only o s _).trans (formPure_only o _), ?_, ?_, ?_⟩ <;> rw [formPure_record_same _ ho]
    · rw [hr]
    · rw [hr]

theorem outIx_small {n : Nat} (h1 : 1 ≤ n) (h2 : n ≤ 23) : (O n).val = n - 1 := Nat.mod_eq_of_lt (by omega)

theorem outIx_ne {n m : Nat} (h1 : 1 ≤ n) (h2 : n ≤ 23) (k1 : 1 ≤ m) (k2 : m ≤ 23) (h : n ≠ m) : O n ≠ O m := by
  intro k
  have := congrArg Fin.val k
  rw [outIx_small h1 h2, outIx_small k1 k2] at this
  omega

theorem pump_iff {n : Nat} (h1 : 1 ≤ n) (h23 : n ≤ 23) : (O n = O 17 ∨ O n = O 18) ↔ n = 17 ∨ n = 18 := by
  refine or_congr ⟨fun h => ?_, fun h => by rw [h]⟩ ⟨fun h => ?_, fun h => by rw [h]⟩ <;>
  · by_contra k
    exact outIx_ne h1 h23 (by decide) (by decide) k h

theorem decideSetOutput_value {r : ReqCell} {s : State} {n : Nat} (hline : s.mru.line = .maintenance) (hn : reqByte r 6 = n) (h1 : 1 ≤ n)
    (h23 : n ≤ 23) (h20 : n ≠ 20) (h21 : n ≠ 21) : decideSetOutput r s = setOutputValue (O n) r s := by
  rw [decideSetOutput, if_neg (not_not_intro hline), hn, if_neg (by omega)]

/-- Settles O47: the record is set before its delivered command is formed, and only a pump is told on. -/
theorem manualOutputsSetAndReleased : Obligations.ManualOutputsSetAndReleased := by
  intro r s n ha hline hn h1 h23 h20 h21
  have hdecide : decideByCode (17 : Word16).toNat r s = setOutputValue (O n) r s := decideSetOutput_value hline hn h1 h23 h20 h21
  have hpump := pump_iff h1 h23
  refine ⟨fun h => ?_, fun h hp hv hs => ?_, fun h => ?_⟩
  · refine exec_refused (c := .setOutput r) rfl ha (hdecide.trans ?_)
    rw [setOutputValue, if_neg (by omega), if_pos (by omega)]
  · refine exec_refused (c := .setOutput r) rfl ha (hdecide.trans ?_)
    rw [setOutputValue, if_neg (by omega), if_neg (by omega), if_pos ⟨hpump.mpr hp, hv, hs⟩]
  · dsimp only
    obtain ⟨v, hv⟩ : ∃ v : Option Nat, v = if reqByte r 7 = 1 then some (min (reqWord r 8) (outputLimit s.tbs (O n))) else none := ⟨_, rfl⟩
    rw [← hv]
    have hvalue : setOutputValue (O n) r s =
        { status := if reqByte r 7 = 1 ∧ outputLimit s.tbs (O n) < reqWord r 8 then .clamped else .ok, state := setManual (O n) v s,
          tasks := [.formDelivered (O n)], data := lineData } := by
      obtain h | ⟨h, hno⟩ := h
      · rw [setOutputValue, if_pos h, if_neg (by omega), hv, if_neg (by omega)]
      · rw [setOutputValue, if_neg (by omega), if_neg (by omega), if_neg (by rw [hpump]; exact hno), hv, if_pos h]
        by_cases hlim : outputLimit s.tbs (O n) < reqWord r 8
        · rw [if_neg (by omega), if_pos ⟨h, hlim⟩]
        · rw [if_pos (by omega), if_neg fun k => hlim k.2]
    obtain ⟨t, ht, hund, hkeep, hor, hsame, hsmall⟩ :=
      run_setManual (O n) (outIx_ne h1 h23 (by decide) (by decide) h21) v s
    rw [deliveredValue_setManual] at hsame hsmall
    refine ⟨t, (exec_accepted (c := .setOutput r) rfl ha).trans ?_, hund, fun h17 h18 => ?_, hor, hsame, fun h16 => ?_⟩
    · rw [hdecide, hvalue, answer, ht]
      rfl
    · exact hkeep (outIx_ne h1 h23 (by decide) (by decide) h17) (outIx_ne h1 h23 (by decide) (by decide) h18)
    · exact hsmall (by rw [outIx_small h1 h23]; omega)

end Sys2Proof.Machine
end

section
/-! ACK_ALARM (R175, R176, R157). -/

namespace Sys2Proof.Machine

/-! ## The decision -/

theorem alarmIx_ofNat (a : AlarmIx) : A a.val = a := Fin.ofNat_val_eq_self a

section
variable {r : ReqCell} {s : State} {a : AlarmIx} (hi : reqByte r 6 = a.val)
include hi

theorem decideAckAlarm_refused (h : (s.acu.alarms[a]).state = .pending ∨ (s.acu.alarms[a]).state = .active) :
    decideAckAlarm r s = refuse .stillActive s := by
  simp only [decideAckAlarm, hi, if_neg (Nat.not_le.mpr a.isLt), alarmIx_ofNat]
  obtain h | h := h <;> rw [h]

theorem decideAckAlarm_clear (h : (s.acu.alarms[a]).state = .clear) :
    decideAckAlarm r s = { status := .ok, state := s, tasks := ackTasks a, data := ackData a } := by
  simp only [decideAckAlarm, hi, if_neg (Nat.not_le.mpr a.isLt), alarmIx_ofNat]
  rw [h]

theorem decideAckAlarm_latched (h : (s.acu.alarms[a]).state = .latched) :
    decideAckAlarm r s = { status := .ok, state := setAlarm s a { s.acu.alarms[a] with state := .clear, count := 0 },
                           tasks := clearTasks (s.tbs.alarms[a]).links a ++ ackTasks a, data := ackData a } := by
  simp only [decideAckAlarm, hi, if_neg (Nat.not_le.mpr a.isLt), alarmIx_ofNat]
  rw [h]
  simp only [acknowledged, h, if_true]

end

theorem ackData_of {t : State} {a : AlarmIx} (h : (t.acu.alarms[a]).state = .clear) :
    ackData a t = replyData [(6, a.val), (7, 0)] := by
  rw [ackData, h]
  rfl

theorem setAlarm_record (s : State) (a : AlarmIx) (r : AlarmRecord) : (setAlarm s a r).acu.alarms[a] = r := vset_same ..

theorem setAlarm_undisturbed (s : State) (a : AlarmIx) (r : AlarmRecord) : Undisturbed s (setAlarm s a r) :=
  ⟨rfl, rfl, rfl, rfl, rfl, rfl, rfl, rfl, rfl, rfl, rfl, rfl, rfl, rfl⟩

theorem GateOnly.acu {s t : State} (h : GateOnly s t) : t.acu = s.acu := by
  obtain ⟨v, r, q, d, rfl⟩ := gateOnly_iff.mp h
  rfl

theorem GateOnly.pot {s t : State} (h : GateOnly s t) : t.pot = s.pot := by
  obtain ⟨v, r, q, d, rfl⟩ := gateOnly_iff.mp h
  rfl

theorem GateOnly.undisturbed {s t : State} (h : GateOnly s t) : Undisturbed s t := by
  obtain ⟨v, r, q, d, rfl⟩ := gateOnly_iff.mp h
  exact ⟨rfl, rfl, rfl, rfl, rfl, rfl, rfl, rfl, rfl, rfl, rfl, rfl, rfl, rfl⟩

/-! ## An alarm that POT does not watch -/

/-- The clearing of an alarm that POT does not watch is followed by admission alone, and that only where the alarm is linked to it. -/
theorem takes_clear (links : BitVec 8) {a : AlarmIx} (h : isPotAlarm a = false) (s : State) :
    ∃ k t, k ≤ 2 ∧ Takes k (clearTasks links a) s t ∧ GateOnly s t := by
  have htold : potTold a false = [] := by
    rw [potTold, h]
    rfl
  by_cases hl : admissionLink links = true
  · obtain ⟨k, t, hk, ht, hgate, -⟩ := takes_admission s
    exact ⟨k, t, hk, by rw [clearTasks, htold, if_pos hl]; exact ht, hgate⟩
  · exact ⟨0, s, by decide, by rw [clearTasks, htold, if_neg hl]; exact .nil s, .refl s⟩

/-- The feeder's release is short: what it leaves may be the next feed (R157, R153). -/
theorem takes_feederRelease (s : State) : ∃ k t, k ≤ 2 ∧ Takes k [.feederRelease] s t ∧ Undisturbed s t ∧ t.acu = s.acu
    ∧ (s.mru.line ≠ .unconfigured → s.pot.feeder.state = .faulted →
        t.pot.feeder.ineffective = 0 ∧ (t.pot.feeder.state = .idle ∨ t.pot.feeder.state = .feeding)) := by
  have hquiet : ∀ k t, Takes k [.feederRelease] s t → k ≤ 2 → Undisturbed s t ∧ t.acu = s.acu := by
    intro k t ht hk
    rw [← ht.run (by omega)]
    refine ⟨run_undisturbed s _ rfl, ?_⟩
    exact settle_spares .acu (by decide) [.feederRelease, .feedEvaluate] (by decide) (by decide) _ _ s rfl
  by_cases h : s.mru.line ≠ .unconfigured ∧ s.pot.feeder.state = .faulted
  · have hidle : ¬potIdle s = true := by
      rw [potIdle, beq_iff_eq]
      exact h.1
    obtain ⟨u, hu⟩ : ∃ u, u = setFeeder s { s.pot.feeder with state := .idle, ineffective := 0 } := ⟨_, rfl⟩
    have hhandle : handle .feederRelease s = (u, [.feedEvaluate]) := by
      simp only [handle, feederRelease, potActs, if_neg hidle, if_pos h.2, hu]
    have htakes : Takes 2 [.feederRelease] s (feedEvaluate u).1 := .of_handle hhandle (.one rfl)
    obtain ⟨hund, hacu⟩ := hquiet 2 _ htakes (by decide)
    refine ⟨2, _, by decide, htakes, hund, hacu, fun _ _ => ?_⟩
    have hineffective : u.pot.feeder.ineffective = 0 := by rw [hu]; rfl
    have hstate : u.pot.feeder.state = .idle := by rw [hu]; rfl
    unfold feedEvaluate
    split
    · rw [startFeed_feeder]
      exact ⟨hineffective, .inr rfl⟩
    · exact ⟨hineffective, .inl hstate⟩
  · have hhandle : handle .feederRelease s = (s, []) := by
      simp only [handle, feederRelease, potActs, potIdle, beq_iff_eq]
      split
      · rfl
      · next hline => rw [if_neg fun hf => h ⟨hline, hf⟩]
    have htakes : Takes 1 [.feederRelease] s s := .one hhandle
    exact ⟨1, s, by decide, htakes, .refl s, rfl, fun hline hf => absurd ⟨hline, hf⟩ h⟩

/-! ## An alarm that POT watches -/

/-- The kinds of hand-over that give a condition of a pot alarm other than A25, or that set an alarm at RESTART. -/
def potGivers : List TaskKind := [.tleConditions, .tleRestart, .levelConditions, .restartAlarms]

theorem Routine.no_giver {t : Task} (s : State) (h : Routine t) : ∀ u ∈ (handle t s).2, u.kind ∉ potGivers := by
  refine handle_emits_none (src := [.loopArrival, .loopSilent, .levelArrival, .levelSilent, .potLeavesUnconfigured]) (by decide) s
    fun hin => ?_
  obtain ⟨hquiet, hkind, -⟩ := h
  simp only [List.mem_cons, List.not_mem_nil, or_false] at hin hkind
  obtain hin | hin | hin | hin | hin := hin
  · rw [hin] at hquiet
    revert hquiet
    decide
  · rw [hin] at hquiet
    revert hquiet
    decide
  · rw [hin] at hquiet
    revert hquiet
    decide
  · rw [hin] at hquiet
    revert hquiet
    decide
  · exact hkind (.inl hin)

theorem potAlarm_level : ∀ a : AlarmIx, isPotAlarm a = true → alarmKind a = .level := by decide

theorem givenAlarms_pot : ((without potGivers).all fun k => (givenAlarms k).all fun b => !isPotAlarm b || b == A 25) = true := by decide

theorem givers_of_potAlarm {a : AlarmIx} (hp : isPotAlarm a = true) (h25 : a ≠ A 25) {k : TaskKind} (h : a ∈ givenAlarms k) : k ∈ potGivers := by
  by_contra hk
  have hall := List.all_eq_true.mp (List.all_eq_true.mp givenAlarms_pot k (mem_without.mpr hk)) a h
  rw [hp] at hall
  exact h25 (by simpa using hall)

/-- A routine event that does not give a pot alarm its condition leaves its record, but for A25. -/
theorem settle_potAlarm_stays {a : AlarmIx} (hp : isPotAlarm a = true) (h25 : a ≠ A 25) (n : Nat) {ts : List Task} (s : State)
    (hts : ∀ t ∈ ts, Routine t ∧ t.kind ∉ potGivers ∧ ∀ v e, t ≠ .condition a v e) :
    (settle n ts s).acu.alarms[a] = s.acu.alarms[a] := by
  refine settle_keeps (P := fun u => u.acu.alarms[a] = s.acu.alarms[a])
    (Q := fun t => Routine t ∧ t.kind ∉ potGivers ∧ ∀ v e, t ≠ .condition a v e) (fun t u ht hu => ?_) (fun t u ht _ x hx => ?_)
    (fun _ hu => hu) n ts s hts rfl
  · exact (handle_alarm_stays u (potAlarm_level a hp) (fun h => ht.2.1 (by rw [h]; decide)) ht.2.2).trans hu
  · refine ⟨ht.1.emits u x hx, ht.1.no_giver u x hx, ?_⟩
    rintro v e rfl
    exact ht.2.1 (givers_of_potAlarm hp h25 (handle_gives hx))

theorem nextPotState_not_fault {s : State} {why : PotEvent} {next : PotState} (h : nextPotState s why = some next) : next ≠ .fault := by
  unfold nextPotState at h
  rintro rfl
  split at h <;> (repeat' split at h) <;> cases h

/-- The pot is out of FAULT, or about to be told that none of its alarms is set. -/
structure FaultLeft (ts : List Task) (s : State) : Prop where
  line : s.mru.line ≠ .unconfigured
  leaves : s.pot.state ≠ .fault ∨ Task.potAlarm false ∈ ts

theorem handle_configuredLine (t : Task) {s : State} (h : s.mru.line ≠ .unconfigured) : (handle t s).1.mru.line ≠ .unconfigured := by
  obtain hl | hl := handle_line t s <;> rw [hl]
  · exact h
  · decide

theorem handle_not_fault {t : Task} {ts : List Task} {s : State} (hc : Calm (t :: ts) s) (hs : s.pot.state ≠ .fault) :
    (handle t s).1.pot.state ≠ .fault := by
  by_cases hk : t.kind ∈ [.potEvaluate, .potAlarm]
  · cases t
    case potEvaluate why =>
      obtain ⟨hsame, -⟩ | ⟨next, hnext, hnew, -⟩ := potEvaluate_cases why s
      · rwa [show (handle (.potEvaluate why) s).1 = s from hsame]
      · rw [show (handle (.potEvaluate why) s).1.pot.state = next from hnew]
        exact nextPotState_not_fault hnext
    case potAlarm set =>
      obtain hp | ⟨hor, -, -⟩ | ⟨-, hf, -⟩ := potAlarm_cases set s
      · rwa [show (handle (.potAlarm set) s).1 = s from hp]
      · rw [hc.1, or_iff_left Bool.false_ne_true] at hor
        exact absurd (by rw [hor]; exact List.mem_cons_self ..) hc.2
      · exact absurd hf hs
    all_goals simp [Task.kind] at hk
  · rwa [handle_potState s hk]

theorem FaultLeft.next {t : Task} {ts : List Task} {s : State} (hc : Calm (t :: ts) s) (h : FaultLeft (t :: ts) s) :
    FaultLeft ((handle t s).2 ++ ts) (handle t s).1 := by
  obtain ⟨hline, hleaves⟩ := h
  refine ⟨handle_configuredLine t hline, ?_⟩
  by_cases hs : s.pot.state = .fault
  · obtain rfl | hin := List.mem_cons.mp (hleaves.resolve_left (not_not_intro hs))
    · refine .inl ?_
      have hidle : ¬potIdle s = true := by
        rw [potIdle, beq_iff_eq]
        exact hline
      have hstep : (potAlarm false s).1.pot.state = .cold := by
        rw [potAlarm, potActs, if_neg hidle, if_pos hs, if_neg (by rw [hc.1]; exact Bool.false_ne_true)]
      rw [show (handle (.potAlarm false) s).1.pot.state = .cold from hstep]
      decide
    · exact .inr (List.mem_append_right _ hin)
  · exact .inl (handle_not_fault hc hs)

theorem clearTasks_potTold {a : AlarmIx} (h : isPotAlarm a = true) (links : BitVec 8) :
    clearTasks links a = (if admissionLink links then [.admission] else []) ++ [.potAlarm false] := by
  rw [clearTasks, potTold, if_pos h]

/-- The hand-overs of an acknowledged pot alarm. -/
theorem clearTasks_mem {a : AlarmIx} (h : isPotAlarm a = true) {links : BitVec 8} {t : Task} (ht : t ∈ clearTasks links a) :
    t = .admission ∨ t = .potAlarm false := by
  rw [clearTasks_potTold h] at ht
  split at ht
  · simpa using ht
  · exact .inr (by simpa using ht)

theorem clearTasks_routine {a : AlarmIx} (h : isPotAlarm a = true) {links : BitVec 8} :
    ∀ t ∈ clearTasks links a, Routine t ∧ t.kind ∉ potGivers ∧ ∀ v e, t ≠ .condition a v e := by
  intro t ht
  obtain rfl | rfl := clearTasks_mem h ht
  · exact ⟨⟨by simp only [Task.kind]; decide, by simp [Task.kind], by simp⟩, by simp only [Task.kind]; decide, by simp⟩
  · exact ⟨⟨by simp only [Task.kind]; decide, by simp [Task.kind], by simp⟩, by simp only [Task.kind]; decide, by simp⟩

/-- A pot that only the acknowledged alarm held in FAULT leaves it, unless a pot alarm is raised at the event (R140). -/
theorem run_leaves_fault {s : State} {a : AlarmIx} {links : BitVec 8} (hp : isPotAlarm a = true) (hline : s.mru.line ≠ .unconfigured)
    (hcalm : anyPotAlarmSet s = false) :
    (run s (clearTasks links a)).overrun = true ∨ (run s (clearTasks links a)).pot.state ≠ .fault
      ∨ potAlarmRaised (run s (clearTasks links a)) := by
  rw [← or_assoc]
  refine settle_calm (J := FaultLeft) (P := fun u => u.overrun = true ∨ u.pot.state ≠ .fault) (fun t ts u hc _ hJ => hJ.next hc)
    (fun u h => .inr (h.leaves.resolve_right List.not_mem_nil)) (fun _ u _ => .inl rfl) _ _ s (fun t ht => ?_)
    ⟨hcalm, clearTasks_potAlarm⟩ ⟨hline, .inr ?_⟩
  · obtain rfl | rfl := clearTasks_mem hp ht <;> simp [Task.kind, cycleKinds]
  · rw [clearTasks_potTold hp]
    exact List.mem_append_right _ (List.mem_singleton_self _)

/-- Settles O53: a short event for the alarms that POT does not watch, and what a routine event keeps of the others. -/
theorem alarmAcknowledged : Obligations.AlarmAcknowledged := by
  intro r s a ha hi
  have hdecide : decideByCode (19 : Word16).toNat r s = decideAckAlarm r s := rfl
  obtain ⟨u, hu⟩ : ∃ u, u = setAlarm s a { s.acu.alarms[a] with state := .clear, count := 0 } := ⟨_, rfl⟩
  have hrecord : u.acu.alarms[a] = { s.acu.alarms[a] with state := .clear, count := 0 } := by rw [hu]; exact setAlarm_record ..
  have hund : Undisturbed s u := by rw [hu]; exact setAlarm_undisturbed ..
  have hlatched : (s.acu.alarms[a]).state = .latched → exec (.ackAlarm r) s = .next (answer r
      { status := .ok, state := u, tasks := clearTasks (s.tbs.alarms[a]).links a ++ ackTasks a, data := ackData a }) := by
    intro h
    rw [exec_accepted (c := .ackAlarm r) rfl ha, hdecide, decideAckAlarm_latched hi h, hu]
  rw [← hu]
  refine ⟨fun h => exec_refused (c := .ackAlarm r) rfl ha (hdecide.trans (decideAckAlarm_refused hi h)), fun h h24 => ?_,
    fun h h24 hp => ?_, fun h hp => ?_, fun h h24 => ?_⟩
  · rw [exec_accepted (c := .ackAlarm r) rfl ha, hdecide, decideAckAlarm_clear hi h, answer, ackTasks, if_neg h24, run_nil]
    dsimp only
    rw [ackData_of h]
  · obtain ⟨k, t, hk, ht, hgate⟩ := takes_clear (s.tbs.alarms[a]).links hp u
    refine ⟨t, (hlatched h).trans ?_, hgate⟩
    have hclear : (t.acu.alarms[a]).state = .clear := by rw [hgate.acu, hrecord]
    rw [answer, ackTasks, if_neg h24, List.append_nil, ht.run (by omega)]
    dsimp only
    rw [ackData_of hclear]
  · have h24 : a ≠ A 24 := by
      rintro rfl
      exact absurd hp (by decide)
    have hnone : ackTasks a = [] := if_neg h24
    have hroutine := clearTasks_routine (links := (s.tbs.alarms[a]).links) hp
    have hmoved : AlarmsMoved u (run u (clearTasks (s.tbs.alarms[a]).links a)) := run_moved u fun t ht => by
      obtain rfl | rfl := clearTasks_mem hp ht <;> simp [Task.kind, cycleKinds]
    have hstays : a ≠ A 25 → (run u (clearTasks (s.tbs.alarms[a]).links a)).acu.alarms[a] = u.acu.alarms[a] := fun h25 =>
      settle_potAlarm_stays hp h25 _ u hroutine
    have hleaves := run_leaves_fault (s := u) (links := (s.tbs.alarms[a]).links) hp
    have hrun : Undisturbed u (run u (clearTasks (s.tbs.alarms[a]).links a)) :=
      run_undisturbed u _ (clearTasks_quiet ..)
    generalize htw : run u (clearTasks (s.tbs.alarms[a]).links a) = t at hmoved hstays hleaves hrun
    refine ⟨t, (hlatched h).trans ?_, hund.trans hrun, fun h25 => (hstays h25).trans hrecord, ?_, fun hline hs hothers => ?_⟩
    · rw [hnone, List.append_nil, answer, htw]
      rfl
    · by_cases hset : alarmSet t a = true
      · obtain hold | hraised := hmoved.set a hset
        · rw [alarmSet, hrecord] at hold
          cases hold
        · refine .inr (.inr (hraised.trans ?_))
          rw [hmoved.cycle, hu]
          rfl
      · rw [alarmSet] at hset
        cases hstate : (t.acu.alarms[a]).state <;> simp_all
    · refine hleaves (by rw [hu]; exact hline) ((anyPotAlarmSet_false u).mpr fun b hb => ?_)
      by_cases hab : a = b
      · subst hab
        rw [alarmSet, hrecord]
        rfl
      · rw [hu, alarmSet_setAlarm_other s _ hab]
        exact hothers b (Ne.symm hab) hb
  · subst h24
    have hone : ackTasks (A 24) = [.feederRelease] := rfl
    obtain h | h := h
    · obtain ⟨k, v, hk, hv, hgate⟩ := takes_clear (s.tbs.alarms[A 24]).links (a := A 24) (by decide) u
      obtain ⟨m, t, hm, ht, hrun, hacu, hfeeder⟩ := takes_feederRelease v
      have hclear : (t.acu.alarms[A 24]).state = .clear := by rw [hacu, hgate.acu, hrecord]
      refine ⟨t, (hlatched h).trans ?_, (hund.trans hgate.undisturbed).trans hrun, hclear, fun hline hs => hfeeder ?_ ?_⟩
      · rw [answer, hone, (hv.append ht).run (by omega)]
        dsimp only
        rw [ackData_of hclear]
        rfl
      · rw [hgate.mru, hu]
        exact hline
      · rw [hgate.pot, hu]
        exact hs
    · obtain ⟨m, t, hm, ht, hrun, hacu, hfeeder⟩ := takes_feederRelease s
      have hclear : (t.acu.alarms[A 24]).state = .clear := by rw [hacu, h]
      refine ⟨t, (exec_accepted (c := .ackAlarm r) rfl ha).trans ?_, hrun, hclear, hfeeder⟩
      rw [hdecide, decideAckAlarm_clear hi h, answer, hone, ht.run (by omega)]
      dsimp only
      rw [ackData_of hclear]
      rfl

end Sys2Proof.Machine
end

section
/-! An episode within an event (R185 to R192): HLD, MRU and the train while the phase is STOPPING or HELD, and SET_DISPOSITION. -/

namespace Sys2Proof.Machine

/-! ## HLD during an episode -/

/-- What a board line keeps of its capture (R186, R189). -/
def lineFrame (l : BoardLine) : BoardNo × Int × FluxStatus × WaveStatus × Bool × Bool :=
  (l.board, l.leadOffset, l.flux, l.wave, l.nozzleOpen, l.forcedRework)

/-- What joining causes and changes of disposition keep of a hold record (R187, R188). -/
structure RecordFrame (x y : HoldRecord) : Prop where
  episode : y.episode = x.episode
  primary : y.primary = x.primary
  entry : y.entryPosition = x.entryPosition
  stop : y.stopPosition = x.stopPosition
  locked : x.lock = .locked → y.lock = .locked
  lines : y.lines.map lineFrame = x.lines.map lineFrame

theorem RecordFrame.refl (x : HoldRecord) : RecordFrame x x := ⟨rfl, rfl, rfl, rfl, id, rfl⟩

theorem RecordFrame.trans {x y z : HoldRecord} (h : RecordFrame x y) (k : RecordFrame y z) : RecordFrame x z :=
  ⟨k.episode.trans h.episode, k.primary.trans h.primary, k.entry.trans h.entry, k.stop.trans h.stop, k.locked ∘ h.locked,
    k.lines.trans h.lines⟩

theorem joinRecord_frame (c : Cause) (x : HoldRecord) : RecordFrame x (joinRecord c x) := by
  unfold joinRecord
  split <;> exact ⟨rfl, rfl, rfl, rfl, fun _ => rfl, rfl⟩

/-- The episode in progress goes on: HLD keeps all but what joins the record. -/
structure EpisodeKept (h k : Hld) : Prop where
  phase : k.phase = h.phase
  episode : k.episode = h.episode
  still : k.stillCount = h.stillCount
  stop : k.stopTimer = h.stopTimer
  resume : k.resumeTimer = h.resumeTimer
  fault : k.faultCondition = h.faultCondition
  record : ∀ x, h.record = some x → ∃ y, k.record = some y ∧ RecordFrame x y

theorem EpisodeKept.refl (h : Hld) : EpisodeKept h h := ⟨rfl, rfl, rfl, rfl, rfl, rfl, fun x hx => ⟨x, hx, .refl x⟩⟩

theorem EpisodeKept.trans {h k l : Hld} (hk : EpisodeKept h k) (kl : EpisodeKept k l) : EpisodeKept h l where
  phase := kl.phase.trans hk.phase
  episode := kl.episode.trans hk.episode
  still := kl.still.trans hk.still
  stop := kl.stop.trans hk.stop
  resume := kl.resume.trans hk.resume
  fault := kl.fault.trans hk.fault
  record := fun x hx => by
    obtain ⟨y, hy, hxy⟩ := hk.record x hx
    obtain ⟨z, hz, hyz⟩ := kl.record y hy
    exact ⟨z, hz, hxy.trans hyz⟩

theorem EpisodeKept.map {h : Hld} {f : HoldRecord → HoldRecord} (hf : ∀ x, RecordFrame x (f x)) :
    EpisodeKept h { h with record := h.record.map f } :=
  ⟨rfl, rfl, rfl, rfl, rfl, rfl, fun x hx => ⟨f x, by rw [hx]; rfl, hf x⟩⟩

theorem holdLine_episode (n : BoardNo) (s : State) : EpisodeKept s.hld (holdLine n s).1.hld := by
  unfold holdLine
  split
  · exact .refl _
  · refine .map fun x => ⟨rfl, rfl, rfl, rfl, id, ?_⟩
    dsimp only
    rw [List.map_map]
    refine List.map_congr_left fun l _ => ?_
    simp only [Function.comp]
    split <;> rfl

theorem holdCause_during (c : Cause) {s : State} (h : s.hld.phase = .stopping ∨ s.hld.phase = .held) :
    holdCause c s = (s, []) ∨ holdCause c s = ({ s with hld := { s.hld with record := s.hld.record.map (joinRecord c) } }, []) := by
  by_cases hl : s.mru.line = .run ∨ s.mru.line = .draining
  · exact .inr (holdCause_joins c hl h)
  · refine .inl ?_
    rw [holdCause, if_neg (by rwa [lineTakesHolds_iff])]

/-- No quiet hand-over ends an episode in progress or begins another. -/
theorem handle_episode {t : Task} {s : State} (hq : quiet t = true) (h : s.hld.phase = .stopping ∨ s.hld.phase = .held) :
    EpisodeKept s.hld (handle t s).1.hld := by
  by_cases ht : Block.hld ∈ touched t
  · cases t
    case holdCause c =>
      obtain hc | hc := holdCause_during c h
      · rw [show handle (.holdCause c) s = _ from hc]
        exact .refl _
      · rw [show handle (.holdCause c) s = _ from hc]
        exact .map (joinRecord_frame c)
    case holdLine n => exact holdLine_episode n s
    case loopDown | encoderSilent | hldEncoder | reachHeld | heldBoards => cases hq
    all_goals simp [touched] at ht
  · rw [show (handle t s).1.hld = s.hld from (handle_touches t s).same .hld ht]
    exact .refl _

theorem settle_episode (n : Nat) {ts : List Task} (s : State) (hq : ts.all quiet = true)
    (h : s.hld.phase = .stopping ∨ s.hld.phase = .held) : EpisodeKept s.hld (settle n ts s).hld :=
  settle_kinds (P := fun u => EpisodeKept s.hld u.hld) quietKinds (by decide)
    (fun _ u ht hu => hu.trans (handle_episode (quiet_of_kind ht) (by rw [hu.phase]; exact h))) (fun _ hu => hu) n ts s (among_quiet hq)
    (.refl _)

/-! ## MRU during a hold -/

/-- The line stays in RUN or DRAINING while a hold is in progress. -/
theorem handle_holdLine {t : Task} {s : State} (hq : quiet t = true) (hl : s.mru.line = .run ∨ s.mru.line = .draining)
    (hp : s.hld.phase ≠ .none) : (handle t s).1.mru.line = s.mru.line := by
  obtain hl | hl := hl
  · exact handle_line_stays t (by rw [hl]; decide) (by rw [hl]; decide)
  · rw [(Drains.next (s := s) hq ⟨hl, .inr hp⟩).1, hl]

theorem settle_holdLine (n : Nat) {ts : List Task} (s : State) (hq : ts.all quiet = true)
    (hl : s.mru.line = .run ∨ s.mru.line = .draining) (hp : s.hld.phase ≠ .none) :
    (settle n ts s).mru = s.mru := by
  have h : (settle n ts s).mru.line = s.mru.line ∧ (settle n ts s).hld.phase ≠ .none :=
    settle_kinds (P := fun u => u.mru.line = s.mru.line ∧ u.hld.phase ≠ .none) quietKinds (by decide)
      (fun t u ht hu => ⟨(handle_holdLine (quiet_of_kind ht) (by rw [hu.1]; exact hl) hu.2).trans hu.1,
        handle_quiet_phase t u (quiet_of_kind ht) hu.2⟩) (fun _ hu => hu) n ts s (among_quiet hq) ⟨rfl, hp⟩
  exact (settle_undisturbed n s hq).mru_line h.1

/-! ## The train during an episode -/

/-- A record after the writes of a quiet event during an episode: its defects only grow, and its disposition becomes REWORK only with
one. -/
structure Marked (b c : Board) : Prop where
  number : c.number = b.number
  wave : c.wave = b.wave
  holds : c.holds = b.holds
  defects : ∀ x, b.defects &&& x = x → c.defects &&& x = x
  rework : b.disposition = .rework → c.disposition = .rework
  marked : c.disposition = b.disposition ∨ c.defects ≠ 0

theorem Marked.refl (b : Board) : Marked b b := ⟨rfl, rfl, rfl, fun _ h => h, id, .inl rfl⟩

theorem defects_ne_zero {x y : Byte} (h : ∀ z, x &&& z = z → y &&& z = z) (hx : x ≠ 0) : y ≠ 0 := by
  rintro rfl
  have h0 := h x (BitVec.and_self)
  rw [show (0 : Byte) &&& x = 0 from BitVec.zero_and] at h0
  exact hx h0.symm

theorem Marked.trans {a b c : Board} (h : Marked a b) (k : Marked b c) : Marked a c where
  number := k.number.trans h.number
  wave := k.wave.trans h.wave
  holds := k.holds.trans h.holds
  defects := fun x hx => k.defects x (h.defects x hx)
  rework := k.rework ∘ h.rework
  marked := by
    obtain hk | hk := k.marked
    · obtain hh | hh := h.marked
      · exact .inl (hk.trans hh)
      · exact .inr (defects_ne_zero k.defects hh)
    · exact .inr hk

theorem marked_refl (l : List Board) : List.Forall₂ Marked l l := List.forall₂_same.mpr fun b _ => .refl b

theorem marked_trans : ∀ {a b c : List Board}, List.Forall₂ Marked a b → List.Forall₂ Marked b c → List.Forall₂ Marked a c
  | _, _, _, .nil, .nil => .nil
  | _, _, _, .cons h hs, .cons k ks => .cons (h.trans k) (marked_trans hs ks)

theorem marked_write {f : Board → Board} (s : State) (n : BoardNo) (h : ∀ b, Marked b (f b)) :
    List.Forall₂ Marked s.btk.train (mapBoard s n f).btk.train := by
  refine List.forall₂_map_right_iff.mpr (List.forall₂_same.mpr fun b _ => ?_)
  split
  · exact h b
  · exact .refl b

theorem defectBit_ne_zero (d : Defect) (x : Byte) : x ||| defectBit d ≠ 0 := fun h =>
  absurd (BitVec.or_eq_zero_iff.mp h).2 (by cases d <;> decide)

theorem covers_or {a x : Byte} (d : Byte) (h : a &&& x = x) : (a ||| d) &&& x = x := by
  ext i hi
  have hbit := congrArg (fun y : Byte => y[i]) h
  simp only [BitVec.getElem_and, BitVec.getElem_or] at hbit ⊢
  revert hbit
  cases a[i] <;> cases x[i] <;> cases d[i] <;> decide

theorem Marked.of_defect (b : Board) (d : Defect) : Marked b { b with defects := b.defects ||| defectBit d, disposition := .rework } :=
  ⟨rfl, rfl, rfl, fun _ h => covers_or _ h, fun _ => rfl, .inr (defectBit_ne_zero d _)⟩

theorem Marked.of_flux (b : Board) (x : FluxStatus) : Marked b { b with flux := x } := ⟨rfl, rfl, rfl, fun _ h => h, id, .inl rfl⟩

theorem writeDefect_marked (n : BoardNo) (d : Defect) (s : State) : List.Forall₂ Marked s.btk.train (writeDefect n d s).1.btk.train := by
  unfold writeDefect
  split
  · exact marked_refl _
  · exact marked_write s n fun b => .of_defect b d

theorem flxRework_marked (n : BoardNo) (s : State) : List.Forall₂ Marked s.btk.train (flxRework n s).1.btk.train := by
  unfold flxRework
  dsimp only
  split
  · exact marked_write _ n fun b => .of_flux b _
  · exact marked_write _ n fun b => .of_flux b _
  all_goals exact marked_refl _

/-- During an episode a quiet hand-over other than a SET_DISPOSITION marks records, and no more. -/
theorem handle_marked {t : Task} {s : State} (hq : quiet t = true) (hd : t.kind ≠ .disposition)
    (h : s.hld.phase = .stopping ∨ s.hld.phase = .held) : List.Forall₂ Marked s.btk.train (handle t s).1.btk.train := by
  by_cases ht : Block.btk ∈ touched t
  · cases t
    case admission => exact marked_refl _
    case noMotion =>
      simp only [handle, noMotion]
      (repeat' split) <;> exact marked_refl _
    case defect n d => exact writeDefect_marked n d s
    case disposition => exact absurd rfl hd
    case flxRework n => exact flxRework_marked n s
    case holdCause c =>
      obtain hc | hc := holdCause_during c h <;>
      · rw [show handle (.holdCause c) s = _ from hc]
        exact marked_refl _
    all_goals first | exact absurd hq Bool.false_ne_true | simp [touched] at ht
  · rw [show (handle t s).1.btk = s.btk from (handle_touches t s).same .btk ht]
    exact marked_refl _

theorem settle_marked (n : Nat) {ts : List Task} (s : State) (hq : ts.all quiet = true) (hd : ∀ t ∈ ts, t.kind ≠ .disposition)
    (h : s.hld.phase = .stopping ∨ s.hld.phase = .held) : List.Forall₂ Marked s.btk.train (settle n ts s).btk.train := by
  refine (settle_keeps (P := fun u => List.Forall₂ Marked s.btk.train u.btk.train ∧ EpisodeKept s.hld u.hld)
    (Q := fun t => quiet t = true ∧ t.kind ≠ .disposition) (fun t u ht hu => ?_) (fun t u ht _ x hx => ?_) (fun _ hu => hu) n ts s
    (fun t ht => ⟨List.all_eq_true.mp hq t ht, hd t ht⟩) ⟨marked_refl _, .refl _⟩).1
  · have hphase : u.hld.phase = .stopping ∨ u.hld.phase = .held := by rw [hu.2.phase]; exact h
    exact ⟨marked_trans hu.1 (handle_marked ht.1 ht.2 hphase), hu.2.trans (handle_episode ht.1 hphase)⟩
  · exact ⟨List.all_eq_true.mp (handle_quiet t u ht.1) x hx, handle_no_disposition t u x hx⟩

theorem findBoard_marked : ∀ {l m : List Board} {n : BoardNo} {b : Board}, List.Forall₂ Marked l m → findBoard l n = some b →
    ∃ c, findBoard m n = some c ∧ Marked b c
  | _, _, n, b, .cons (a := x) (b := y) (l₁ := xs) (l₂ := ys) h hs, hb => by
    by_cases hx : x.number = n
    · have hxb : x = b := by
        rw [findBoard, List.find?_cons_of_pos (by simpa using hx)] at hb
        exact Option.some.inj hb
      refine ⟨y, ?_, hxb ▸ h⟩
      rw [findBoard, List.find?_cons_of_pos (by simpa using h.number.trans hx)]
    · rw [findBoard, List.find?_cons_of_neg (by simpa using hx)] at hb
      obtain ⟨c, hc, hm⟩ := findBoard_marked hs hb
      refine ⟨c, ?_, hm⟩
      rw [findBoard, List.find?_cons_of_neg (by simpa using fun k => hx (h.number.symm.trans k))]
      exact hc

/-! ## SET_DISPOSITION (R192) -/

theorem findBoard_map {l : List Board} {n : BoardNo} {b : Board} {f : Board → Board} (hf : ∀ b, (f b).number = b.number)
    (h : findBoard l n = some b) : findBoard (l.map fun b => if b.number = n then f b else b) n = some (f b) := by
  induction l with
  | nil => cases h
  | cons x xs ih =>
    by_cases hx : x.number = n
    · have hxb : x = b := by
        rw [findBoard, List.find?_cons_of_pos (by simpa using hx)] at h
        exact Option.some.inj h
      rw [List.map_cons, if_pos hx, findBoard, List.find?_cons_of_pos (by simpa using (hf x).trans hx), hxb]
    · rw [findBoard, List.find?_cons_of_neg (by simpa using hx)] at h
      rw [List.map_cons, if_neg hx, findBoard, List.find?_cons_of_neg (by simpa using hx)]
      exact ih h

theorem writeDisposition_found {n : BoardNo} {d : Disposition} {s : State} {b : Board} (h : findBoard s.btk.train n = some b) :
    writeDisposition n d s = (mapBoard s n fun r => { r with disposition := d }, if b.disposition = d then [] else [.dispositionTold n]) := by
  rw [writeDisposition, h]

/-- A disposition set during HELD (R78, R192). -/
theorem run_disposition {n : BoardNo} {d : Disposition} {s : State} {b : Board} (hb : findBoard s.btk.train n = some b)
    (hl : s.mru.line = .run ∨ s.mru.line = .draining) (hp : s.hld.phase = .held) :
    ∃ t, run s [.disposition n d] = t ∧ Undisturbed s t ∧ t.mru = s.mru ∧ t.hld.phase = .held ∧ t.hld.episode = s.hld.episode
      ∧ ∃ c, findBoard t.btk.train n = some c ∧ Marked { b with disposition := d } c := by
  have hund := run_undisturbed s [.disposition n d] rfl
  have hmru : (run s [.disposition n d]).mru = s.mru := settle_holdLine _ s rfl hl (by rw [hp]; decide)
  have hepisode : EpisodeKept s.hld (run s [.disposition n d]).hld := settle_episode _ s rfl (.inr hp)
  have hstep : handle (.disposition n d) s = _ := writeDisposition_found hb
  have htold : (if b.disposition = d then [] else [Task.dispositionTold n]).all quiet = true := by split <;> rfl
  have hkind : ∀ t ∈ (if b.disposition = d then [] else [Task.dispositionTold n]), t.kind ≠ .disposition := by
    intro t ht
    split at ht
    · cases ht
    · rw [List.mem_singleton.mp ht]
      exact TaskKind.noConfusion
  have hmarked : List.Forall₂ Marked (mapBoard s n fun r => { r with disposition := d }).btk.train
      (run s [.disposition n d]).btk.train := by
    rw [run_cons, hstep, List.append_nil]
    exact settle_marked _ _ htold hkind (.inr hp)
  have hfound : findBoard (mapBoard s n fun r => { r with disposition := d }).btk.train n = some { b with disposition := d } :=
    findBoard_map (f := fun r => { r with disposition := d }) (fun _ => rfl) hb
  exact ⟨_, rfl, hund, hmru, hepisode.phase.trans hp, hepisode.episode, findBoard_marked hmarked hfound⟩

section
variable {r : ReqCell} {s : State} (hl : s.mru.line = .run ∨ s.mru.line = .draining)
include hl

theorem decideSetDisposition_unheld (h : s.hld.phase ≠ .held) : decideSetDisposition r s = refuse .state s := by
  rw [decideSetDisposition, inHoldLines_of _ hl, if_pos h]

theorem decideSetDisposition_unknown (h : s.hld.phase = .held)
    (hn : lineOf s (BitVec.ofNat 16 (reqWord r 6)) = none ∨ findBoard s.btk.train (BitVec.ofNat 16 (reqWord r 6)) = none) :
    decideSetDisposition r s = refuse .badIndex s := by
  rw [decideSetDisposition, inHoldLines_of _ hl, if_neg (not_not_intro h)]
  obtain hn | hn := hn
  · rw [hn]
  · rw [hn]
    split
    · next heq => cases heq
    · rfl

theorem decideSetDisposition_known (h : s.hld.phase = .held) {l : BoardLine} {b : Board}
    (hline : lineOf s (BitVec.ofNat 16 (reqWord r 6)) = some l)
    (hb : findBoard s.btk.train (BitVec.ofNat 16 (reqWord r 6)) = some b) :
    decideSetDisposition r s = setDispositionOf (BitVec.ofNat 16 (reqWord r 6)) (reqByte r 8) l b s := by
  rw [decideSetDisposition, inHoldLines_of _ hl, if_neg (not_not_intro h), hline, hb]

end

/-- Settles O51: the disposition is written first, and what follows from it only marks records. -/
theorem dispositionSetWhileHeld : Obligations.DispositionSetWhileHeld := by
  intro r s ha hl
  dsimp only
  have hdecide : decideByCode (11 : Word16).toNat r s = decideSetDisposition r s := rfl
  refine ⟨fun h => ?_, fun h hn => ?_, fun l b hp hline hb => ⟨fun h => ?_, fun h hor => ?_, fun h => ?_⟩⟩
  · exact exec_refused (c := .setDisposition r) rfl ha (hdecide.trans (decideSetDisposition_unheld hl h))
  · exact exec_refused (c := .setDisposition r) rfl ha (hdecide.trans (decideSetDisposition_unknown hl h hn))
  · refine exec_refused (c := .setDisposition r) rfl ha (hdecide.trans ((decideSetDisposition_known hl hp hline hb).trans ?_))
    rw [setDispositionOf, if_neg (by omega), if_pos (by omega)]
  · refine exec_refused (c := .setDisposition r) rfl ha (hdecide.trans ((decideSetDisposition_known hl hp hline hb).trans ?_))
    rw [setDispositionOf, if_neg (by omega), if_neg (by omega), if_pos hor]
  · obtain ⟨d, hd⟩ : ∃ d, d = if reqByte r 8 = 1 then Disposition.rework else .goOn := ⟨_, rfl⟩
    have hset : setDispositionOf (BitVec.ofNat 16 (reqWord r 6)) (reqByte r 8) l b s =
        { status := .ok, state := s, tasks := [.disposition (BitVec.ofNat 16 (reqWord r 6)) d],
          data := dispositionData (BitVec.ofNat 16 (reqWord r 6)) } := by
      rw [setDispositionOf, hd]
      obtain h | ⟨h, hforced, hclean⟩ := h
      · rw [if_pos h, if_pos h]
      · rw [if_neg (by omega), if_neg (by omega), if_neg (by rw [hforced, hclean]; decide), if_neg (by omega)]
    obtain ⟨t, ht, hund, hmru, hphase, hepisode, c, hc, hm⟩ := run_disposition (d := d) hb hl hp
    refine ⟨t, dispositionData (BitVec.ofNat 16 (reqWord r 6)) t, ?_, hund, hmru, hphase, hepisode, c, hc, fun h1 => ?_, fun h0 => ?_⟩
    · rw [exec_accepted (c := .setDisposition r) rfl ha, hdecide, decideSetDisposition_known hl hp hline hb, hset, answer, ht]
    · exact hm.rework (by rw [hd, if_pos h1])
    · exact hm.marked.imp_left fun k => k.trans (by rw [hd, if_neg (by omega)])

end Sys2Proof.Machine
end

section
/-! RESUME (R193). -/

namespace Sys2Proof.Machine

/-! ## The rows of RESUME -/

theorem anyContinue_iff (s : State) (p : Board → Bool) :
    anyContinue s p = true ↔ ∃ b ∈ s.btk.train, b.disposition = .goOn ∧ p b = true := by
  simp only [anyContinue, List.any_eq_true, Bool.and_eq_true, beq_iff_eq]

theorem needsWave_iff (s : State) (b : Board) : needsWave s b = true ↔
    b.wave = .pending ∧ (0 < boardWaveSpeed s.tbs b .chip ∨ 0 < boardWaveSpeed s.tbs b .laminar) := by
  simp only [needsWave, Bool.and_eq_true, beq_iff_eq, Bool.or_eq_true, decide_eq_true_eq]

theorem fluxRefuses_iff (s : State) : fluxRefuses s = true ↔ groupActive s .flux = true
    ∧ ∃ b ∈ s.btk.train, b.disposition = .goOn ∧ (b.flux = .pending ∨ b.flux = .spraying) := by
  simp only [fluxRefuses, Bool.and_eq_true, anyContinue_iff, Bool.or_eq_true, beq_iff_eq]

theorem preheatRefuses_iff (s : State) : preheatRefuses s = true ↔ groupActive s .preheat = true
    ∧ ∃ b ∈ s.btk.train, b.disposition = .goOn ∧ boardOffset s.btk.position b < zoneEnd s.tbs 2 := by
  simp only [preheatRefuses, Bool.and_eq_true, anyContinue_iff, decide_eq_true_eq]
  rfl

theorem firstHoldAlarm_none_iff (s : State) : firstHoldAlarm s = none ↔ ∀ a : AlarmIx, holdAlarmSet s a = false := by
  rw [firstHoldAlarm, List.find?_eq_none]
  exact ⟨fun h a => Bool.eq_false_iff.mpr (h a (List.mem_finRange a)), fun h a _ => by rw [h a]; exact Bool.false_ne_true⟩

theorem find_finRange_least {n : Nat} {p : Fin n → Bool} {a : Fin n} (ha : p a = true) (hfirst : ∀ b, b < a → p b = false) :
    (List.finRange n).find? p = some a := by
  obtain ⟨c, hc⟩ := Option.isSome_iff_exists.mp (List.find?_isSome.mpr ⟨a, List.mem_finRange a, ha⟩ :
    ((List.finRange n).find? p).isSome = true)
  have hpc : p c = true := List.find?_some hc
  obtain ⟨-, as, bs, heq, has⟩ := List.find?_eq_some_iff_append.mp hc
  have hle : ¬a < c := fun hlt => by
    have hmem : a ∈ as := by
      have hall : a ∈ as ++ c :: bs := heq ▸ List.mem_finRange a
      obtain h | h := List.mem_append.mp hall
      · exact h
      · have hsorted : (as ++ c :: bs).Pairwise (· < ·) := heq ▸ List.pairwise_lt_finRange n
        obtain ⟨-, hcb, -⟩ := List.pairwise_append.mp hsorted
        obtain rfl | h := List.mem_cons.mp h
        · exact absurd hlt (lt_irrefl _)
        · exact absurd ((List.pairwise_cons.mp hcb).1 a h) (lt_asymm hlt)
    have hno := has a hmem
    rw [ha] at hno
    cases hno
  have hge : ¬c < a := fun hlt => by
    rw [hfirst c hlt] at hpc
    cases hpc
  rw [hc, le_antisymm (not_lt.mp hle) (not_lt.mp hge)]

theorem locked_iff (s : State) : s.hld.record.map (·.lock) = some .locked ↔ ∃ x, s.hld.record = some x ∧ x.lock = .locked := by
  simp

section
variable {s : State}

theorem resumeVerdict_unheld (h : s.hld.phase ≠ .held) : resumeVerdict s = (.state, 0, 0) := if_pos h

theorem resumeVerdict_locked (h : s.hld.phase = .held) (hl : ∃ x, s.hld.record = some x ∧ x.lock = .locked) :
    resumeVerdict s = (.locked, 1, 0) := by
  rw [resumeVerdict, if_neg (not_not_intro h), if_pos ((locked_iff s).mpr hl)]

variable (h : s.hld.phase = .held) (hl : ¬∃ x, s.hld.record = some x ∧ x.lock = .locked)
include h hl

theorem resumeVerdict_alarm {a : AlarmIx} (ha : holdAlarmSet s a = true) (hfirst : ∀ b, b < a → holdAlarmSet s b = false) :
    resumeVerdict s = (.stillActive, 2, a.val) := by
  rw [resumeVerdict, if_neg (not_not_intro h), if_neg (by rwa [locked_iff]),
    show firstHoldAlarm s = some a from find_finRange_least ha hfirst]

/-- The later rows, where no alarm with a hold link is set. -/
theorem resumeVerdict_rows (hno : ∀ a : AlarmIx, holdAlarmSet s a = false) : resumeVerdict s =
    if fluxRefuses s then (.stillActive, 3, 0)
    else if preheatRefuses s then (.stillActive, 3, 1)
    else if groupActive s .wave && anyContinue s (needsWave s) then (.stillActive, 3, 3)
    else if s.pot.state != .ready && anyContinue s (needsWave s) then (.state, 4, 0)
    else (.ok, 0, 0) := by
  rw [resumeVerdict, if_neg (not_not_intro h), if_neg (by rwa [locked_iff]), (firstHoldAlarm_none_iff s).mpr hno]

end

/-! ## A RESUME that is taken -/

/-- The resume is in progress, or a cause has begun the next episode. -/
def Resumes (s u : State) : Prop :=
  (u.hld.phase = .resuming ∧ u.hld.episode = s.hld.episode ∧ u.hld.resumeTimer = some (resumeTimeout s.tbs))
    ∨ (u.hld.phase = .stopping ∧ u.hld.episode = s.hld.episode + 1)

theorem holdCause_begins (c : Cause) {s : State} (hl : lineTakesHolds s = true) (h : s.hld.phase = .none ∨ s.hld.phase = .resuming) :
    holdCause c s = newEpisode c s := by
  rw [holdCause, if_pos hl]
  obtain h | h := h <;> rw [h]

theorem holdCause_outside (c : Cause) {s : State} (hl : lineTakesHolds s = false) : holdCause c s = (s, []) := by
  rw [holdCause, if_neg (by rw [hl]; exact Bool.false_ne_true)]

theorem holdLine_phase (n : BoardNo) (s : State) : (holdLine n s).1.hld.phase = s.hld.phase
    ∧ (holdLine n s).1.hld.episode = s.hld.episode ∧ (holdLine n s).1.hld.resumeTimer = s.hld.resumeTimer := by
  unfold holdLine
  split <;> exact ⟨rfl, rfl, rfl⟩

theorem Resumes.next {s u : State} {t : Task} (hq : quiet t = true) (h : Resumes s u) : Resumes s (handle t u).1 := by
  obtain ⟨hphase, hepisode, htimer⟩ | ⟨hphase, hepisode⟩ := h
  · by_cases ht : Block.hld ∈ touched t
    · cases t
      case holdCause c =>
        by_cases hl : lineTakesHolds u = true
        · rw [show handle (.holdCause c) u = _ from holdCause_begins c hl (.inr hphase)]
          exact .inr ⟨rfl, congrArg (· + 1) hepisode⟩
        · rw [show handle (.holdCause c) u = _ from holdCause_outside c (Bool.eq_false_iff.mpr hl)]
          exact .inl ⟨hphase, hepisode, htimer⟩
      case holdLine n =>
        obtain ⟨hp, he, hr⟩ := holdLine_phase n u
        exact .inl ⟨hp.trans hphase, he.trans hepisode, hr.trans htimer⟩
      case loopDown | encoderSilent | hldEncoder | reachHeld | heldBoards => cases hq
      all_goals simp [touched] at ht
    · rw [Resumes, show (handle t u).1.hld = u.hld from (handle_touches t u).same .hld ht]
      exact .inl ⟨hphase, hepisode, htimer⟩
  · have hkept := handle_episode hq (s := u) (.inl hphase)
    exact .inr ⟨hkept.phase.trans hphase, hkept.episode.trans hepisode⟩

theorem run_resumed {s : State} (hl : s.mru.line = .run ∨ s.mru.line = .draining) : ∃ t, run (resumed s) [.phaseTold] = t
    ∧ Undisturbed s t ∧ t.mru = s.mru ∧ Resumes s t := by
  have hund : Undisturbed s (resumed s) := ⟨rfl, rfl, rfl, rfl, rfl, rfl, rfl, rfl, rfl, rfl, rfl, rfl, rfl, rfl⟩
  refine ⟨_, rfl, hund.trans (run_undisturbed _ _ rfl), ?_, ?_⟩
  · exact settle_holdLine _ (resumed s) (ts := [.phaseTold]) rfl hl HoldPhase.noConfusion
  · exact settle_kinds (P := Resumes s) quietKinds (by decide) (fun _ _ ht hu => hu.next (quiet_of_kind ht)) (fun _ hu => hu) _ _
      (resumed s) (among_quiet rfl) (.inl ⟨rfl, rfl, rfl⟩)

section
variable {r : ReqCell} {s : State} (hl : s.mru.line = .run ∨ s.mru.line = .draining)
include hl

theorem decideResume_refused {status : ReplyStatus} {b9 b10 : Nat} (h : resumeVerdict s = (status, b9, b10)) (hs : status ≠ .ok) :
    decideResume r s = { status := status, state := s, tasks := [],
                         data := fun t => replyData (holdBytes t ++ [(9, b9), (10, b10)]) } := by
  rw [decideResume, inHoldLines_of _ hl, h]
  exact if_neg hs

theorem decideResume_taken (h : resumeVerdict s = (.ok, 0, 0)) :
    decideResume r s = { status := .ok, state := resumed s, tasks := [.phaseTold],
                         data := fun t => replyData (holdBytes t ++ [(9, 0), (10, 0)]) } := by
  rw [decideResume, inHoldLines_of _ hl, h]
  exact if_pos rfl

theorem exec_resume_refused (ha : accepted 12 r s) {status : ReplyStatus} {b9 b10 : Nat} (h : resumeVerdict s = (status, b9, b10))
    (hs : status ≠ .ok) : exec (.resume r) s = .next (pushReply r.src r.tag status
      (replyData ([(5, lineStateCode s.mru.line), (6, holdPhaseCode s.hld.phase)] ++ wordAt 7 s.hld.episode.toNat
        ++ [(9, b9), (10, b10)])) s) := by
  rw [exec_accepted (c := .resume r) rfl ha, show decideByCode (12 : Word16).toNat r s = decideResume r s from rfl,
    decideResume_refused hl h hs, answer, run_nil]
  rfl

end

/-- Settles O52: the rows of the verdict in their order, and the phase that a taken RESUME leaves. -/
theorem resumeDecidedByItsTable : Obligations.ResumeDecidedByItsTable := by
  intro r s ha hl
  dsimp only
  have hwave : (groupActive s .wave && anyContinue s (needsWave s)) = true ↔ groupActive s .wave = true ∧ ∃ b ∈ s.btk.train,
      b.disposition = .goOn ∧ b.wave = .pending ∧ (0 < boardWaveSpeed s.tbs b .chip ∨ 0 < boardWaveSpeed s.tbs b .laminar) := by
    simp only [Bool.and_eq_true, anyContinue_iff, needsWave_iff]
  have hpot : (s.pot.state != .ready && anyContinue s (needsWave s)) = true ↔ s.pot.state ≠ .ready ∧ ∃ b ∈ s.btk.train,
      b.disposition = .goOn ∧ b.wave = .pending ∧ (0 < boardWaveSpeed s.tbs b .chip ∨ 0 < boardWaveSpeed s.tbs b .laminar) := by
    simp only [Bool.and_eq_true, anyContinue_iff, needsWave_iff, bne_iff_ne]
  rw [← fluxRefuses_iff, ← preheatRefuses_iff, ← hwave, ← hpot]
  refine ⟨fun h => ?_, fun h hlock => ?_, fun a ⟨h, hlock⟩ hset hfirst => ?_, fun ⟨h, hlock⟩ hno hf => ?_,
    fun ⟨h, hlock⟩ hno hf hp => ?_, fun ⟨h, hlock⟩ hno hf hp hw => ?_, fun ⟨h, hlock⟩ hno hf hp hw hr => ?_,
    fun ⟨h, hlock⟩ hno hf hp hw hr => ?_⟩
  · exact exec_resume_refused hl ha (resumeVerdict_unheld h) ReplyStatus.noConfusion
  · exact exec_resume_refused hl ha (resumeVerdict_locked h hlock) ReplyStatus.noConfusion
  · exact exec_resume_refused hl ha (resumeVerdict_alarm h hlock hset hfirst) ReplyStatus.noConfusion
  · exact exec_resume_refused hl ha ((resumeVerdict_rows h hlock hno).trans (if_pos hf)) ReplyStatus.noConfusion
  · refine exec_resume_refused hl ha ((resumeVerdict_rows h hlock hno).trans ?_) ReplyStatus.noConfusion
    rw [if_neg hf, if_pos hp]
  · refine exec_resume_refused hl ha ((resumeVerdict_rows h hlock hno).trans ?_) ReplyStatus.noConfusion
    rw [if_neg hf, if_neg hp, if_pos hw]
  · refine exec_resume_refused hl ha ((resumeVerdict_rows h hlock hno).trans ?_) ReplyStatus.noConfusion
    rw [if_neg hf, if_neg hp, if_neg hw, if_pos hr]
  · have hverdict : resumeVerdict s = (.ok, 0, 0) := by
      rw [resumeVerdict_rows h hlock hno, if_neg hf, if_neg hp, if_neg hw, if_neg hr]
    obtain ⟨t, ht, hund, hmru, hresumes⟩ := run_resumed hl
    refine ⟨t, ?_, hund, hmru, hresumes⟩
    rw [exec_accepted (c := .resume r) rfl ha, show decideByCode (12 : Word16).toNat r s = decideResume r s from rfl,
      decideResume_taken hl hverdict, answer, ht, ← hmru]
    rfl

end Sys2Proof.Machine
end

section
/-! FORCE_CUTOFF and CLEAR_CUTOFF (R179 to R182, R155). -/

namespace Sys2Proof.Machine

/-! ## The record of a group within an event -/

theorem groupOfCode_groupIx (g : Group) : groupOfCode (groupIx g).val = some g := by cases g <;> rfl

/-- An ACTIVE group keeps its record until it is deactivated or RESTART clears its flag (R179). -/
theorem handle_group_active {t : Task} {s : State} {g : Group} (ht : t.kind ∉ [.deactivate, .restartAlarms])
    (h : (groupRecord s g).active = true) : groupRecord (handle t s).1 g = groupRecord s g := by
  by_cases hk : t.kind = .activate
  · cases t
    case activate j x =>
      by_cases hj : (groupRecord s j).active = true
      · rw [show handle (.activate j x) s = _ from activateGroup_active hj]
      · have hne : j ≠ g := by
          rintro rfl
          exact hj h
        rw [show (handle (.activate j x) s).1 = _ from activateGroup_inactive (Bool.eq_false_iff.mpr hj),
          groupRecord_setGroup_other _ _ hne, groupRecord, captureHeld_acu, groupRecord]
    all_goals cases hk
  · rw [groupRecord, handle_groups t s hk (fun k => ht (by rw [k]; decide)) (fun k => ht (by rw [k]; decide)), groupRecord]

/-- The kinds that take a group out of ACTIVE, or its manual flag. -/
def groupClearers : List TaskKind := [.deactivate, .restartAlarms, .restartGroup]

theorem settle_group_active (n : Nat) {ts : List Task} {s : State} {g : Group} (hts : ∀ t ∈ ts, t.kind ∉ groupClearers)
    (h : (groupRecord s g).active = true) : groupRecord (settle n ts s) g = groupRecord s g :=
  settle_kinds (P := fun u => groupRecord u g = groupRecord s g) (without groupClearers) (by decide)
    (fun t u ht hu => (handle_group_active (fun k => mem_without.mp ht (by revert k; cases t <;> simp [Task.kind, groupClearers]))
      (by rw [hu]; exact h)).trans hu) (fun _ hu => hu) n ts s (among_without hts) rfl

/-! ## FORCE_CUTOFF (R180) -/

theorem setManualFlag_record (g : Group) (s : State) : groupRecord (setManualFlag g s) g = { groupRecord s g with manual := true } :=
  groupRecord_setGroup_same ..

theorem setManualFlag_undisturbed (g : Group) (s : State) : Undisturbed s (setManualFlag g s) :=
  ⟨rfl, rfl, rfl, rfl, rfl, rfl, rfl, rfl, rfl, rfl, rfl, rfl, rfl, rfl⟩

theorem run_force_active {g : Group} {x : Cause} {s : State} (h : (groupRecord s g).active = true) :
    run (setManualFlag g s) [.activate g x] = setManualFlag g s := by
  refine (Takes.one (t := .activate g x) (activateGroup_active ?_)).run (by decide)
  rw [setManualFlag_record]
  exact h

/-- The group's record after an event that activates it. -/
theorem run_force_record (g : Group) (x : Cause) (s : State) : groupRecord (run (setManualFlag g s) [.activate g x]) g =
    { groupRecord s g with
      active := true, manual := true, cause := if (groupRecord s g).active = true then (groupRecord s g).cause else some x } := by
  by_cases h : (groupRecord s g).active = true
  · rw [run_force_active h, setManualFlag_record, if_pos h, ← h]
  · have hinactive : (groupRecord (setManualFlag g s) g).active = false := by
      rw [setManualFlag_record]
      exact Bool.eq_false_iff.mpr h
    have hrecord : groupRecord (activateGroup g x (setManualFlag g s)).1 g =
        { groupRecord s g with active := true, manual := true, cause := some x } := by
      rw [activateGroup_inactive hinactive, groupRecord_setGroup_same, setManualFlag_record]
    have hwait : ∀ t ∈ (handle (.activate g x) (setManualFlag g s)).2, t.kind ∉ groupClearers :=
      handle_emits_none (src := [.restartGroup]) (by decide) _ (by simp [Task.kind])
    rw [run_cons, List.append_nil, settle_group_active _ hwait (by
      rw [show groupRecord (handle (.activate g x) (setManualFlag g s)).1 g = _ from hrecord]), if_neg h]
    exact hrecord

/-- FEED activated aborts a feed in flight, at once (R155). -/
theorem takes_activate_feed {x : Cause} {s : State} (h : (groupRecord s .feed).active = false) (hl : s.mru.line ≠ .unconfigured)
    (hf : s.pot.feeder.state = .feeding) :
    ∃ t, Takes 2 [.activate .feed x] s t ∧ t.out.operation = some ⟨.abort, 0, s.pot.feeder.number⟩
      ∧ t.pot.feeder = { s.pot.feeder with aborted := true } := by
  obtain ⟨u, hu⟩ : ∃ u, u = setGroup s .feed { groupRecord s .feed with active := true, cause := some x } := ⟨_, rfl⟩
  have hactivate : handle (.activate .feed x) s = (u, [.potGroup .feed]) := by
    refine Prod.ext ((activateGroup_inactive h).trans hu.symm) ?_
    simp only [handle, activateGroup, h, Bool.false_eq_true, if_false]
    rfl
  have hidle : ¬potIdle u = true := by
    rw [potIdle, beq_iff_eq, hu]
    exact hl
  have hgroup : groupActive u .feed = true := by rw [groupActive_iff, hu, groupRecord_setGroup_same]
  have hfeeding : u.pot.feeder.state = .feeding := by rw [hu]; exact hf
  have htold : handle (.potGroup .feed) u =
      ({ handOperation ⟨.abort, 0, u.pot.feeder.number⟩ u with
          pot := { u.pot with feeder := { u.pot.feeder with aborted := true } } }, []) := by
    simp only [handle, potGroup, potActs, if_neg hidle, hgroup, hfeeding, if_true]
  refine ⟨_, .of_handle hactivate (.one htold), ?_, ?_⟩
  · dsimp only
    rw [handOperation_out, hu]
    rfl
  · rw [hu]
    rfl

/-! ## CLEAR_CUTOFF (R181, R182) -/

/-- A group is activated within an event only by an alarm linked to it that is raised in it (R174). -/
theorem handle_activates {t : Task} {s : State} {g : Group} {x : Cause} (h : Task.activate g x ∈ (handle t s).2) :
    ∃ a : AlarmIx, groupLink (s.tbs.alarms[a]).links g = true ∧ RaisedNow (handle t s).1 a := by
  have hk : TaskKind.activate ∈ emitted t.kind := among_iff.mp (handle_emits t s) _ h
  have hraise : ∀ {links : BitVec 8} {a : AlarmIx} {y : AlarmState}, Task.activate g x ∈ raiseTasks links a y → groupLink links g = true := by
    intro links a y hm
    simp only [raiseTasks, List.mem_append, List.mem_map, List.mem_filter, potTold] at hm
    obtain ((hm | ⟨j, ⟨-, hj⟩, heq⟩) | hm) | hm := hm
    · split at hm <;> simp at hm
    · obtain ⟨rfl, -⟩ := Task.activate.inj heq
      exact hj
    · split at hm <;> simp at hm
    · split at hm <;> simp at hm
  cases t
  case condition a v e =>
    have hm : (s.tbs.alarms[a]).masked = false := by
      by_contra hm
      rw [show handle (.condition a v e) s = _ from takeCondition_masked v e (by simpa using hm)] at h
      cases h
    have hlevel : alarmKind a = .level := by
      by_contra hno
      rw [show handle (.condition a v e) s = (s, []) from if_pos (by simp [hno])] at h
      cases h
    rw [show handle (.condition a v e) s = _ from takeCondition_unmasked v e hm hlevel] at h ⊢
    unfold changeTasks at h
    dsimp only at h
    split at h
    · cases h
    · next hne =>
      split at h
      · next hactive =>
        refine ⟨a, hraise h, ?_⟩
        have hrecord : (setAlarm s a (conditionRecord a v e s)).acu.alarms[a] = conditionRecord a v e s := setAlarm_record ..
        rw [RaisedNow, hrecord, conditionRecord, if_pos ⟨hactive, fun k => hne (hactive.trans k.symm)⟩]
        rfl
      · split at h
        · rw [potTold] at h
          split at h <;> simp at h
        · split at h
          · rw [clearTasks, potTold] at h
            (repeat' split at h) <;> simp at h
          · cases h
  case event a =>
    have hm : (s.tbs.alarms[a]).masked = false := by
      by_contra hm
      rw [show handle (.event a) s = (s, []) from if_pos (by simp at hm; simp [hm])] at h
      cases h
    have hevent : alarmKind a = .event := by
      by_contra hno
      rw [show handle (.event a) s = (s, []) from if_pos (by simp [hno])] at h
      cases h
    refine ⟨a, ?_, (takeEvent_raises hm hevent).1⟩
    rw [show (handle (.event a) s).2 = raiseTasks (s.tbs.alarms[a]).links a (s.acu.alarms[a]).state from by
      simp only [handle, takeEvent, hm, hevent]
      rfl] at h
    exact hraise h
  all_goals exact absurd hk (by simp only [Task.kind]; decide)

/-- A group is cleared and its activation does not wait, or an alarm linked to it has been raised. -/
def ClearedOrRaised (g : Group) (ts : List Task) (s : State) : Prop :=
  (groupRecord s g = ⟨false, false, none⟩ ∧ ∀ x, Task.activate g x ∉ ts)
    ∨ ∃ a : AlarmIx, groupLink (s.tbs.alarms[a]).links g = true ∧ RaisedNow s a

theorem handle_group_cleared {t : Task} {s : State} {g : Group} (ht : ∀ x, t ≠ .activate g x)
    (h : groupRecord s g = ⟨false, false, none⟩) : groupRecord (handle t s).1 g = ⟨false, false, none⟩ := by
  by_cases hk : t.kind ∈ [.activate, .deactivate, .restartAlarms]
  · cases t
    case activate j x =>
      have hne : j ≠ g := by
        rintro rfl
        exact ht x rfl
      by_cases hj : (groupRecord s j).active = true
      · rw [show handle (.activate j x) s = _ from activateGroup_active hj, h]
      · rw [show (handle (.activate j x) s).1 = _ from activateGroup_inactive (Bool.eq_false_iff.mpr hj),
          groupRecord_setGroup_other _ _ hne, groupRecord, captureHeld_acu]
        exact h
    case deactivate j =>
      simp only [handle, deactivateGroup]
      split
      · next hj =>
        have hne : j ≠ g := by
          rintro rfl
          rw [h] at hj
          cases hj
        rw [groupRecord_setGroup_other _ _ hne, h]
      · exact h
    case restartAlarms =>
      have hrecord : groupRecord (restartAlarms s).1 g = { groupRecord s g with manual := false } := by
        simp only [restartAlarms, groupRecord, Fin.getElem_fin, Vector.getElem_map]
      rw [show groupRecord (handle .restartAlarms s).1 g = _ from hrecord, h]
    all_goals simp [Task.kind] at hk
  · simp only [List.mem_cons, List.not_mem_nil, or_false, not_or] at hk
    rw [groupRecord, handle_groups t s hk.1 hk.2.1 hk.2.2]
    exact h

theorem ClearedOrRaised.next {g : Group} {t : Task} {ts : List Task} {s : State} (ht : t.kind ∉ cycleKinds)
    (h : ClearedOrRaised g (t :: ts) s) : ClearedOrRaised g ((handle t s).2 ++ ts) (handle t s).1 := by
  have hmoved := handle_moved s ht
  obtain ⟨hrecord, hwait⟩ | ⟨a, hlink, hraised⟩ := h
  · by_cases hin : ∃ x, Task.activate g x ∈ (handle t s).2
    · obtain ⟨x, hx⟩ := hin
      obtain ⟨a, hlink, hraised⟩ := handle_activates hx
      exact .inr ⟨a, by rw [hmoved.entries]; exact hlink, hraised⟩
    · refine .inl ⟨handle_group_cleared (fun x hx => hwait x (by rw [hx]; exact List.mem_cons_self ..)) hrecord, fun x hx => ?_⟩
      obtain hx | hx := List.mem_append.mp hx
      · exact hin ⟨x, hx⟩
      · exact hwait x (List.mem_cons_of_mem _ hx)
  · exact .inr ⟨a, by rw [hmoved.entries]; exact hlink, hmoved.raisedNow hraised⟩

theorem settle_cleared (n : Nat) {g : Group} {ts : List Task} {s : State} (hts : ∀ t ∈ ts, t.kind ∉ cycleKinds)
    (h : ClearedOrRaised g ts s) : groupRecord (settle n ts s) g = ⟨false, false, none⟩
      ∨ ∃ a : AlarmIx, groupLink ((settle n ts s).tbs.alarms[a]).links g = true ∧ RaisedNow (settle n ts s) a := by
  refine settle_holds (I := fun ts s => (∀ t ∈ ts, t.kind ∉ cycleKinds) ∧ ClearedOrRaised g ts s)
    (P := fun s => groupRecord s g = ⟨false, false, none⟩
      ∨ ∃ a : AlarmIx, groupLink (s.tbs.alarms[a]).links g = true ∧ RaisedNow s a) (fun t ts s hI => ⟨fun u hu => ?_, ?_⟩)
    (fun s hI => hI.2.imp_left And.left) (fun ts s hI => hI.2.imp_left And.left) n ts s ⟨hts, h⟩
  · obtain hu | hu := List.mem_append.mp hu
    · exact handle_emits_no_cycle s (hI.1 t (List.mem_cons_self ..)) u hu
    · exact hI.1 u (List.mem_cons_of_mem _ hu)
  · exact hI.2.next (hI.1 t (List.mem_cons_self ..))

theorem deactivateGroup_cleared {g : Group} {s : State} (h : groupActive s g = true) :
    deactivateGroup g s = (setGroup s g ⟨false, false, none⟩, (groupOutputs g).map Task.formDelivered ++ groupTold g) := if_pos h

theorem run_deactivate {g : Group} {s : State} (h : groupActive s g = true) : groupRecord (run s [.deactivate g]) g = ⟨false, false, none⟩
    ∨ ∃ a : AlarmIx, groupLink ((run s [.deactivate g]).tbs.alarms[a]).links g = true ∧ RaisedNow (run s [.deactivate g]) a := by
  rw [run_cons, List.append_nil]
  have hstep : handle (.deactivate g) s = _ := deactivateGroup_cleared h
  have hemit : ∀ t ∈ (handle (.deactivate g) s).2, t.kind ∉ cycleKinds :=
    handle_emits_no_cycle s (by simp [Task.kind, cycleKinds])
  have hno : ∀ x, Task.activate g x ∉ (handle (.deactivate g) s).2 := fun x hx =>
    handle_emits_none (src := [.condition, .event]) (bad := [.activate]) (by decide) s (by simp [Task.kind]) _ hx (by simp [Task.kind])
  refine settle_cleared _ hemit (.inl ⟨?_, hno⟩)
  rw [hstep]
  exact groupRecord_setGroup_same ..

theorem linkedAlarmPresent_iff (s : State) (g : Group) : linkedAlarmPresent s g = true ↔
    ∃ a : AlarmIx, groupLink (s.tbs.alarms[a]).links g = true ∧ (s.acu.alarms[a]).state ≠ .clear := by
  simp only [linkedAlarmPresent, List.any_eq_true, Bool.and_eq_true, bne_iff_ne]
  exact ⟨fun ⟨a, _, h⟩ => ⟨a, h⟩, fun ⟨a, h⟩ => ⟨a, List.mem_finRange a, h⟩⟩

theorem clearBusy_iff (s : State) (g : Group) : clearBusy s g = true ↔
    (g = .flux ∨ g = .wave) ∧ s.btk.train ≠ [] ∧ s.hld.phase ≠ .held := by
  simp only [clearBusy, Bool.and_eq_true, Bool.or_eq_true, beq_iff_eq, Bool.not_eq_true', List.isEmpty_eq_false_iff, bne_iff_ne,
    and_assoc]

theorem decideClearCutoff_of {r : ReqCell} {s : State} {g : Group} (hi : reqByte r 6 = (groupIx g).val) : decideClearCutoff r s =
    if !groupActive s g then taken (groupData g) s
    else if linkedAlarmPresent s g then refuse .stillActive s
    else if clearBusy s g then refuse .busy s
    else { status := .ok, state := s, tasks := [.deactivate g], data := groupData g } := by
  rw [decideClearCutoff, hi, groupOfCode_groupIx]

/-- Settles O54: an ACTIVE group keeps its record, and one that is cleared stays so until an alarm linked to it is raised. -/
theorem cutoffForcedAndCleared : Obligations.CutoffForcedAndCleared := by
  refine ⟨fun r s g ha hi => ?_, fun r s g ha hi => ?_⟩
  · have hrecord := run_force_record g (.request r.src) s
    have hund := (setManualFlag_undisturbed g s).trans (run_undisturbed (setManualFlag g s) [.activate g (.request r.src)] rfl)
    refine ⟨run (setManualFlag g s) [.activate g (.request r.src)], (exec_accepted (c := .forceCutoff r) rfl ha).trans ?_, hund,
      by rw [hrecord], by rw [hrecord], by rw [hrecord], fun h => run_force_active h, ?_⟩
    · rw [show decideByCode (20 : Word16).toNat r s = decideForceCutoff r s from rfl, decideForceCutoff, hi, groupOfCode_groupIx]
      simp only [answer, groupData, groupActive_iff, hrecord]
      rfl
    · rintro rfl h hl hf
      have hinactive : (groupRecord (setManualFlag .feed s) .feed).active = false := by
        rw [setManualFlag_record]
        exact h
      obtain ⟨t, ht, hop, hfeeder⟩ := takes_activate_feed (x := .request r.src) hinactive hl hf
      rw [ht.run (by decide)]
      exact ⟨hop, hfeeder⟩
  · dsimp only
    rw [← linkedAlarmPresent_iff, ← clearBusy_iff]
    have hexec := exec_accepted (c := .clearCutoff r) rfl ha
    rw [show decideByCode (21 : Word16).toNat r s = decideClearCutoff r s from rfl, decideClearCutoff_of hi] at hexec
    refine ⟨fun h => ?_, fun h hl => ?_, fun h hl hb => ?_, fun h hl hb => ?_⟩
    · rw [hexec, h, Bool.not_false, if_pos rfl, answer_taken, groupData, h]
      rfl
    · rw [hexec, h, Bool.not_true, if_neg Bool.false_ne_true, if_pos hl, answer_refuse]
    · rw [hexec, h, Bool.not_true, if_neg Bool.false_ne_true, if_neg hl, if_pos hb, answer_refuse]
    · rw [h, Bool.not_true, if_neg Bool.false_ne_true, if_neg hl, if_neg hb] at hexec
      exact ⟨run s [.deactivate g], _, hexec, run_undisturbed s _ (by rfl), run_deactivate h⟩

end Sys2Proof.Machine
end

section
/-! The timers that give A41 its condition (R85, R190, R169, R171, R185). -/

namespace Sys2Proof.Machine

/-! ## A41 raised by its condition -/

/-- A condition that raises its alarm calls for the steps of a raise (R171, R174). -/
theorem takeCondition_raising {a : AlarmIx} {s : State} (e : Bool) (hm : (s.tbs.alarms[a]).masked = false) (hk : alarmKind a = .level)
    (hr : (s.acu.alarms[a]).state = .latched ∨ ((s.acu.alarms[a]).state = .clear ∧ (s.tbs.alarms[a]).delay = 0)) :
    takeCondition a true e s = (setAlarm s a (conditionRecord a true e s), raiseTasks (s.tbs.alarms[a]).links a (s.acu.alarms[a]).state) := by
  have hnext : levelNext s.tbs.alarms[a] (s.acu.alarms[a]).state (s.acu.alarms[a]).count true e = (.active, 0) := by
    obtain h | ⟨h, hd⟩ := hr
    · rw [h]
      rfl
    · rw [h]
      exact if_pos hd
  have hold : AlarmState.active ≠ (s.acu.alarms[a]).state := by
    obtain h | ⟨h, -⟩ := hr <;> rw [h] <;> decide
  rw [takeCondition_unmasked true e hm hk, hnext]
  simp only [changeTasks, if_neg hold, if_true]

section
variable {a : AlarmIx} {s : State} (hm : (s.tbs.alarms[a]).masked = false) (hk : alarmKind a = .level)
  (hr : (s.acu.alarms[a]).state = .latched ∨ ((s.acu.alarms[a]).state = .clear ∧ (s.tbs.alarms[a]).delay = 0))
include hm hk hr

/-- An event that begins with a raise keeps its cycle. -/
theorem settle_condition_raised (n : Nat) (e : Bool) {ts : List Task} (hts : ∀ t ∈ ts, t.kind ∉ cycleKinds) :
    ((settle (n + 1) (.condition a true e :: ts) s).acu.alarms[a]).raiseCycle = some s.lif.cycle := by
  have hwait : ∀ t ∈ (handle (.condition a true e) s).2 ++ ts, t.kind ∉ cycleKinds := fun t ht =>
    (List.mem_append.mp ht).elim (handle_emits_no_cycle s (by simp [Task.kind, cycleKinds]) t) (hts t)
  have hmoved := settle_moved n (handle (.condition a true e) s).1 hwait
  have hraised : RaisedNow (handle (.condition a true e) s).1 a := (takeCondition_raises e hm hk hr).1
  have hcycle : (handle (.condition a true e) s).1.lif.cycle = s.lif.cycle :=
    (takeCondition_moved a true e s).cycle
  rw [settle_cons]
  exact (hmoved.raisedNow hraised).trans (congrArg some (hmoved.cycle.trans hcycle))

/-- A raise with a hold link begins an episode that the alarm is the primary cause of (R174, R185, R186). -/
theorem settle_condition_holds (n : Nat) (e : Bool) {ts : List Task} (hts : ts.all quiet = true)
    (hlink : holdLink (s.tbs.alarms[a]).links = true) (hl : lineTakesHolds s = true)
    (hp : s.hld.phase = .none ∨ s.hld.phase = .resuming) :
    (settle (n + 2) (.condition a true e :: ts) s).hld.phase = .stopping
      ∧ (settle (n + 2) (.condition a true e :: ts) s).hld.record.map (·.primary) = some (.alarm a) := by
  obtain ⟨u, hu⟩ : ∃ u, u = setAlarm s a (conditionRecord a true e s) := ⟨_, rfl⟩
  obtain ⟨rest, hrest⟩ : ∃ rest, raiseTasks (s.tbs.alarms[a]).links a (s.acu.alarms[a]).state = .holdCause (.alarm a) :: rest :=
    ⟨_, by simp only [raiseTasks, hlink, if_true, List.append_assoc, List.singleton_append]; rfl⟩
  have hquiet : rest.all quiet = true := by
    have hall := raiseTasks_quiet (s.tbs.alarms[a]).links a (s.acu.alarms[a]).state
    rw [hrest] at hall
    exact (Bool.and_eq_true_iff.mp hall).2
  have hfirst : handle (.condition a true e) s = (u, .holdCause (.alarm a) :: rest) := by
    rw [hu, ← hrest]
    exact takeCondition_raising e hm hk hr
  have hsecond : handle (.holdCause (.alarm a)) u = newEpisode (.alarm a) u :=
    holdCause_begins _ (by rw [hu]; exact hl) (by rw [hu]; exact hp)
  have hbegun : ((newEpisode (.alarm a) u).2 ++ (rest ++ ts)).all quiet = true :=
    all_quiet_append (all_quiet_append (all_quiet_map _ (fun _ => rfl) _) rfl) (all_quiet_append hquiet hts)
  have hkept := settle_episode n (newEpisode (.alarm a) u).1 hbegun (.inl rfl)
  rw [settle_cons, hfirst, List.cons_append, settle_cons, hsecond]
  obtain ⟨y, hy, hframe⟩ := hkept.record _ rfl
  exact ⟨hkept.phase, by rw [hy, Option.map_some, hframe.primary]⟩

end

/-! ## The two hand-overs of A41's condition -/

theorem takes_a41Btk_masked {s : State} (h : (s.tbs.alarms[A 41]).masked = true) :
    Takes 2 [.a41Btk false] s { s with acu := { s.acu with a41Btk := s.btk.faultCondition } } := by
  refine .of_handle (v := { s with acu := { s.acu with a41Btk := s.btk.faultCondition } }) rfl (.one ?_)
  exact takeCondition_masked (s := { s with acu := { s.acu with a41Btk := s.btk.faultCondition } }) _ _ h

theorem takes_a41Hld_masked {s : State} (h : (s.tbs.alarms[A 41]).masked = true) :
    Takes 2 [.a41Hld] s { s with acu := { s.acu with a41Hld := s.hld.faultCondition } } := by
  refine .of_handle (v := { s with acu := { s.acu with a41Hld := s.hld.faultCondition } }) rfl (.one ?_)
  exact takeCondition_masked (s := { s with acu := { s.acu with a41Hld := s.hld.faultCondition } }) _ _ h

theorem handle_a41Btk {s : State} (h : s.btk.faultCondition = true) :
    handle (.a41Btk false) s = ({ s with acu := { s.acu with a41Btk := true } }, [.condition (A 41) true false]) := by
  simp only [handle, takeA41Btk, h, Bool.true_or]

theorem handle_a41Hld {s : State} (h : s.hld.faultCondition = true) :
    handle .a41Hld s = ({ s with acu := { s.acu with a41Hld := true } }, [.condition (A 41) true false]) := by
  simp only [handle, takeA41Hld, h, Bool.or_true]

theorem raisesConveyorFault_or {s : State} (h : raisesConveyorFault s) : (s.acu.alarms[A 41]).state = .latched
    ∨ ((s.acu.alarms[A 41]).state = .clear ∧ (s.tbs.alarms[A 41]).delay = 0) := h.2.symm

/-! ## The three timers -/

/-- The no-motion timer's expiry, with A41's condition true. -/
theorem run_noMotion {s : State} (hf : s.btk.faultCondition = true) (h : raisesConveyorFault s) :
    ((run s [.a41Btk false]).acu.alarms[A 41]).raiseCycle = some s.lif.cycle
    ∧ (holdLink (s.tbs.alarms[A 41]).links = true → lineTakesHolds s = true → s.hld.phase = .none ∨ s.hld.phase = .resuming →
      (run s [.a41Btk false]).hld.phase = .stopping ∧ (run s [.a41Btk false]).hld.record.map (·.primary) = some (.alarm (A 41))) := by
  rw [run_cons, handle_a41Btk hf, List.append_nil]
  exact ⟨settle_condition_raised (s := { s with acu := { s.acu with a41Btk := true } }) h.1 rfl (raisesConveyorFault_or h) 4294967294 _
      (by simp), fun hlink hl hp =>
    settle_condition_holds (s := { s with acu := { s.acu with a41Btk := true } }) h.1 rfl (raisesConveyorFault_or h) 4294967293 _ rfl
      hlink hl hp⟩

/-- HLD's condition given true, with what waits behind it. -/
theorem run_a41Hld_raised {s : State} (hf : s.hld.faultCondition = true) (h : raisesConveyorFault s) {ts : List Task}
    (hts : ∀ t ∈ ts, t.kind ∉ cycleKinds) :
    ((run s (.a41Hld :: ts)).acu.alarms[A 41]).raiseCycle = some s.lif.cycle := by
  rw [run_cons, handle_a41Hld hf]
  exact settle_condition_raised (s := { s with acu := { s.acu with a41Hld := true } }) h.1 rfl (raisesConveyorFault_or h) 4294967294 _ hts

theorem run_a41Hld_holds {s : State} (hf : s.hld.faultCondition = true) (h : raisesConveyorFault s)
    (hlink : holdLink (s.tbs.alarms[A 41]).links = true) (hl : lineTakesHolds s = true)
    (hp : s.hld.phase = .none ∨ s.hld.phase = .resuming) : (run s [.a41Hld]).hld.phase = .stopping
      ∧ (run s [.a41Hld]).hld.record.map (·.primary) = some (.alarm (A 41)) := by
  rw [run_cons, handle_a41Hld hf]
  exact settle_condition_holds (s := { s with acu := { s.acu with a41Hld := true } }) h.1 rfl (raisesConveyorFault_or h) 4294967293 _ rfl
    hlink hl hp

/-! ## HELD reached without v8 (R190) -/

/-- The phase is HELD, with neither timer nor a condition of HLD (R189, R190). -/
def AtHeld (s : State) : Prop :=
  s.hld.phase = .held ∧ s.hld.faultCondition = false ∧ s.hld.stopTimer = none ∧ s.hld.resumeTimer = none

/-- The kinds that follow from HELD. -/
def heldKinds : List TaskKind := .heldBoards :: quietKinds

theorem handle_atHeld {t : Task} {s : State} (ht : t.kind ∈ heldKinds) (h : AtHeld s) : AtHeld (handle t s).1 := by
  obtain ⟨hphase, hfault, hstop, hresume⟩ := h
  obtain hk | hk := List.mem_cons.mp ht
  · cases t
    case heldBoards => exact ⟨hphase, hfault, hstop, hresume⟩
    all_goals cases hk
  · have hkept := handle_episode (quiet_of_kind hk) (s := s) (.inr hphase)
    exact ⟨hkept.phase.trans hphase, hkept.fault.trans hfault, hkept.stop.trans hstop, hkept.resume.trans hresume⟩

theorem reachHeld_atHeld (s : State) : AtHeld (reachHeld s).1 := ⟨rfl, rfl, rfl, rfl⟩

theorem reachHeld_heldKinds (s : State) : Among heldKinds (reachHeld s).2 :=
  Among.mono (ks := emitted .reachHeld) (handle_emits .reachHeld s) (by decide)

/-- An event that ends with HELD reached, behind quiet hand-overs during STOPPING. -/
theorem settle_reaches_held (n : Nat) {ts : List Task} (s : State) (hq : ts.all quiet = true) :
    (settle n (ts ++ [.reachHeld]) s).overrun = true ∨ AtHeld (settle n (ts ++ [.reachHeld]) s) := by
  obtain ho | ⟨m, u, -, heq⟩ := settle_last (P := fun _ => True) (Q := fun t => quiet t = true) (fun _ _ _ h => h)
    (fun t u ht _ x hx => List.all_eq_true.mp (handle_quiet t u ht) x hx) n ts .reachHeld s (List.all_eq_true.mp hq) trivial
  · exact .inl ho
  · refine .inr ?_
    rw [heq]
    exact settle_kinds (P := AtHeld) heldKinds (by decide) (fun _ _ ht hu => handle_atHeld ht hu) (fun _ hu => hu) m _ _
      (reachHeld_heldKinds u) (reachHeld_atHeld u)

/-- The kinds of an event in which HELD can be reached. -/
def reachingKinds : List TaskKind := .reachHeld :: heldKinds

/-- MRU stays in an event in which HELD can be reached. -/
theorem settle_reaching_mru (n : Nat) {ts : List Task} (s : State) (hts : Among reachingKinds ts)
    (hl : s.mru.line = .run ∨ s.mru.line = .draining) (hp : s.hld.phase ≠ .none) : (settle n ts s).mru = s.mru := by
  refine (settle_kinds (P := fun u => u.mru = s.mru ∧ u.hld.phase ≠ .none) reachingKinds (by decide) (fun t u ht hu => ?_)
    (fun _ hu => hu) n ts s hts ⟨rfl, hp⟩).1
  obtain hk | hk := List.mem_cons.mp ht
  · cases t
    case reachHeld => exact ⟨hu.1, HoldPhase.noConfusion⟩
    all_goals cases hk
  · obtain hk | hk := List.mem_cons.mp hk
    · cases t
      case heldBoards => exact hu
      all_goals cases hk
    · have hq := quiet_of_kind hk
      have hline := handle_holdLine (s := u) hq (by rw [hu.1]; exact hl) hu.2
      exact ⟨((handle_undisturbed t u hq).mru_line hline).trans hu.1, handle_quiet_phase t u hq hu.2⟩

theorem stopExpiry_stopping {s : State} (ht : s.hld.stopTimer ≠ none) (hp : s.hld.phase = .stopping) : stopExpiry s =
    ({ s with hld := { s.hld with stopTimer := none, faultCondition := true } },
     .a41Hld :: if s.btk.v8.isNone then [.reachHeld] else []) := by
  rw [stopExpiry, if_pos (by rw [Option.isSome_iff_ne_none.mpr ht, hp]; rfl)]

theorem resumeExpiry_resuming {s : State} (ht : s.hld.resumeTimer ≠ none) (hp : s.hld.phase = .resuming) : resumeExpiry s =
    ({ s with hld := { s.hld with resumeTimer := none, faultCondition := true } }, [.a41Hld]) := by
  rw [resumeExpiry, if_pos (by rw [Option.isSome_iff_ne_none.mpr ht, hp]; rfl)]

theorem noMotionExpiry_running {s : State} (ht : s.btk.noMotionTimer ≠ none) : noMotionExpiry s =
    ({ s with btk := { s.btk with noMotionTimer := none, faultCondition := true } }, [.a41Btk false]) := by
  rw [noMotionExpiry, if_pos (Option.isSome_iff_ne_none.mpr ht)]

/-- The stop timer's expiry (R190). -/
theorem run_stopExpiry {s : State} (hp : s.hld.phase = .stopping) (hl : s.mru.line = .run ∨ s.mru.line = .draining)
    (hf : s.hld.faultCondition = true) {ts : List Task} (hts : ts = if s.btk.v8.isNone then [.reachHeld] else []) :
    (run s (.a41Hld :: ts)).mru = s.mru ∧ (run s (.a41Hld :: ts)).tbs = s.tbs
    ∧ (run s (.a41Hld :: ts)).btk.position = s.btk.position
    ∧ (raisesConveyorFault s → ((run s (.a41Hld :: ts)).acu.alarms[A 41]).raiseCycle = some s.lif.cycle)
    ∧ (s.btk.v8 ≠ none → (run s (.a41Hld :: ts)).hld.phase = .stopping)
    ∧ (s.btk.v8 = none → (run s (.a41Hld :: ts)).overrun = true ∨ AtHeld (run s (.a41Hld :: ts))) := by
  have hreach : Among reachingKinds (.a41Hld :: ts) := by
    rw [hts]
    split <;> rfl
  refine ⟨settle_reaching_mru _ s hreach hl (by rw [hp]; decide), ?_, ?_, fun h => ?_, fun h => ?_, fun h => ?_⟩
  · exact settle_spares .tbs (by decide) reachingKinds (by decide) (by decide) _ _ s hreach
  · refine (settle_position _ s fun t ht => ?_).1
    have hk := among_iff.mp hreach t ht
    revert hk
    cases t <;> simp [Task.kind, reachingKinds, heldKinds, quietKinds]
  · refine run_a41Hld_raised hf h fun t ht => ?_
    rw [hts] at ht
    split at ht
    · rw [List.mem_singleton.mp ht]
      simp [Task.kind, cycleKinds]
    · cases ht
  · have hnil : ts = [] := by rw [hts, if_neg (by rwa [Option.isNone_iff_eq_none])]
    rw [hnil]
    exact (settle_episode _ s (ts := [.a41Hld]) rfl (.inl hp)).phase.trans hp
  · have hlast : ts = [.reachHeld] := by rw [hts, h]; rfl
    rw [hlast]
    exact settle_reaches_held _ (ts := [.a41Hld]) s rfl

/-- Settles O58: the condition of A41 is the first hand-over of each event, and its hold link the first step of its raise. -/
theorem conveyorTimersRaiseTheFault : Obligations.ConveyorTimersRaiseTheFault := by
  intro s
  have hnext {t u : State} (h : t = u) : (Host.Outcome.next t : Host.Outcome State Fault Refusal) = .next u := congrArg _ h
  refine ⟨fun h => ?_, fun h => ?_, fun h => ?_, fun ht hm => ?_, fun ht hp hm hv => ?_, fun ht hp hm => ?_, fun ht hr => ?_,
    fun ht hp hl => ?_, fun ht hp hr => ?_⟩
  · exact hnext (by rw [noMotionExpiry, if_neg (by rw [h]; exact Bool.false_ne_true)]; rfl)
  · exact hnext (by rw [stopExpiry, if_neg (by rw [h]; exact Bool.false_ne_true)]; rfl)
  · exact hnext (by rw [resumeExpiry, if_neg (by rw [h]; exact Bool.false_ne_true)]; rfl)
  · exact hnext (by
      rw [noMotionExpiry_running ht]
      exact (takes_a41Btk_masked (s := { s with btk := { s.btk with noMotionTimer := none, faultCondition := true } }) hm).run
        (by decide))
  · refine hnext ?_
    rw [stopExpiry_stopping ht hp, if_neg (by rwa [Option.isNone_iff_eq_none])]
    exact (takes_a41Hld_masked (s := { s with hld := { s.hld with stopTimer := none, faultCondition := true } }) hm).run (by decide)
  · exact hnext (by
      rw [resumeExpiry_resuming ht hp]
      exact (takes_a41Hld_masked (s := { s with hld := { s.hld with resumeTimer := none, faultCondition := true } }) hm).run (by decide))
  · obtain ⟨u, hu⟩ : ∃ u : State, u = { s with btk := { s.btk with noMotionTimer := none, faultCondition := true } } := ⟨_, rfl⟩
    have hund : Undisturbed s u := by
      rw [hu]
      exact ⟨rfl, rfl, rfl, rfl, rfl, rfl, rfl, rfl, rfl, rfl, rfl, rfl, rfl, rfl⟩
    have hrun := run_noMotion (s := u) (by rw [hu]) (by rw [hu]; exact hr)
    rw [show u.lif.cycle = s.lif.cycle from by rw [hu], show u.tbs = s.tbs from by rw [hu], show u.hld = s.hld from by rw [hu],
      show lineTakesHolds u = lineTakesHolds s from by rw [hu]; rfl] at hrun
    exact ⟨run u [.a41Btk false], hnext (by rw [noMotionExpiry_running ht, hu]; rfl), hund.trans (run_undisturbed u _ rfl), hrun⟩
  · obtain ⟨u, hu⟩ : ∃ u : State, u = { s with hld := { s.hld with stopTimer := none, faultCondition := true } } := ⟨_, rfl⟩
    have hrun := run_stopExpiry (s := u) (by rw [hu]; exact hp) (by rw [hu]; exact (lineTakesHolds_iff s).mp hl) (by rw [hu]) rfl
    rw [show u.mru = s.mru from by rw [hu], show u.tbs = s.tbs from by rw [hu], show u.btk = s.btk from by rw [hu],
      show u.lif = s.lif from by rw [hu], show raisesConveyorFault u = raisesConveyorFault s from by rw [hu]; rfl] at hrun
    exact ⟨_, hnext (by rw [stopExpiry_stopping ht hp, ← hu]; rfl), hrun⟩
  · obtain ⟨u, hu⟩ : ∃ u : State, u = { s with hld := { s.hld with resumeTimer := none, faultCondition := true } } := ⟨_, rfl⟩
    have hund : Undisturbed s u := by
      rw [hu]
      exact ⟨rfl, rfl, rfl, rfl, rfl, rfl, rfl, rfl, rfl, rfl, rfl, rfl, rfl, rfl⟩
    have hfault : u.hld.faultCondition = true := by rw [hu]
    have hr' : raisesConveyorFault u := by rw [hu]; exact hr
    have hraised := run_a41Hld_raised (ts := []) hfault hr' (by simp)
    rw [show u.lif.cycle = s.lif.cycle from by rw [hu]] at hraised
    exact ⟨run u [.a41Hld], hnext (by rw [resumeExpiry_resuming ht hp, hu]; rfl), hund.trans (run_undisturbed u _ rfl), hraised,
      fun hlink hl => run_a41Hld_holds hfault hr' (by rw [hu]; exact hlink) (by rw [hu]; exact hl) (.inr (by rw [hu]; exact hp))⟩

end Sys2Proof.Machine
end

section
/-! The grace timers of the pumps and the fans (R146, R163, R164, R165). -/

namespace Sys2Proof.Machine

/-! ## The pumps (R146) -/

theorem pumpOf_setPump (s : State) (w : Wave) (x : Pump) : pumpOf (setPump s w x).pot w = x := by cases w <;> rfl

theorem setPump_setPump (s : State) (w : Wave) (x y : Pump) : setPump (setPump s w x) w y = setPump s w y := by cases w <;> rfl

theorem setPump_record (s : State) (w : Wave) (x : Pump) (o : OutIx) : outputRecord (setPump s w x) o = outputRecord s o := by
  cases w <;> rfl

/-- A pump whose grace timer has just expired has its fault condition formed from the command and the at-speed flag. -/
theorem handle_pumpFault_graceless (w : Wave) (s : State) {p : Pump} (hp : p.grace = none) :
    handle (.pumpFault w false) (setPump s w p) =
      (setPump s w { p with fault := decide (0 < (outputRecord s (pumpOutput w)).delivered) && !p.atSpeed },
       [.condition (A 25)
         ((setPump s w { p with fault := decide (0 < (outputRecord s (pumpOutput w)).delivered) && !p.atSpeed }).pot.chip.fault
          || (setPump s w { p with fault := decide (0 < (outputRecord s (pumpOutput w)).delivered) && !p.atSpeed }).pot.laminar.fault)
         false]) := by
  simp only [handle, pumpFault, pumpFaultValue, pumpOf_setPump, setPump_record, hp, Option.isNone_none, Bool.and_true, setPump_setPump]

theorem setPump_fault {w : Wave} {s : State} {x : Pump} (h : x.fault = true) :
    ((setPump s w x).pot.chip.fault || (setPump s w x).pot.laminar.fault) = true := by
  cases w <;> simp [setPump, h]

theorem pumpGraceExpiry_running {w : Wave} {s : State} (h : (pumpOf s.pot w).grace ≠ none) :
    pumpGraceExpiry w s = (setPump s w { pumpOf s.pot w with grace := none }, [.pumpFault w false]) :=
  if_pos (Option.isSome_iff_ne_none.mpr h)

/-! ## The conditions of a duct (R164) -/

theorem readsTooLow_iff (s : State) (i : SigIx) (m : Int) : readsTooLow s i m = decide ((s.sig[i]).freshness = .stale
    ∨ ((s.sig[i]).freshness = .fresh ∧ ((s.sig[i]).status ≠ some .good ∨ (s.sig[i]).lastGood.getD 0 < m))) := by
  unfold readsTooLow lastGood
  cases (s.sig[i]).freshness <;> simp [bne, beq_eq_decide]

/-- A duct condition once the grace timer is stopped. -/
def ductValue (s : State) (d : Duct) (delivered : Nat) : DuctCondition → Bool
  | .airflow => readsTooLow s (ductSignalOf d .airflow) (minimumAirflow s.tbs d)
  | .filter => usable s (ductSignalOf d .filter) && decide (maximumFilterPressure s.tbs d < lastGood s (ductSignalOf d .filter))
  | .fanFault => decide (0 < delivered) && readsTooLow s (ductSignalOf d .fanFault) (minimumFanSpeed s.tbs d)

theorem ductConditionValue_graceless {s : State} {d : Duct} (h : (ductOf s.exm d).grace = none) (c : DuctCondition) :
    ductConditionValue s d c = ductValue s d (ductOf s.exm d).fanDelivered c := by
  cases c <;> simp only [ductConditionValue, h, Option.isNone_none, Bool.true_and] <;> rfl

theorem ductValue_filter (s : State) (d : Duct) (n : Nat) : ductValue s d n .filter = decide ((s.sig[ductSignalOf d .filter]).freshness = .fresh
    ∧ (s.sig[ductSignalOf d .filter]).status = some .good
    ∧ maximumFilterPressure s.tbs d < (s.sig[ductSignalOf d .filter]).lastGood.getD 0) := by
  rw [Bool.eq_iff_iff]
  simp only [ductValue, usable, lastGood, Bool.and_eq_true, beq_iff_eq, decide_eq_true_iff, and_assoc]
  exact and_congr Iff.rfl (and_congr Iff.rfl decide_eq_true_iff)

/-- The duct record of a state in which the three conditions are being formed, and what stays meanwhile. -/
structure DuctForming (s : State) (d : Duct) (r : DuctRecord) (rest : List DuctCondition) (u : State) : Prop where
  exm : u.exm = (setDuct s d r).exm
  grace : r.grace = none
  sig : u.sig = s.sig
  tbs : u.tbs = s.tbs
  line : u.mru.line ≠ .unconfigured
  cycle : u.lif.cycle = s.lif.cycle
  waiting : ∀ c ∈ rest, u.acu.alarms[ductAlarm d c] = s.acu.alarms[ductAlarm d c]

theorem ductOf_setDuct (s : State) (d : Duct) (r : DuctRecord) : ductOf (setDuct s d r).exm d = r := by cases d <;> rfl

theorem setDuct_exm {s u : State} {d : Duct} {r : DuctRecord} (h : u.exm = (setDuct s d r).exm) (x : DuctRecord) :
    (setDuct u d x).exm = (setDuct s d x).exm := by
  cases d <;> simp only [setDuct] at h ⊢ <;> rw [h]

theorem setDuct_setDuct (s : State) (d : Duct) (r x : DuctRecord) : setDuct (setDuct s d r) d x = setDuct s d x := by cases d <;> rfl

theorem setDuctCondition_grace (r : DuctRecord) (c : DuctCondition) (v : Bool) : (setDuctCondition r c v).grace = r.grace := by
  cases c <;> rfl

theorem setDuctCondition_delivered (r : DuctRecord) (c : DuctCondition) (v : Bool) :
    (setDuctCondition r c v).fanDelivered = r.fanDelivered := by cases c <;> rfl

theorem ductOfSignal_of (d : Duct) (c : DuctCondition) : ductOfSignal (ductSignalOf d c) = some (d, c) := by
  cases d <;> cases c <;> decide

theorem ductAlarm_inj (d : Duct) {c e : DuctCondition} (h : ductAlarm d c = ductAlarm d e) : c = e := by
  revert h
  cases d <;> cases c <;> cases e <;> decide

theorem ductAlarm_level (d : Duct) (c : DuctCondition) : alarmKind (ductAlarm d c) = .level ∧ isPotAlarm (ductAlarm d c) = false := by
  cases d <;> cases c <;> decide

theorem readsTooLow_of_sig {s t : State} (h : t.sig = s.sig) (i : SigIx) (m : Int) : readsTooLow t i m = readsTooLow s i m := by
  unfold readsTooLow lastGood
  rw [h]

theorem usable_of_sig {s t : State} (h : t.sig = s.sig) (i : SigIx) : usable t i = usable s i := by rw [usable, usable, h]

theorem lastGood_of_sig {s t : State} (h : t.sig = s.sig) (i : SigIx) : lastGood t i = lastGood s i := by rw [lastGood, lastGood, h]

section
variable {s u : State} {d : Duct} {r : DuctRecord} {c : DuctCondition} {rest : List DuctCondition}
  (h : DuctForming s d r (c :: rest) u)
include h

theorem DuctForming.value : ductConditionValue u d c = ductValue s d r.fanDelivered c := by
  have hrecord : ductOf u.exm d = r := by rw [h.exm, ductOf_setDuct]
  have hcongr : ductValue u d r.fanDelivered c = ductValue s d r.fanDelivered c := by
    cases c <;> simp only [ductValue, readsTooLow_of_sig h.sig, usable_of_sig h.sig, lastGood_of_sig h.sig, h.tbs]
  rw [ductConditionValue_graceless (by rw [hrecord]; exact h.grace), hrecord, hcongr]

theorem DuctForming.handle : Machine.handle (.ductSignal (ductSignalOf d c)) u =
    (setDuct u d (setDuctCondition r c (ductValue s d r.fanDelivered c)),
     [.condition (ductAlarm d c) (ductValue s d r.fanDelivered c) true]) := by
  have hrecord : ductOf u.exm d = r := by rw [h.exm, ductOf_setDuct]
  simp only [Machine.handle, ductSignal, ductOfSignal_of, giveDuctCondition, if_neg h.line, h.value, hrecord]

/-- The state that the condition is given in. -/
theorem DuctForming.formed (v : Bool) : DuctForming s d (setDuctCondition r c v) (c :: rest) (setDuct u d (setDuctCondition r c v)) where
  exm := setDuct_exm h.exm _
  grace := (setDuctCondition_grace r c v).trans h.grace
  sig := ((setDuct_touches u d _).same .sig (by decide)).trans h.sig
  tbs := ((setDuct_touches u d _).same .tbs (by decide)).trans h.tbs
  line := by rw [show (setDuct u d _).mru = u.mru from (setDuct_touches u d _).same .mru (by decide)]; exact h.line
  cycle := by rw [show (setDuct u d _).lif = u.lif from (setDuct_touches u d _).same .lif (by decide)]; exact h.cycle
  waiting := by rw [show (setDuct u d _).acu = u.acu from (setDuct_touches u d _).same .acu (by decide)]; exact h.waiting

end

/-- A condition that is false, or whose alarm is masked, is given with nothing but admission to follow. -/
theorem takes_condition_false {s : State} {a : AlarmIx} (hk : alarmKind a = .level) (hp : isPotAlarm a = false) (e : Bool) :
    ∃ k t, k ≤ 3 ∧ Takes k [.condition a false e] s t ∧ ∃ r, GateOnly (setAlarm s a r) t := by
  by_cases hm : (s.tbs.alarms[a]).masked = true
  · refine ⟨1, s, by decide, .one (takeCondition_masked false e hm), s.acu.alarms[a], ?_⟩
    rw [setAlarm, vset_self]
    exact .refl s
  · have hstep : Machine.handle (.condition a false e) s = _ := takeCondition_unmasked false e (Bool.eq_false_iff.mpr hm) hk
    have hnone : potTold a true = [] := by
      rw [potTold, hp]
      rfl
    have hshort : ∃ k t, k ≤ 2 ∧ Takes k (changeTasks (s.tbs.alarms[a]).links a (s.acu.alarms[a]).state
        (levelNext s.tbs.alarms[a] (s.acu.alarms[a]).state (s.acu.alarms[a]).count false e).1)
        (setAlarm s a (conditionRecord a false e s)) t ∧ GateOnly (setAlarm s a (conditionRecord a false e s)) t := by
      unfold changeTasks
      split
      · exact ⟨0, _, by decide, .nil _, .refl _⟩
      · split
        · next hactive =>
          exfalso
          revert hactive
          cases (s.acu.alarms[a]).state <;> simp only [levelNext] <;> (repeat' split) <;> simp_all
        · split
          · rw [hnone]
            exact ⟨0, _, by decide, .nil _, .refl _⟩
          · split
            · exact takes_clear _ hp _
            · exact ⟨0, _, by decide, .nil _, .refl _⟩
    obtain ⟨k, t, hle, ht, hgate⟩ := hshort
    exact ⟨k + 1, t, by omega, .of_handle hstep ht, _, hgate⟩

theorem GateOnly.frame {s t : State} (h : GateOnly s t) : t.exm = s.exm ∧ t.sig = s.sig ∧ t.lif.cycle = s.lif.cycle := by
  obtain ⟨v, r, q, l, rfl⟩ := gateOnly_iff.mp h
  exact ⟨rfl, rfl, rfl⟩

/-- A false condition of a duct changes its record, its own alarm and the gate, and nothing else that the next one reads. -/
theorem DuctForming.takes_false {s u : State} {d : Duct} {r : DuctRecord} {c : DuctCondition} {rest : List DuctCondition}
    (h : DuctForming s d r (c :: rest) u) (hc : c ∉ rest) (hv : ductValue s d r.fanDelivered c = false) :
    ∃ k t, k ≤ 4 ∧ Takes k [.ductSignal (ductSignalOf d c)] u t ∧ DuctForming s d (setDuctCondition r c false) rest t := by
  obtain ⟨hlevel, hpot⟩ := ductAlarm_level d c
  obtain ⟨k, t, hk, ht, x, hgate⟩ := takes_condition_false (s := setDuct u d (setDuctCondition r c false)) hlevel hpot true
  have hformed := h.formed false
  obtain ⟨hexm, hsig, hcycle⟩ := hgate.frame
  refine ⟨k + 1, t, by omega, .of_handle (by rw [h.handle, hv]) ht, ⟨hexm.trans hformed.exm, hformed.grace, hsig.trans hformed.sig,
    hgate.tbs.trans hformed.tbs, by rw [hgate.mru]; exact hformed.line, hcycle.trans hformed.cycle, fun e he => ?_⟩⟩
  have hne : ductAlarm d c ≠ ductAlarm d e := fun k => hc (ductAlarm_inj d k ▸ he)
  rw [hgate.acu]
  exact (vset_other _ hne _).trans (hformed.waiting e (List.mem_cons_of_mem _ he))

/-- A condition of a duct whose alarm is masked. -/
theorem DuctForming.takes_masked {s u : State} {d : Duct} {r : DuctRecord} {c : DuctCondition} {rest : List DuctCondition}
    (h : DuctForming s d r (c :: rest) u) (hm : (s.tbs.alarms[ductAlarm d c]).masked = true) :
    Takes 2 [.ductSignal (ductSignalOf d c)] u (setDuct u d (setDuctCondition r c (ductValue s d r.fanDelivered c))) := by
  refine .of_handle h.handle (.one ?_)
  refine takeCondition_masked _ _ ?_
  rw [(h.formed _).tbs]
  exact hm

/-- The alarm of a duct condition can be raised at once. -/
def DuctRaisable (s : State) (d : Duct) (c : DuctCondition) : Prop :=
  (s.tbs.alarms[ductAlarm d c]).masked = false ∧ ((s.acu.alarms[ductAlarm d c]).state = .latched
    ∨ ((s.acu.alarms[ductAlarm d c]).state = .clear ∧ (s.tbs.alarms[ductAlarm d c]).delay = 0))

/-- A true condition of a duct raises its alarm. -/
theorem DuctForming.settle_true {s u : State} {d : Duct} {r : DuctRecord} {c : DuctCondition} {rest : List DuctCondition}
    (h : DuctForming s d r (c :: rest) u) (hv : ductValue s d r.fanDelivered c = true) (hr : DuctRaisable s d c) (n : Nat) {ts : List Task}
    (hts : ∀ t ∈ ts, t.kind ∉ cycleKinds) :
    ((settle (n + 2) (.ductSignal (ductSignalOf d c) :: ts) u).acu.alarms[ductAlarm d c]).raiseCycle = some s.lif.cycle := by
  have hformed := h.formed true
  obtain ⟨hmask, hstate⟩ := hr
  rw [settle_cons, h.handle, hv, ← hformed.cycle]
  refine settle_condition_raised ?_ (ductAlarm_level d c).1 ?_ n true hts
  · rw [hformed.tbs]
    exact hmask
  · rw [hformed.tbs, hformed.waiting c (List.mem_cons_self ..)]
    exact hstate

/-! ## The fans (R163) -/

theorem fanGraceOver_running {d : Duct} {s : State} (h : (ductOf s.exm d).grace ≠ none) :
    fanGraceOver d s = (setDuct s d { ductOf s.exm d with grace := none }, [.ductConditions d]) :=
  if_pos (Option.isSome_iff_ne_none.mpr h)

theorem ductConditions_tasks (d : Duct) (s : State) : handle (.ductConditions d) s =
    (s, [.ductSignal (ductSignalOf d .airflow), .ductSignal (ductSignalOf d .filter), .ductSignal (ductSignalOf d .fanFault)]) := rfl

theorem ductSignals_kinds {d : Duct} {cs : List DuctCondition} : ∀ t ∈ cs.map (fun c => Task.ductSignal (ductSignalOf d c)), t.kind ∉ cycleKinds := by
  intro t ht
  obtain ⟨c, -, rfl⟩ := List.mem_map.mp ht
  simp [Task.kind, cycleKinds]

section
variable {d : Duct} {s : State} {r : DuctRecord} (hr : r.grace = none) (hl : s.mru.line ≠ .unconfigured)
include hr hl

/-- The event of a fan's grace timer begins with its three conditions. -/
theorem ductForming_start : DuctForming s d r [.airflow, .filter, .fanFault] (setDuct s d r) where
  exm := rfl
  grace := hr
  sig := (setDuct_touches s d r).same .sig (by decide)
  tbs := (setDuct_touches s d r).same .tbs (by decide)
  line := by rw [show (setDuct s d r).mru = s.mru from (setDuct_touches s d r).same .mru (by decide)]; exact hl
  cycle := by rw [show (setDuct s d r).lif = s.lif from (setDuct_touches s d r).same .lif (by decide)]
  waiting := by rw [show (setDuct s d r).acu = s.acu from (setDuct_touches s d r).same .acu (by decide)]; exact fun _ _ => rfl

/-- With the alarms masked the three conditions are formed, and nothing else. -/
theorem run_duct_masked (hm : ∀ c, (s.tbs.alarms[ductAlarm d c]).masked = true) : run (setDuct s d r) [.ductConditions d] =
    setDuct s d { r with
      airflow := ductValue s d r.fanDelivered .airflow, filter := ductValue s d r.fanDelivered .filter,
      fanFault := ductValue s d r.fanDelivered .fanFault } := by
  have hmask {c : DuctCondition} {cs : List DuctCondition} {q : DuctRecord} {u : State} (h : DuctForming s d q (c :: cs) u) (hc : c ∉ cs) :
      DuctForming s d (setDuctCondition q c (ductValue s d q.fanDelivered c)) cs
        (setDuct u d (setDuctCondition q c (ductValue s d q.fanDelivered c))) := by
    obtain ⟨hexm, hgrace, hsig, htbs, hline, hcycle, hwaiting⟩ := h.formed (ductValue s d q.fanDelivered c)
    exact ⟨hexm, hgrace, hsig, htbs, hline, hcycle, fun e he => hwaiting e (List.mem_cons_of_mem _ he)⟩
  have hfirst := ductForming_start (d := d) hr hl
  have hsecond := hmask hfirst (by decide)
  have hthird := hmask hsecond (by decide)
  have htakes := ((hfirst.takes_masked (hm _)).append (hsecond.takes_masked (hm _))).append (hthird.takes_masked (hm _))
  rw [(Takes.of_handle (ductConditions_tasks d _) htakes).run (by decide)]
  simp only [setDuct_setDuct, setDuctCondition]

/-- The conditions of a duct, with the first that is true. -/
theorem run_duct : (ductValue s d r.fanDelivered .airflow = false → ductValue s d r.fanDelivered .filter = false →
      ductValue s d r.fanDelivered .fanFault = false →
      (run (setDuct s d r) [.ductConditions d]).exm = (setDuct s d { r with airflow := false, filter := false, fanFault := false }).exm)
    ∧ (ductValue s d r.fanDelivered .airflow = true → DuctRaisable s d .airflow →
      ((run (setDuct s d r) [.ductConditions d]).acu.alarms[ductAlarm d .airflow]).raiseCycle = some s.lif.cycle)
    ∧ (ductValue s d r.fanDelivered .airflow = false → ductValue s d r.fanDelivered .filter = true → DuctRaisable s d .filter →
      ((run (setDuct s d r) [.ductConditions d]).acu.alarms[ductAlarm d .filter]).raiseCycle = some s.lif.cycle)
    ∧ (ductValue s d r.fanDelivered .airflow = false → ductValue s d r.fanDelivered .filter = false →
      ductValue s d r.fanDelivered .fanFault = true → DuctRaisable s d .fanFault →
      ((run (setDuct s d r) [.ductConditions d]).acu.alarms[ductAlarm d .fanFault]).raiseCycle = some s.lif.cycle) := by
  have hfirst := ductForming_start (d := d) hr hl
  have hrun : run (setDuct s d r) [.ductConditions d] = settle 4294967295
      ([.ductSignal (ductSignalOf d .airflow)] ++ [DuctCondition.filter, .fanFault].map fun c => Task.ductSignal (ductSignalOf d c))
      (setDuct s d r) := by rw [run_cons, ductConditions_tasks]; rfl
  refine ⟨fun ha hf hn => ?_, fun ha h => ?_, fun ha hf h => ?_, fun ha hf hn h => ?_⟩
  · obtain ⟨k, u, hk, hu, hsecond⟩ := hfirst.takes_false (by decide) ha
    obtain ⟨l, v, hl, hv, hthird⟩ := hsecond.takes_false (by decide) hf
    obtain ⟨m, w, hm, hw, hend⟩ := hthird.takes_false (by decide) hn
    rw [(Takes.of_handle (ductConditions_tasks d _) ((hu.append hv).append hw)).run (by omega), hend.exm]
    rfl
  · rw [hrun]
    exact hfirst.settle_true ha h 4294967293 ductSignals_kinds
  · obtain ⟨k, u, hk, hu, hsecond⟩ := hfirst.takes_false (by decide) ha
    obtain ⟨n, hn⟩ : ∃ n, 4294967295 = n + 2 + k := ⟨4294967293 - k, by omega⟩
    rw [hrun, hn, hu]
    exact hsecond.settle_true hf h n (ductSignals_kinds (cs := [.fanFault]))
  · obtain ⟨k, u, hk, hu, hsecond⟩ := hfirst.takes_false (by decide) ha
    obtain ⟨l, v, hl, hv, hthird⟩ := hsecond.takes_false (by decide) hf
    obtain ⟨n, heq⟩ : ∃ n, 4294967295 = n + 2 + (l + k) := ⟨4294967293 - (l + k), by omega⟩
    have huv := hu.append hv
    rw [hrun, heq, show [Task.ductSignal (ductSignalOf d .airflow)] ++ ([DuctCondition.filter, .fanFault].map fun c =>
        Task.ductSignal (ductSignalOf d c)) = [Task.ductSignal (ductSignalOf d .airflow)] ++ [.ductSignal (ductSignalOf d .filter)]
        ++ [.ductSignal (ductSignalOf d .fanFault)] from rfl, huv]
    exact hthird.settle_true hn h n (by simp)

end

/-- While the line is UNCONFIGURED no condition of a duct is formed (R165). -/
theorem run_duct_unconfigured {d : Duct} {s : State} (h : s.mru.line = .unconfigured) : run s [.ductConditions d] = s := by
  have hone (c : DuctCondition) : Takes 1 [.ductSignal (ductSignalOf d c)] s s :=
    .one (by simp only [handle, ductSignal, ductOfSignal_of, giveDuctCondition, if_pos h])
  exact (Takes.of_handle (ductConditions_tasks d s) (((hone .airflow).append (hone .filter)).append (hone .fanFault))).run (by decide)

theorem setDuct_undisturbed (s : State) (d : Duct) (r : DuctRecord) : Undisturbed s (setDuct s d r) := by
  cases d <;> exact ⟨rfl, rfl, rfl, rfl, rfl, rfl, rfl, rfl, rfl, rfl, rfl, rfl, rfl, rfl⟩

/-- Settles O60: a false condition ends at once, so that the first true one is raised from the state at the expiry. -/
theorem graceTimersExpire : Obligations.GraceTimersExpire := by
  have hnext {t u : State} (h : t = u) : (Host.Outcome.next t : Host.Outcome State Fault Refusal) = .next u := congrArg _ h
  refine ⟨fun w s => ⟨fun h => ?_, fun h => ?_⟩, fun d s => ⟨fun h => ?_, fun h hl => ?_, fun h hl => ?_⟩⟩
  · exact hnext (by rw [pumpGraceExpiry, if_neg (by rw [h]; exact Bool.false_ne_true)]; rfl)
  · dsimp only
    have hexec : exec (.pumpGraceExpiry w) s = .next (run (setPump s w { pumpOf s.pot w with grace := none }) [.pumpFault w false]) :=
      hnext (by rw [pumpGraceExpiry_running h]; rfl)
    have hfault := handle_pumpFault_graceless w s (p := { pumpOf s.pot w with grace := none }) rfl
    refine ⟨fun hm => hexec.trans (hnext ?_), fun hf hm hr => ⟨_, hexec, ?_, ?_⟩⟩
    · refine (Takes.of_handle hfault (.one (takeCondition_masked _ _ ?_))).run (by decide)
      rw [setPump_tbs]
      exact hm
    · exact (setPump_undisturbed s w _).trans (run_undisturbed _ _ rfl)
    · rw [run_cons, hfault, setPump_fault hf, List.append_nil]
      refine (settle_condition_raised (a := A 25) ?_ rfl ?_ 4294967294 false (by simp)).trans (by rw [setPump_lif])
      · rw [setPump_tbs]
        exact hm
      · rw [setPump_tbs, setPump_acu]
        exact hr
  · exact hnext (by rw [fanGraceOver, if_neg (by rw [h]; exact Bool.false_ne_true)]; rfl)
  · refine hnext ?_
    rw [fanGraceOver_running h]
    exact run_duct_unconfigured (by rw [show (setDuct s d _).mru = s.mru from (setDuct_touches s d _).same .mru (by decide)]; exact hl)
  · dsimp only
    have hexec : exec (.fanGraceExpiry d) s = .next (run (setDuct s d { ductOf s.exm d with grace := none }) [.ductConditions d]) :=
      hnext (by rw [fanGraceOver_running h]; rfl)
    simp only [← readsTooLow_iff, ← ductValue_filter s d (ductOf s.exm d).fanDelivered]
    have hmasked := run_duct_masked (d := d) (r := { ductOf s.exm d with grace := none }) rfl hl
    have hrun := run_duct (d := d) (r := { ductOf s.exm d with grace := none }) rfl hl
    refine ⟨fun hm => hexec.trans (hnext (hmasked hm)), _, hexec, (setDuct_undisturbed s d _).trans (run_undisturbed _ _ rfl), ?_⟩
    obtain ⟨hnone, hairflow, hfilter, hfan⟩ := hrun
    refine ⟨fun ha hf hn => ?_, hairflow, hfilter, hfan⟩
    rw [ha, hf, hn]
    exact hnone ha hf hn

end Sys2Proof.Machine
end

section
/-! HOLD (R185, R186, R195): what an episode that begins silences. -/

namespace Sys2Proof.Machine

/-! ## Who changes an automatic command (R25) -/

/-- Only its own command changes the automatic command of an output that is no valve. -/
theorem handle_automatic {t : Task} (s : State) {o : OutIx} (ho : ∀ n, valveOutput n ≠ o) (hq : quiet t = true)
    (ht : ∀ v, t ≠ .setAutomatic o v) : (outputRecord (handle t s).1 o).automatic = (outputRecord s o).automatic := by
  have hform (p : OutIx) (u : State) : (outputRecord (formPure p u) o).automatic = (outputRecord u o).automatic := by
    by_cases hp : p = o
    · subst hp
      by_cases h21 : p = O 21
      · rw [formPure, if_pos (.inl h21)]
      · rw [formPure_record_same u h21]
    · rw [formPure_record_other u hp]
  have hauto (p : OutIx) (v : Nat) (u : State) (hp : p ≠ o) :
      (outputRecord (setAutomatic p v u).1 o).automatic = (outputRecord u o).automatic :=
    (hform p _).trans (by rw [outputRecord_set_other _ _ hp])
  have hrecords {u : State} (h : u.out.records = s.out.records) : (outputRecord u o).automatic = (outputRecord s o).automatic := by
    rw [outputRecord, outputRecord, h]
  by_cases hout : Block.out ∈ touched t
  · cases t
    case setAutomatic p v =>
      refine hauto p v s ?_
      rintro rfl
      exact ht v rfl
    case formDelivered p => exact hform p s
    case handDelivered p =>
      simp only [handle, handDelivered]
      (repeat' split)
      · exact hrecords (handLastOperation_records s)
      · rw [outputRecord, handCommand_records]
        exact hform p s
      · exact hform p s
    case directClose n => exact hauto (valveOutput n) 0 { s with lif := withdraw (valveOutput n) s.lif } (ho n)
    case activate g x =>
      by_cases h : (groupRecord s g).active = true
      · rw [show handle (.activate g x) s = _ from activateGroup_active h]
      · rw [show (handle (.activate g x) s).1 = _ from activateGroup_inactive (Bool.eq_false_iff.mpr h)]
        refine List.foldlRecOn (motive := fun t : State => (outputRecord t o).automatic = (outputRecord s o).automatic) _ _ rfl
          fun t ht p _ => ?_
        by_cases hp : p = o
        · subst hp
          rw [outputRecord_set_same]
          exact ht
        · rw [outputRecord_set_other _ _ hp]
          exact ht
    case potGroup g => exact hrecords (potGroup_records g s)
    case feedEvaluate => exact hrecords (feedEvaluate_records s)
    case feederRestart => exact hrecords (feederRestart_records s)
    case releasePumps =>
      simp only [handle, releasePumps]
      by_cases h18 : O 18 = o
      · subst h18
        rw [outputRecord_set_same, outputRecord_set_other _ _ (by decide)]
      · rw [outputRecord_set_other _ _ h18]
        by_cases h17 : O 17 = o
        · subst h17
          rw [outputRecord_set_same]
        · rw [outputRecord_set_other _ _ h17]
    case flxEndingCloses | flxTakeEdges => cases hq
    all_goals simp [touched] at hout
  · exact hrecords (by rw [(handle_touches t s).same .out hout])

/-- The origins of an automatic command among the quiet hand-overs (R38, R72, R118, R144, R162). -/
theorem handle_commands {t : Task} {s : State} (hq : quiet t = true) {o : OutIx} {v : Nat} (h : Task.setAutomatic o v ∈ (handle t s).2) :
    (t = .admission ∧ o = O 20) ∨ (t = .conveyor ∧ o = O 19 ∧ v = conveyorValue s)
    ∨ (∃ g, t = .tleGroup g ∧ ∃ l, o = heaterOutput l) ∨ (∃ w, t = .pumpCommand w ∧ o = pumpOutput w ∧ v = pumpValue s w)
    ∨ ∃ d, t = .fanCommand d ∧ o = fanOutput d := by
  have hk : TaskKind.setAutomatic ∈ emitted t.kind := among_iff.mp (handle_emits t s) _ h
  cases t
  case admission =>
    simp only [handle, admission] at h
    split at h
    · cases h
    · exact .inl ⟨rfl, (Task.setAutomatic.inj (List.mem_singleton.mp h)).1⟩
  case conveyor => exact .inr (.inl ⟨rfl, Task.setAutomatic.inj (List.mem_singleton.mp h)⟩)
  case tleGroup g =>
    simp only [handle, tleGroup] at h
    split at h
    · obtain ⟨l, -, hl⟩ := List.mem_map.mp h
      exact .inr (.inr (.inl ⟨g, rfl, l, (Task.setAutomatic.inj hl).1.symm⟩))
    · cases h
  case pumpCommand w =>
    simp only [handle, pumpCommand, potActs] at h
    split at h
    · cases h
    · exact .inr (.inr (.inr (.inl ⟨w, rfl, Task.setAutomatic.inj (List.mem_singleton.mp h)⟩)))
  case fanCommand d =>
    simp only [handle, fanCommand] at h
    split at h
    · cases h
    · exact .inr (.inr (.inr (.inr ⟨d, rfl, (Task.setAutomatic.inj (List.mem_singleton.mp h)).1⟩)))
  case loopArrival | loopSilent => cases hq
  all_goals exact absurd hk (by simp only [Task.kind]; decide)

/-! ## What an episode silences -/

/-- The line is stopped in an episode. -/
structure Stopped (s : State) : Prop where
  line : s.mru.line = .run ∨ s.mru.line = .draining
  phase : s.hld.phase = .stopping

theorem Stopped.next {t : Task} {s : State} (hq : quiet t = true) (h : Stopped s) : Stopped (handle t s).1 := by
  obtain ⟨hl, hp⟩ := h
  exact ⟨by rw [handle_holdLine hq hl (by rw [hp]; decide)]; exact hl, (handle_episode hq (.inl hp)).phase.trans hp⟩

theorem Stopped.active {s : State} (h : Stopped s) : ¬potIdle s = true := by
  rw [potIdle, beq_iff_eq]
  obtain hl | hl := h.line <;> rw [hl] <;> decide

/-- The output is commanded 0 by the hand-over `cmd` while an episode stops the line, and by no other. -/
structure SilencedBy (o : OutIx) (cmd : Task) : Prop where
  free : o ≠ O 21
  valve : ∀ n, valveOutput n ≠ o
  told : ∀ s, cmd ∈ (handle .phaseTold s).2
  commands : ∀ s, Stopped s → (handle cmd s).2 = [.setAutomatic o 0]
  only : ∀ t s v, quiet t = true → Task.setAutomatic o v ∈ (handle t s).2 → t = cmd

/-- The output's automatic command is 0, or about to be. -/
structure Silenced (o : OutIx) (cmd : Task) (ts : List Task) (s : State) : Prop where
  waiting : ∀ v, Task.setAutomatic o v ∈ ts → v = 0
  value : (outputRecord s o).automatic = 0 ∨ Task.setAutomatic o 0 ∈ ts ∨ cmd ∈ ts ∨ Task.phaseTold ∈ ts

theorem Silenced.next {o : OutIx} {cmd : Task} (hb : SilencedBy o cmd) {t : Task} {ts : List Task} {s : State} (hq : quiet t = true)
    (hs : Stopped s) (h : Silenced o cmd (t :: ts) s) : Silenced o cmd ((handle t s).2 ++ ts) (handle t s).1 := by
  obtain ⟨hwaiting, hvalue⟩ := h
  refine ⟨fun v hv => ?_, ?_⟩
  · obtain hv | hv := List.mem_append.mp hv
    · have hcmd := hb.only t s v hq hv
      rw [hcmd, hb.commands s hs] at hv
      exact (Task.setAutomatic.inj (List.mem_singleton.mp hv)).2
    · exact hwaiting v (List.mem_cons_of_mem _ hv)
  · by_cases hset : ∃ v, t = .setAutomatic o v
    · obtain ⟨v, rfl⟩ := hset
      obtain rfl := hwaiting v (List.mem_cons_self ..)
      exact .inl (setAutomatic_automatic hb.free 0 s)
    · obtain hvalue | hvalue | hvalue | hvalue := hvalue
      · exact .inl ((handle_automatic s hb.valve hq fun v hv => hset ⟨v, hv⟩).trans hvalue)
      · obtain hvalue | hvalue := List.mem_cons.mp hvalue
        · exact absurd ⟨0, hvalue.symm⟩ hset
        · exact .inr (.inl (List.mem_append_right _ hvalue))
      · obtain hvalue | hvalue := List.mem_cons.mp hvalue
        · refine .inr (.inl (List.mem_append_left _ ?_))
          rw [← hvalue, hb.commands s hs]
          exact List.mem_singleton_self _
        · exact .inr (.inr (.inl (List.mem_append_right _ hvalue)))
      · obtain hvalue | hvalue := List.mem_cons.mp hvalue
        · refine .inr (.inr (.inl (List.mem_append_left _ ?_)))
          rw [← hvalue]
          exact hb.told s
        · exact .inr (.inr (.inr (List.mem_append_right _ hvalue)))

theorem valveOutput_ne : ∀ (n : NozzleIx) (o : OutIx), 16 ≤ o.val → valveOutput n ≠ o := by decide

theorem heaterOutput_ne : ∀ (l : LoopIx) (o : OutIx), 8 ≤ o.val → heaterOutput l ≠ o := by decide

theorem phaseTold_tasks (s : State) : ∃ ts, (handle .phaseTold s).2 =
    [.conveyor, .admission, .noMotion, .flxForcing, .phmPhase, .pumpCommand .chip, .pumpCommand .laminar] ++ ts := ⟨_, rfl⟩

theorem conveyor_silenced : SilencedBy (O 19) .conveyor where
  free := by decide
  valve := fun n => valveOutput_ne n _ (by decide)
  told := fun s => by
    obtain ⟨ts, hts⟩ := phaseTold_tasks s
    rw [hts]
    simp
  commands := fun s hs => by
    have hzero : conveyorValue s = 0 := if_neg fun k => by
      obtain ⟨-, hp⟩ := k
      rw [hs.phase] at hp
      obtain hp | hp := hp <;> cases hp
    rw [show (handle .conveyor s).2 = [.setAutomatic (O 19) (conveyorValue s)] from rfl, hzero]
  only := fun t s v hq h => by
    obtain ⟨-, ho⟩ | ⟨rfl, -⟩ | ⟨g, -, l, ho⟩ | ⟨w, -, ho, -⟩ | ⟨d, -, ho⟩ := handle_commands hq h
    · exact absurd ho (by decide)
    · rfl
    · exact absurd ho.symm (heaterOutput_ne l _ (by decide))
    · cases w <;> exact absurd ho (by decide)
    · cases d <;> exact absurd ho (by decide)

theorem pump_silenced (w : Wave) : SilencedBy (pumpOutput w) (.pumpCommand w) where
  free := by cases w <;> decide
  valve := fun n => valveOutput_ne n _ (by cases w <;> decide)
  told := fun s => by
    obtain ⟨ts, hts⟩ := phaseTold_tasks s
    rw [hts]
    cases w <;> simp
  commands := fun s hs => by
    have hno : pumpsRun s = false := by
      rw [pumpsRun, hs.phase]
      simp
    have hzero : pumpValue s w = 0 := if_neg (by rw [hno]; exact Bool.false_ne_true)
    have hstep : (pumpCommand w s).2 = [.setAutomatic (pumpOutput w) (pumpValue s w)] := by
      rw [pumpCommand, potActs, if_neg hs.active]
    rw [show (handle (.pumpCommand w) s).2 = _ from hstep, hzero]
  only := fun t s v hq h => by
    obtain ⟨-, ho⟩ | ⟨-, ho, -⟩ | ⟨g, -, l, ho⟩ | ⟨x, rfl, ho, -⟩ | ⟨d, -, ho⟩ := handle_commands hq h
    · cases w <;> exact absurd ho (by decide)
    · cases w <;> exact absurd ho (by decide)
    · exact absurd ho.symm (heaterOutput_ne l _ (by cases w <;> decide))
    · cases w <;> cases x <;> first | rfl | exact absurd ho (by decide)
    · cases w <;> cases d <;> exact absurd ho (by decide)

/-- FLX forces the nozzles closed, or is about to (R100). -/
def Forces (ts : List Task) (s : State) : Prop := s.flx.forcing = true ∨ Task.flxForcing ∈ ts ∨ Task.phaseTold ∈ ts

theorem flxForcing_value (s : State) : (flxForcing s).1.flx.forcing = forcingHolds s := by
  unfold flxForcing
  dsimp only
  split
  · next h => exact (Bool.and_eq_true_iff.mp h).1.symm
  · rfl

theorem flxRework_forcing (n : BoardNo) (s : State) : (flxRework n s).1.flx.forcing = s.flx.forcing := by
  unfold flxRework
  dsimp only
  split <;> rfl

theorem Forces.next {t : Task} {ts : List Task} {s : State} (hq : quiet t = true) (hs : Stopped s) (h : Forces (t :: ts) s) :
    Forces ((handle t s).2 ++ ts) (handle t s).1 := by
  have hholds : forcingHolds s = true := by
    rw [forcingHolds, hs.phase]
    simp
  obtain h | h | h := h
  · refine .inl ?_
    by_cases ht : Block.flx ∈ touched t
    · cases t
      case flxForcing => exact (flxForcing_value s).trans hholds
      case flxRework n => exact (flxRework_forcing n s).trans h
      all_goals first | exact absurd hq Bool.false_ne_true | simp [touched] at ht
    · rw [show (handle t s).1.flx = s.flx from (handle_touches t s).same .flx ht, h]
  · obtain rfl | h := List.mem_cons.mp h
    · exact .inl ((flxForcing_value s).trans hholds)
    · exact .inr (.inl (List.mem_append_right _ h))
  · obtain rfl | h := List.mem_cons.mp h
    · obtain ⟨us, hus⟩ := phaseTold_tasks s
      exact .inr (.inl (by rw [hus]; simp))
    · exact .inr (.inr (List.mem_append_right _ h))

/-- PHM knows of the stop, or is about to be told (R130). -/
def PhaseKnown (ts : List Task) (s : State) : Prop := s.phm.phase = .stopping ∨ Task.phmPhase ∈ ts ∨ Task.phaseTold ∈ ts

theorem PhaseKnown.next {t : Task} {ts : List Task} {s : State} (hq : quiet t = true) (hs : Stopped s) (h : PhaseKnown (t :: ts) s) :
    PhaseKnown ((handle t s).2 ++ ts) (handle t s).1 := by
  obtain h | h | h := h
  · refine .inl ?_
    by_cases ht : Block.phm ∈ touched t
    · cases t
      case phmPhase => exact hs.phase
      case phmDecide => exact h
      all_goals first | exact absurd hq Bool.false_ne_true | simp [touched] at ht
    · rw [show (handle t s).1.phm = s.phm from (handle_touches t s).same .phm ht, h]
  · obtain rfl | h := List.mem_cons.mp h
    · exact .inl hs.phase
    · exact .inr (.inl (List.mem_append_right _ h))
  · obtain rfl | h := List.mem_cons.mp h
    · obtain ⟨us, hus⟩ := phaseTold_tasks s
      exact .inr (.inl (by rw [hus]; simp))
    · exact .inr (.inr (List.mem_append_right _ h))

/-- What an episode that begins silences, done or waiting. -/
structure Stopping (ts : List Task) (s : State) : Prop where
  quiet : ts.all quiet = true
  stopped : Stopped s
  conveyor : Silenced (O 19) .conveyor ts s
  chip : Silenced (O 17) (.pumpCommand .chip) ts s
  laminar : Silenced (O 18) (.pumpCommand .laminar) ts s
  forces : Forces ts s
  known : PhaseKnown ts s

theorem Stopping.next {t : Task} {ts : List Task} {s : State} (h : Stopping (t :: ts) s) : Stopping ((handle t s).2 ++ ts) (handle t s).1 := by
  obtain ⟨hquiet, hs, hconveyor, hchip, hlaminar, hforces, hknown⟩ := h
  obtain ⟨hq, hrest⟩ : Machine.quiet t = true ∧ ts.all Machine.quiet = true := by simpa using hquiet
  exact ⟨all_quiet_append (handle_quiet t s hq) hrest, hs.next hq, hconveyor.next conveyor_silenced hq hs,
    hchip.next (pump_silenced .chip) hq hs, hlaminar.next (pump_silenced .laminar) hq hs, hforces.next hq hs, hknown.next hq hs⟩

/-- The conveyor and the pumps are commanded 0, the nozzles are forced, and the zones go to their standby setpoints. -/
def Silent (s : State) : Prop :=
  (outputRecord s (O 19)).automatic = 0 ∧ s.flx.forcing = true
    ∧ (∀ z : ZoneIx, zoneTargetNow s z = standbySetpoint s.tbs (zoneLoop z) ∧ zoneFeedforwardNow s z = 0)
    ∧ (outputRecord s (O 17)).automatic = 0 ∧ (outputRecord s (O 18)).automatic = 0

theorem zones_standby {s : State} (h : s.phm.phase = .stopping) (z : ZoneIx) :
    zoneTargetNow s z = standbySetpoint s.tbs (zoneLoop z) ∧ zoneFeedforwardNow s z = 0 := by
  have hno : servesRecipes s.phm = false := by
    rw [servesRecipes, h]
    rfl
  unfold zoneTargetNow zoneFeedforwardNow
  rw [hno]
  exact ⟨by split <;> rfl, by split <;> rfl⟩

theorem Stopping.silent {s : State} (h : Stopping [] s) : Silent s := by
  obtain ⟨-, -, hconveyor, hchip, hlaminar, hforces, hknown⟩ := h
  exact ⟨by simpa using hconveyor.value, by simpa [Forces] using hforces, zones_standby (by simpa [PhaseKnown] using hknown),
    by simpa using hchip.value, by simpa using hlaminar.value⟩

theorem Stopping.settled (n : Nat) {ts : List Task} {s : State} (h : Stopping ts s) :
    (settle n ts s).overrun = true ∨ Silent (settle n ts s) :=
  settle_holds (I := Stopping) (P := fun u => u.overrun = true ∨ Silent u) (fun _ _ _ hI => hI.next) (fun _ hI => .inr hI.silent)
    (fun _ _ _ => .inl rfl) n ts s h

/-! ## HOLD (R185, R186) -/

theorem newEpisode_tasks (c : Cause) (s : State) : (newEpisode c s).2 = (caughtBoards s).map Task.dispositionTold ++ [.phaseTold] := rfl

theorem newEpisode_stopping {c : Cause} {s : State} (hl : s.mru.line = .run ∨ s.mru.line = .draining) :
    Stopping (newEpisode c s).2 (newEpisode c s).1 := by
  have hno : ∀ o v, Task.setAutomatic o v ∉ (newEpisode c s).2 := by
    intro o v h
    rw [newEpisode_tasks] at h
    simp at h
  have htold : Task.phaseTold ∈ (newEpisode c s).2 := by
    rw [newEpisode_tasks]
    simp
  exact ⟨all_quiet_append (all_quiet_map _ (fun _ => rfl) _) rfl, ⟨hl, rfl⟩, ⟨fun v h => absurd h (hno _ v), .inr (.inr (.inr htold))⟩,
    ⟨fun v h => absurd h (hno _ v), .inr (.inr (.inr htold))⟩, ⟨fun v h => absurd h (hno _ v), .inr (.inr (.inr htold))⟩,
    .inr (.inr htold), .inr (.inr htold)⟩

theorem newEpisode_undisturbed (c : Cause) (s : State) : Undisturbed s (newEpisode c s).1 :=
  ⟨rfl, rfl, rfl, rfl, rfl, rfl, newEpisode_identity c s, rfl, rfl, rfl, rfl, rfl, rfl, rfl⟩

theorem newEpisode_train (c : Cause) (s : State) : (newEpisode c s).1.btk.train = s.btk.train.map capturedBoard := rfl

theorem capturedBoard_holds (b : Board) : (capturedBoard b).holds = min 255 (b.holds + 1) := by
  unfold capturedBoard
  dsimp only
  split <;> rfl

theorem capturedBoard_contact {b : Board} (h : b.wave = .inContact) :
    (capturedBoard b).disposition = .rework ∧ (capturedBoard b).defects &&& 16 = 16 := by
  have hc : caughtInWave b = true := by
    rw [caughtInWave, h]
    rfl
  unfold capturedBoard
  rw [if_pos hc]
  refine ⟨rfl, ?_⟩
  dsimp only [defectBit]
  ext i hi
  simp only [BitVec.getElem_and, BitVec.getElem_or]
  cases b.defects[i] <;> cases (16 : Byte)[i] <;> rfl

theorem marked_holds : ∀ {l m : List Board}, List.Forall₂ Marked l m → m.map (·.holds) = l.map (·.holds)
  | _, _, .nil => rfl
  | _, _, .cons h hs => by rw [List.map_cons, List.map_cons, h.holds, marked_holds hs]

theorem marked_at {l m : List Board} (h : List.Forall₂ Marked l m) {i : Nat} {b c : Board} (hb : l[i]? = some b) (hc : m[i]? = some c) :
    Marked b c := by
  obtain ⟨hi, rfl⟩ := List.getElem?_eq_some_iff.mp hb
  obtain ⟨hj, rfl⟩ := List.getElem?_eq_some_iff.mp hc
  exact (List.forall₂_iff_get.mp h).2 i hi hj

theorem replyData_hold {t : State} {l : LineState} {e : Word16} (hl : t.mru.line = l) (hp : t.hld.phase = .stopping) (he : t.hld.episode = e) :
    replyData (holdBytes t ++ [(9, 0)]) = replyData ([(5, lineStateCode l), (6, 1)] ++ wordAt 7 e.toNat ++ [(9, 0)]) := by
  rw [holdBytes, lineByte, hl, hp, he]
  rfl

/-- Settles O49: the episode is captured first, and what it silences waits behind it. -/
theorem holdBeginsAnEpisode : Obligations.HoldBeginsAnEpisode := by
  intro r s ha hl hp
  have hstart : handle (.holdCause (.request r.src)) s = newEpisode (.request r.src) s :=
    holdCause_begins _ ((lineTakesHolds_iff s).mpr hl) hp
  have hquiet : (newEpisode (.request r.src) s).2.all quiet = true := all_quiet_append (all_quiet_map _ (fun _ => rfl) _) rfl
  have hrun : run s [.holdCause (.request r.src)] = settle 4294967295 (newEpisode (.request r.src) s).2 (newEpisode (.request r.src) s).1 := by
    rw [run_cons, hstart, List.append_nil]
  have hkept := settle_episode 4294967295 (newEpisode (.request r.src) s).1 hquiet (.inl rfl)
  have hmru : (settle 4294967295 (newEpisode (.request r.src) s).2 (newEpisode (.request r.src) s).1).mru = s.mru :=
    settle_holdLine _ _ hquiet hl HoldPhase.noConfusion
  have hmarked := settle_marked 4294967295 (newEpisode (.request r.src) s).1 hquiet
    (fun t ht => by
      rw [newEpisode_tasks] at ht
      obtain ht | ht := List.mem_append.mp ht
      · obtain ⟨n, -, rfl⟩ := List.mem_map.mp ht
        exact TaskKind.noConfusion
      · rw [List.mem_singleton.mp ht]
        exact TaskKind.noConfusion) (.inl rfl)
  have hsilent := (newEpisode_stopping (c := .request r.src) hl).settled 4294967295
  have hund := (newEpisode_undisturbed (.request r.src) s).trans (settle_undisturbed 4294967295 _ hquiet)
  obtain ⟨x, hx, hframe⟩ := hkept.record _ rfl
  have hphase := hkept.phase
  have hepisode := hkept.episode
  have hstill := hkept.still
  have hstop := hkept.stop
  have hresume := hkept.resume
  rw [newEpisode_train] at hmarked
  generalize ht : settle 4294967295 (newEpisode (.request r.src) s).2 (newEpisode (.request r.src) s).1 = t
    at hrun hmru hmarked hsilent hund hx hphase hepisode hstill hstop hresume
  refine ⟨t, ?_, hund, hmru, hphase, hepisode, hstill, hstop, hresume,
    ⟨x, hx, hframe.episode, hframe.primary, hframe.entry, hframe.stop, hframe.locked rfl, hframe.lines.trans ?_⟩, ?_,
    fun i b b' hb hb' hw => ?_, hsilent⟩
  · have hbegins : beginsEpisode s.hld.phase = true := by obtain hp | hp := hp <;> rw [hp] <;> rfl
    rw [exec_accepted (c := .hold r) rfl ha, show decideByCode (9 : Word16).toNat r s = decideHold r s from rfl, decideHold,
      inHoldLines_of _ hl, answer, hrun, hbegins, if_pos rfl]
    dsimp only
    rw [replyData_hold (congrArg Mru.line hmru) hphase hepisode]
    rfl
  · rw [List.map_map]
    rfl
  · rw [marked_holds hmarked, List.map_map]
    exact List.map_congr_left fun b _ => capturedBoard_holds b
  · have hm := marked_at hmarked (b := capturedBoard b) (by rw [List.getElem?_map, hb]; rfl) hb'
    obtain ⟨hrework, hbit⟩ := capturedBoard_contact hw
    exact ⟨hm.rework hrework, hm.defects _ hbit⟩

end Sys2Proof.Machine
end

section
/-! The gauge (R151, R152): the level window, the third smallest distance, and the level's three alarms. -/

namespace Sys2Proof.Machine

/-! ## The third smallest of five distances -/

theorem insertRising_eq (x : Int) (l : List Int) : insertRising x l = l.orderedInsert (· ≤ ·) x := by
  induction l with
  | nil => rfl
  | cons y ys ih => simp only [insertRising, List.orderedInsert, ih]

theorem foldr_insertRising (l : List Int) : l.foldr insertRising [] = l.insertionSort (· ≤ ·) := by
  rw [show insertRising = List.orderedInsert (· ≤ ·) from funext fun x => funext (insertRising_eq x)]
  rfl

/-- The middle of five rising distances has at most two below it and at least three at or below it. -/
theorem middle_of_rising {l : List Int} (hl : l.length = 5) (hr : l.Pairwise (· ≤ ·)) : ∃ d ∈ l, l[2]? = some d
    ∧ (l.filter fun x => decide (x < d)).length ≤ 2 ∧ 3 ≤ (l.filter fun x => decide (x ≤ d)).length := by
  obtain ⟨x0, x1, x2, x3, x4, rfl⟩ : ∃ x0 x1 x2 x3 x4, l = [x0, x1, x2, x3, x4] := by
    match l, hl with
    | [x0, x1, x2, x3, x4], _ => exact ⟨x0, x1, x2, x3, x4, rfl⟩
  simp only [List.pairwise_cons, List.mem_cons, List.not_mem_nil, or_false, forall_eq_or_imp, forall_eq] at hr
  obtain ⟨⟨-, h02, -⟩, ⟨h12, -⟩, ⟨h23, h24⟩, -⟩ := hr
  refine ⟨x2, by simp, rfl, ?_, ?_⟩
  · simp only [List.filter_cons, List.filter_nil, Int.lt_irrefl, decide_false, Int.not_lt.mpr h23, Int.not_lt.mpr h24]
    (repeat' split) <;> simp_all
  · simp only [List.filter_cons, List.filter_nil, h02, h12, decide_true, if_true, Int.le_refl, List.length_cons]
    omega

theorem thirdSmallest_of_five {w : List Int} (h : w.length = 5) : ∃ d ∈ w, thirdSmallest w = some d
    ∧ (w.filter fun x => decide (x < d)).length ≤ 2 ∧ 3 ≤ (w.filter fun x => decide (x ≤ d)).length := by
  have hperm := List.perm_insertionSort (· ≤ ·) w
  obtain ⟨d, hd, hmid, hlow, hhigh⟩ := middle_of_rising (hperm.length_eq.trans h) (List.pairwise_insertionSort (· ≤ ·) w)
  refine ⟨d, hperm.mem_iff.mp hd, ?_, ?_, ?_⟩
  · rw [thirdSmallest, if_pos h, foldr_insertRising, hmid]
  · rwa [← (hperm.filter _).length_eq]
  · rwa [← (hperm.filter _).length_eq]

theorem levelOf_other {t : Tbs} {w : List Int} (h : w.length ≠ 5) : levelOf t w = none := by
  rw [levelOf, thirdSmallest, if_neg h]
  rfl

theorem pushDistance_eq (w : List Int) (d : Int) : pushDistance w d = (if w.length < 5 then w else w.drop 1) ++ [d] := by
  unfold pushDistance
  dsimp only
  rw [List.length_append, List.length_singleton]
  split
  · rw [if_neg (by omega), List.drop_append_of_le_length (by omega)]
  · rw [if_pos (by omega)]

/-! ## The three alarms of the level -/

/-- The condition that the level gives each of its alarms (R152). -/
def levelValue (a : AlarmIx) (t : Tbs) (level : Option Int) : Bool :=
  if a = A 20 then level.any fun m => decide (m < levelLL t)
  else if a = A 21 then level.any fun m => decide (levelHH t < m)
  else level.isNone

def levelAlarms : List AlarmIx := [A 20, A 21, A 22]

theorem levelAlarm_level : ∀ a ∈ levelAlarms, alarmKind a = .level := by decide

theorem levelConditions_gives {s : State} {e : Bool} {t : Task} (h : t ∈ (levelConditions e s).2) :
    ∃ a ∈ levelAlarms, t = .condition a (levelValue a s.tbs s.pot.level) e := by
  have h' : t = .condition (A 20) (levelLowLow s) e ∨ t = .condition (A 21) (levelHighHigh s) e
      ∨ t = .condition (A 22) (levelUnknown s) e := by simpa [levelConditions] using h
  obtain rfl | rfl | rfl := h'
  · exact ⟨A 20, by decide, rfl⟩
  · exact ⟨A 21, by decide, rfl⟩
  · exact ⟨A 22, by decide, rfl⟩

theorem levelConditions_all {a : AlarmIx} (ha : a ∈ levelAlarms) (e : Bool) (s : State) :
    Task.condition a (levelValue a s.tbs s.pot.level) e ∈ (levelConditions e s).2 := by
  have ha' : a = A 20 ∨ a = A 21 ∨ a = A 22 := by simpa [levelAlarms] using ha
  obtain rfl | rfl | rfl := ha'
  · exact List.mem_cons_self ..
  · exact List.mem_cons_of_mem _ (List.mem_cons_self ..)
  · exact List.mem_cons_of_mem _ (List.mem_cons_of_mem _ (List.mem_cons_self ..))

theorem givers_of_levelAlarm {a : AlarmIx} (ha : a ∈ levelAlarms) {k : TaskKind} (h : a ∈ givenAlarms k) : k ∈ potGivers := by
  have hall : (allKinds.all fun k => levelAlarms.all fun b => !(givenAlarms k).contains b || potGivers.contains k) = true := by decide
  have := List.all_eq_true.mp (List.all_eq_true.mp hall k (mem_allKinds k)) a ha
  simpa [h] using this

/-- The record of an alarm agrees with the value of its condition at an evaluation. -/
def AgreesWith (v : Bool) (e : AlarmEntry) (r : AlarmRecord) : Prop :=
  (v = true → r.state ≠ .clear ∧ (e.delay = 0 → r.state = .active)) ∧ (¬v = true → r.state = .clear ∨ r.state = .latched)

theorem conditionRecord_agrees (a : AlarmIx) (v : Bool) (s : State) : AgreesWith v s.tbs.alarms[a] (conditionRecord a v true s) := by
  unfold conditionRecord AgreesWith
  generalize s.acu.alarms[a] = old
  generalize s.tbs.alarms[a] = e
  obtain ⟨state, count, occurrences, raiseCycle⟩ := old
  cases v <;> cases state <;> simp [levelNext, raised] <;> grind

/-- A level alarm's condition waits, formed already or not yet, or its record agrees with it. -/
structure Judging (s : State) (a : AlarmIx) (ts : List Task) (u : State) : Prop where
  routine : ∀ t ∈ ts, Routine t
  tbs : u.tbs = s.tbs
  level : u.pot.level = s.pot.level
  givers : ∀ t ∈ ts, t.kind ∈ potGivers → t = .levelConditions true
  given : ∀ t ∈ ts, ∀ v e, t = .condition a v e → v = levelValue a s.tbs s.pot.level ∧ e = true
  judged : .levelConditions true ∈ ts ∨ Task.condition a (levelValue a s.tbs s.pot.level) true ∈ ts
    ∨ AgreesWith (levelValue a s.tbs s.pot.level) s.tbs.alarms[a] u.acu.alarms[a]

section
variable {s u : State} {a : AlarmIx} {t : Task} {ts : List Task} (ha : a ∈ levelAlarms) (hm : (s.tbs.alarms[a]).masked = false)
include ha hm

theorem Judging.next (h : Judging s a (t :: ts) u) : Judging s a ((handle t u).2 ++ ts) (handle t u).1 := by
  obtain ⟨hroutine, htbs, hlevel, hgivers, hgiven, hjudged⟩ := h
  have ht := hroutine t (List.mem_cons_self ..)
  have htold (w : Task) (hw : w ∈ (handle t u).2 ++ ts) : w ∈ (handle t u).2 ∨ w ∈ t :: ts :=
    (List.mem_append.mp hw).imp id (List.mem_cons_of_mem _)
  refine ⟨fun w hw => (htold w hw).elim (ht.emits u w) (hroutine w), (handle_undisturbed t u (quiet_of_kind ht.1)).2.1.trans htbs,
    (ht.readings u).level.trans hlevel, fun w hw => (htold w hw).elim (fun hw hk => absurd hk (ht.no_giver u w hw)) (hgivers w), ?_, ?_⟩
  · rintro w hw v e rfl
    refine (htold _ hw).elim (fun hw => ?_) (fun hw => hgiven _ hw v e rfl)
    have hgiver := givers_of_levelAlarm ha (handle_gives hw)
    obtain rfl := hgivers t (List.mem_cons_self ..) hgiver
    obtain ⟨b, -, hb⟩ := levelConditions_gives hw
    cases hb
    rw [htbs, hlevel]
    exact ⟨rfl, rfl⟩
  · by_cases hnow : t = .levelConditions true
    · subst hnow
      refine .inr (.inl (List.mem_append_left _ ?_))
      have hall := levelConditions_all ha true u
      rwa [htbs, hlevel] at hall
    · by_cases hcond : ∃ v e, t = .condition a v e
      · obtain ⟨v, e, rfl⟩ := hcond
        obtain ⟨rfl, rfl⟩ := hgiven _ (List.mem_cons_self ..) v e rfl
        refine .inr (.inr ?_)
        have hrec : (handle (.condition a (levelValue a s.tbs s.pot.level) true) u).1.acu.alarms[a] =
            conditionRecord a (levelValue a s.tbs s.pot.level) true u := by
          have htaken := takeCondition_unmasked (a := a) (s := u) (levelValue a s.tbs s.pot.level) true (by rwa [htbs])
            (levelAlarm_level a ha)
          simp only [handle, htaken]
          exact setAlarm_record ..
        rw [hrec, ← htbs]
        exact conditionRecord_agrees ..
      · have hstays := handle_alarm_stays (t := t) u (levelAlarm_level a ha)
          (fun hr => by
            have := hgivers t (List.mem_cons_self ..) (by rw [hr]; decide)
            rw [this] at hr
            cases hr) (fun v e hv => hcond ⟨v, e, hv⟩)
        obtain hw | hw | hw := hjudged
        · exact .inl (List.mem_append_right _ ((List.mem_cons.mp hw).resolve_left (Ne.symm hnow)))
        · exact .inr (.inl (List.mem_append_right _ ((List.mem_cons.mp hw).resolve_left fun heq => hcond ⟨_, _, heq.symm⟩)))
        · exact .inr (.inr (by rw [hstays]; exact hw))

theorem Judging.settled (n : Nat) (h : Judging s a ts u) : (settle n ts u).overrun = true
    ∨ AgreesWith (levelValue a s.tbs s.pot.level) s.tbs.alarms[a] (settle n ts u).acu.alarms[a] :=
  settle_holds (I := Judging s a)
    (P := fun w => w.overrun = true ∨ AgreesWith (levelValue a s.tbs s.pot.level) s.tbs.alarms[a] w.acu.alarms[a])
    (fun _ _ _ h => h.next ha hm) (fun _ h => .inr (by simpa using h.judged)) (fun _ _ _ => .inl rfl) n ts u h

end

/-! ## The arrival -/

/-- A state with its level window and level. -/
def withLevel (s : State) (w : List Int) (l : Option Int) : State := { s with pot := { s.pot with levelWindow := w, level := l } }

/-- The window and the level that an arrival of the gauge leaves (R151). -/
def gaugeOf (status : SampleStatus) (s : State) : List Int × Option Int :=
  if status = .good then
    (pushDistance s.pot.levelWindow (lastGood s (S 13)), levelOf s.tbs (pushDistance s.pot.levelWindow (lastGood s (S 13))))
  else if (s.sig[S 13]).nonGood < 50 then (s.pot.levelWindow, s.pot.level)
  else ([], none)

/-- What follows from a new level (R151, R152). -/
def levelTasks (changed : Bool) : List Task :=
  (if changed then [.potEvaluate .plain, .feedEvaluate] else []) ++ [.levelConditions true]

theorem levelArrival_eq {s : State} (status : SampleStatus) (h : s.mru.line ≠ .unconfigured) : levelArrival status s =
    (withLevel s (gaugeOf status s).1 (gaugeOf status s).2, levelTasks (decide ((gaugeOf status s).2 ≠ s.pot.level))) := by
  have hidle : ¬potIdle s = true := by
    rw [potIdle, beq_iff_eq]
    exact h
  unfold levelArrival potActs gaugeOf
  rw [if_neg hidle]
  split
  · simp [setLevel, withLevel, levelTasks]
  · split <;> simp [setLevel, withLevel, levelTasks]

theorem levelTasks_routine (changed : Bool) : ∀ t ∈ levelTasks changed, Routine t := by
  intro t ht
  have hor : t = .potEvaluate .plain ∨ t = .feedEvaluate ∨ t = .levelConditions true := by
    cases changed <;> simp [levelTasks] at ht <;> tauto
  obtain rfl | rfl | rfl := hor <;> exact ⟨by decide, by decide, by simp⟩

theorem levelTasks_judging (s : State) (a : AlarmIx) (changed : Bool) : Judging s a (levelTasks changed) s where
  routine := levelTasks_routine changed
  tbs := rfl
  level := rfl
  givers t ht hk := by
    cases changed <;> simp [levelTasks] at ht
    · exact ht
    · obtain rfl | rfl | rfl := ht
      · revert hk; decide
      · revert hk; decide
      · rfl
  given t ht v e hv := by
    subst hv
    cases changed <;> simp [levelTasks] at ht
  judged := .inl (by simp [levelTasks])

theorem arrivalStatus_gauge (v : Word16) : arrivalStatus (S 13) 0 v = .good := by
  have hv : validValue (S 13) (reading (S 13) v) = true := by
    change decide (0 ≤ (v.toNat : Int) ∧ (v.toNat : Int) ≤ 65535) = true
    have := v.isLt
    exact decide_eq_true (by omega)
  rw [arrivalStatus, if_pos rfl, if_pos hv]

theorem arrivalStatus_not_good {i : SigIx} {code : Nat} (v : Word16) (h : code ≠ 0) : arrivalStatus i code v ≠ .good := by
  rw [arrivalStatus, if_neg h]
  split <;> exact SampleStatus.noConfusion

theorem toldOf_gauge (code : Nat) (v : Word16) : toldOf (S 13, code, v) = [.levelArrival (arrivalStatus (S 13) code v)] := rfl

theorem gaugeOf_good (s : State) (v : Word16) : gaugeOf (arrivalStatus (S 13) 0 v) (arrived s (S 13, 0, v)) =
    (pushDistance s.pot.levelWindow v.toNat, levelOf s.tbs (pushDistance s.pot.levelWindow v.toNat)) := by
  rw [gaugeOf, if_pos (arrivalStatus_gauge v), lastGood_arrived (arrivalStatus_gauge v)]
  rfl

theorem gaugeOf_other (s : State) {code : Nat} (v : Word16) (h : code ≠ 0) :
    gaugeOf (arrivalStatus (S 13) code v) (arrived s (S 13, code, v)) =
      if (s.sig[S 13]).nonGood + 1 < 50 then (s.pot.levelWindow, s.pot.level) else ([], none) := by
  have hrec : (arrived s (S 13, code, v)).sig[S 13] = _ := recordArrival_same s s.sig (S 13, code, v)
  have hcount : ((arrived s (S 13, code, v)).sig[S 13]).nonGood = min 255 ((s.sig[S 13]).nonGood + 1) := by
    rw [hrec]
    simp only [arrive, if_neg (arrivalStatus_not_good v h), satAdd]
  rw [gaugeOf, if_neg (arrivalStatus_not_good v h), hcount]
  exact if_congr (by omega) rfl rfl

/-- The event of an arrival of the gauge. -/
structure GaugeRead (g : List Int × Option Int) (s t : State) : Prop where
  undisturbed : Undisturbed { s with sig := t.sig, pot := { s.pot with levelWindow := t.pot.levelWindow, level := t.pot.level } } t
  window : t.pot.levelWindow = g.1
  level : t.pot.level = g.2
  alarms : t.overrun = false → ∀ a ∈ levelAlarms, (s.tbs.alarms[a]).masked = false →
    AgreesWith (levelValue a s.tbs t.pot.level) s.tbs.alarms[a] t.acu.alarms[a]

theorem Undisturbed.readings {s t : State} {v : Vector SignalRecord 23} {w : List Int} {l : Option Int}
    (h : Undisturbed (withLevel { s with sig := v } w l) t) : t.pot.levelWindow = w ∧ t.pot.level = l
      ∧ Undisturbed { s with sig := t.sig, pot := { s.pot with levelWindow := t.pot.levelWindow, level := t.pot.level } } t := by
  obtain ⟨hsig, -, -, -, -, -, -, hlevel, hwindow, -⟩ := id h
  have hv : t.sig = v := hsig
  have hw : t.pot.levelWindow = w := hwindow
  have hl : t.pot.level = l := hlevel
  refine ⟨hw, hl, ?_⟩
  rw [hv, hw, hl]
  exact h

theorem GaugeRead.marked {g : List Int × Option Int} {s u : State} (h : GaugeRead g s u) : GaugeRead g s { u with overrun := true } :=
  ⟨h.undisturbed, h.window, h.level, fun ho => absurd ho (by simp)⟩

theorem settle_gauge (n : Nat) {s : State} (v : Vector SignalRecord 23) (w : List Int) (l : Option Int) (changed : Bool) :
    GaugeRead (w, l) s (settle n (levelTasks changed) (withLevel { s with sig := v } w l)) := by
  have hquiet : (levelTasks changed).all quiet = true :=
    List.all_eq_true.mpr fun t ht => quiet_of_kind (levelTasks_routine changed t ht).1
  obtain ⟨hw, hl, hu⟩ := Undisturbed.readings (settle_undisturbed n (withLevel { s with sig := v } w l) hquiet)
  refine ⟨hu, hw, hl, fun ho a ha hm => ?_⟩
  rw [hl]
  refine (Judging.settled (s := withLevel { s with sig := v } w l) ha hm n (levelTasks_judging _ a changed)).resolve_left ?_
  rw [ho]
  exact Bool.false_ne_true

theorem exec_gauge {c : SampleCell} {s : State} {code : Nat} {v : Word16} (hv : verdict s.lif.openCycle (sampleRaw c) = .toSig)
    (hseq : c.sequence.toNat ≤ 63) (ha : arrivalsOf s c = [(S 13, code, v)]) (hl : s.mru.line ≠ .unconfigured) :
    ∃ t, exec (.sample c) s = .next t
      ∧ GaugeRead (gaugeOf (arrivalStatus (S 13) code v) (arrived s (S 13, code, v))) s t := by
  obtain ⟨n, t, hn, ht, hend⟩ := exec_single hv hseq ha
  obtain ⟨m, rfl⟩ : ∃ m, n = m + 1 := ⟨n - 1, by omega⟩
  refine ⟨t, ht, hend.keeps (fun _ h => h.marked) ?_⟩
  rw [toldOf_gauge, settle_cons, List.append_nil]
  have hstep : handle (.levelArrival (arrivalStatus (S 13) code v)) (arrived s (S 13, code, v)) = _ :=
    levelArrival_eq (s := arrived s (S 13, code, v)) _ hl
  rw [hstep]
  exact settle_gauge m _ _ _ _

theorem levelValue_iff {a : AlarmIx} {t : Tbs} {l : Option Int} {holds : Prop}
    (h : (a = A 20 ∧ (holds ↔ ∃ m, l = some m ∧ m < levelLL t)) ∨ (a = A 21 ∧ (holds ↔ ∃ m, l = some m ∧ levelHH t < m))
      ∨ (a = A 22 ∧ (holds ↔ l = none))) : a ∈ levelAlarms ∧ (levelValue a t l = true ↔ holds) := by
  obtain ⟨rfl, hholds⟩ | ⟨rfl, hholds⟩ | ⟨rfl, hholds⟩ := h
  · refine ⟨by decide, ?_⟩
    rw [hholds]
    change (l.any fun m => decide (m < levelLL t)) = true ↔ _
    cases l <;> simp
  · refine ⟨by decide, ?_⟩
    rw [hholds]
    change (l.any fun m => decide (levelHH t < m)) = true ↔ _
    cases l <;> simp
  · refine ⟨by decide, ?_⟩
    rw [hholds]
    change l.isNone = true ↔ _
    exact Option.isNone_iff_eq_none

/-- Settles O35: the window is written first, only routine hand-overs follow, and the last of the level's conditions is formed from
the level that stays. -/
theorem levelFollowsTheGauge : Obligations.LevelFollowsTheGauge := by
  intro c s code v hv hseq ha hl
  obtain ⟨t, ht, hgauge⟩ := exec_gauge hv hseq ha hl
  refine ⟨t, ht, hgauge.undisturbed, ?_, fun hcode hlow => ?_, fun hcode hhigh => ?_, fun ho a holds hcases hm => ?_⟩
  · rintro rfl
    have hw := hgauge.window
    have hlevel := hgauge.level
    rw [gaugeOf_good] at hw hlevel
    dsimp only at hw hlevel
    rw [← hw] at hlevel
    refine ⟨by rw [hw, pushDistance_eq], fun h5 => by rw [hlevel, levelOf_other h5], fun h5 => ?_⟩
    obtain ⟨d, hd, hthird, hbelow, habove⟩ := thirdSmallest_of_five h5
    exact ⟨d, hd, by rw [hlevel, levelOf, hthird]; rfl, hbelow, habove⟩
  · have hw := hgauge.window
    have hlevel := hgauge.level
    rw [gaugeOf_other s v hcode, if_pos hlow] at hw hlevel
    exact ⟨hw, hlevel⟩
  · have hw := hgauge.window
    have hlevel := hgauge.level
    rw [gaugeOf_other s v hcode, if_neg (by omega)] at hw hlevel
    exact ⟨hw, hlevel⟩
  · obtain ⟨hin, hiff⟩ := levelValue_iff hcases
    obtain ⟨htrue, hfalse⟩ := hgauge.alarms ho a hin hm
    exact ⟨fun h => htrue (hiff.mpr h), fun h => hfalse fun hval => h (hiff.mp hval)⟩

end Sys2Proof.Machine
end

section
/-! The computation of a zone loop (R107 to R112), and what a loop without an alarm condition leaves unchanged. -/

namespace Sys2Proof.Machine

/-! ## The stages in terms of `max` and `min` -/

theorem clamp_eq_max_min {lo hi : Int} (h : lo ≤ hi) (x : Int) : clamp lo hi x = max lo (min hi x) := by
  unfold clamp
  (repeat' split) <;> omega

theorem elapsedSamples_first (stamp : Word32) : elapsedSamples stamp none = 1 := rfl

theorem elapsedSamples_later (stamp k : Word32) : elapsedSamples stamp (some k) = max 0 (min 8 (signedDiff stamp k)) :=
  clamp_eq_max_min (by decide) _

theorem elapsedSamples_nonneg (stamp : Word32) (last : Option Word32) : 0 ≤ elapsedSamples stamp last := by
  cases last
  · exact Int.zero_le_ofNat 1
  · rw [elapsedSamples_later]
    exact Int.le_max_left ..

theorem rampTo_eq {step : Int} (h : 0 ≤ step) (start goal : Int) : rampTo start goal step =
    if |goal - start| ≤ step then goal else if start < goal then start + step else start - step := by
  unfold rampTo
  refine if_congr ?_ rfl rfl
  rw [Int.abs_eq_natAbs]
  omega

theorem loopError_eq (sp tm : Int) : loopError sp tm = max (-2000) (min 2000 (sp - tm)) := clamp_eq_max_min (by decide) _

theorem nextIntegrator_eq (ki uMax old p f e n : Int) : nextIntegrator ki uMax old p f e n =
    if (uMax < p + Int.tdiv (max (-4096000) (min 4096000 (old + ki * e * n))) 4096 + f ∧ 0 < e)
        ∨ (p + Int.tdiv (max (-4096000) (min 4096000 (old + ki * e * n))) 4096 + f < 0 ∧ e < 0)
      then old else max (-4096000) (min 4096000 (old + ki * e * n)) := by
  simp only [nextIntegrator, clamp_eq_max_min (by decide : (-4096000 : Int) ≤ 4096000)]

theorem nextOutput_eq (slew uMax integrator p f uPrev : Int) : nextOutput slew uMax integrator p f uPrev =
    min uMax (clamp (uPrev - slew) (uPrev + slew) (clamp 0 uMax (p + Int.tdiv integrator 4096 + f))) := by
  unfold nextOutput
  dsimp only
  split <;> omega

/-! ## What a loop leaves unchanged -/

/-- Nothing of the other blocks is changed but the gate command; ACU's groups stay. -/
structure LoopFrame (s t : State) : Prop where
  mru : t.mru = s.mru
  tbs : t.tbs = s.tbs
  flx : t.flx = s.flx
  phm : t.phm = s.phm
  pot : t.pot = s.pot
  exm : t.exm = s.exm
  hld : t.hld = s.hld
  groups : t.acu.groups = s.acu.groups
  btk : t.btk = { s.btk with gateOpen := t.btk.gateOpen }

theorem LoopFrame.trans {s t u : State} (h : LoopFrame s t) (k : LoopFrame t u) : LoopFrame s u :=
  ⟨k.mru.trans h.mru, k.tbs.trans h.tbs, k.flx.trans h.flx, k.phm.trans h.phm, k.pot.trans h.pot, k.exm.trans h.exm, k.hld.trans h.hld,
    k.groups.trans h.groups, by rw [k.btk, h.btk]⟩

theorem arrived_frame (s : State) (a : SigIx × Nat × Word16) : LoopFrame s (arrived s a) := ⟨rfl, rfl, rfl, rfl, rfl, rfl, rfl, rfl, rfl⟩

theorem setLoop_frame (s : State) (l : LoopIx) (r : LoopRecord) : LoopFrame s (setLoop s l r) :=
  ⟨rfl, rfl, rfl, rfl, rfl, rfl, rfl, rfl, rfl⟩

theorem setAlarm_frame (s : State) (a : AlarmIx) (r : AlarmRecord) : LoopFrame s (setAlarm s a r) :=
  ⟨rfl, rfl, rfl, rfl, rfl, rfl, rfl, rfl, rfl⟩

theorem OutputOnly.loopFrame {o : OutIx} {s t : State} (h : OutputOnly o s t) : LoopFrame s t ∧ t.tle = s.tle := by
  obtain ⟨r, q, k, d, rfl⟩ := outputOnly_iff.mp h
  exact ⟨⟨rfl, rfl, rfl, rfl, rfl, rfl, rfl, rfl, rfl⟩, rfl⟩

theorem GateOnly.loopFrame {s t : State} (h : GateOnly s t) : LoopFrame s t ∧ t.tle = s.tle
    ∧ ∀ o, o ≠ O 20 → outputRecord t o = outputRecord s o := by
  obtain ⟨v, r, q, d, rfl⟩ := gateOnly_iff.mp h
  exact ⟨⟨rfl, rfl, rfl, rfl, rfl, rfl, rfl, rfl, rfl⟩, rfl, fun o ho => vset_other _ (Ne.symm ho) _⟩

/-! ## A loop of a zone -/

theorem zoneAlarms (z : ZoneIx) : (alarmKind (sensorLostAlarm (zoneLoop z)) = .level ∧ isPotAlarm (sensorLostAlarm (zoneLoop z)) = false)
    ∧ alarmKind (overTempAlarm (zoneLoop z)) = .level ∧ isPotAlarm (overTempAlarm (zoneLoop z)) = false := by
  revert z
  decide

/-- A false condition of an alarm that POT does not watch, as the loops see it. -/
theorem takes_quiet_condition {s : State} {a : AlarmIx} (hk : alarmKind a = .level) (hp : isPotAlarm a = false) :
    ∃ k t, k ≤ 3 ∧ Takes k [.condition a false true] s t ∧ LoopFrame s t ∧ t.tle = s.tle
      ∧ ∀ o, o ≠ O 20 → outputRecord t o = outputRecord s o := by
  obtain ⟨k, t, hle, ht, r, hgate⟩ := takes_condition_false (s := s) hk hp true
  obtain ⟨hframe, htle, hout⟩ := hgate.loopFrame
  exact ⟨k, t, hle, ht, (setAlarm_frame s a r).trans hframe, htle, hout⟩

/-- The conditions of a zone loop that has neither. -/
theorem takes_tleConditions_false {s : State} {z : ZoneIx} (hlost : (s.tle.loops[zoneLoop z]).sensorLost = false)
    (hhot : (s.tle.loops[zoneLoop z]).overTemp = false) : ∃ k t, k ≤ 7 ∧ Takes k [.tleConditions (zoneLoop z)] s t ∧ LoopFrame s t
      ∧ t.tle = s.tle ∧ ∀ o, o ≠ O 20 → outputRecord t o = outputRecord s o := by
  obtain ⟨⟨hlevel, hpot⟩, hlevel', hpot'⟩ := zoneAlarms z
  obtain ⟨k, u, hk, hu, hframe, htle, hout⟩ := takes_quiet_condition (s := s) hlevel hpot
  obtain ⟨m, t, hm, ht, hframe', htle', hout'⟩ := takes_quiet_condition (s := u) hlevel' hpot'
  have hstep : handle (.tleConditions (zoneLoop z)) s =
      (s, [.condition (sensorLostAlarm (zoneLoop z)) false true] ++ [.condition (overTempAlarm (zoneLoop z)) false true]) := by
    simp only [handle, tleConditions, hlost, hhot, List.singleton_append]
  exact ⟨m + k + 1, t, by omega, .of_handle hstep (hu.append ht), hframe.trans hframe', htle'.trans htle,
    fun o ho => (hout' o ho).trans (hout o ho)⟩

theorem takes_heater (l : LoopIx) (v : Nat) (s : State) :
    ∃ t, Takes 1 [.setAutomatic (heaterOutput l) v] s t ∧ LoopFrame s t ∧ t.tle = s.tle ∧ (outputRecord t (heaterOutput l)).automatic = v := by
  have hstep : handle (.setAutomatic (heaterOutput l) v) s = ((setAutomatic (heaterOutput l) v s).1, []) := by
    refine Prod.ext rfl ?_
    simp only [handle, setAutomatic, formDelivered]
    rw [deliveredReports_none _ (by revert l; decide), ite_self]
  have honly : OutputOnly (heaterOutput l) s (setAutomatic (heaterOutput l) v s).1 :=
    (setOutputRecord_only ..).trans (formPure_only ..)
  exact ⟨_, .one hstep, honly.loopFrame.1, honly.loopFrame.2, setAutomatic_automatic (heaterOutput_ne l _ (by decide)) v s⟩

theorem computed_sensorLost (s : State) (l : LoopIx) (tm : Int) (stamp : Word32) : (computed s l tm stamp).sensorLost = false := by
  unfold computed
  dsimp only
  split <;> rfl

theorem computed_overTemp (s : State) (l : LoopIx) (tm : Int) (stamp : Word32) :
    (computed s l tm stamp).overTemp = decide (overTempThreshold s.tbs l < tm) := by
  unfold computed
  dsimp only
  split <;> rfl

/-- A computation of a zone loop below its overtemperature threshold. -/
theorem takes_computeLoop {s : State} {z : ZoneIx} {i : SigIx} (hhot : lastGood s i ≤ overTempThreshold s.tbs (zoneLoop z)) :
    ∃ k t, k ≤ 8 ∧ Takes k (computeLoop (zoneLoop z) i s).2 (computeLoop (zoneLoop z) i s).1 t ∧ LoopFrame s t
      ∧ t.tle.loops = vset s.tle.loops (zoneLoop z) (computed s (zoneLoop z) (lastGood s i) (s.sig[i]).arrivalCycle)
      ∧ (outputRecord t (heaterOutput (zoneLoop z))).automatic =
          (computed s (zoneLoop z) (lastGood s i) (s.sig[i]).arrivalCycle).uPrev.toNat := by
  have hlost := computed_sensorLost s (zoneLoop z) (lastGood s i) (s.sig[i]).arrivalCycle
  have hover := computed_overTemp s (zoneLoop z) (lastGood s i) (s.sig[i]).arrivalCycle
  rw [decide_eq_false (Int.not_lt.mpr hhot)] at hover
  simp only [computeLoop]
  generalize computed s (zoneLoop z) (lastGood s i) (s.sig[i]).arrivalCycle = r at hlost hover ⊢
  obtain ⟨u, hu, hframe, htle, hauto⟩ := takes_heater (zoneLoop z) r.uPrev.toNat (setLoop s (zoneLoop z) r)
  have hrec : u.tle.loops[zoneLoop z] = r := by
    rw [htle]
    exact vset_same ..
  obtain ⟨k, t, hk, ht, hframe', htle', hout⟩ := takes_tleConditions_false (s := u) (z := z) (by rw [hrec, hlost]) (by rw [hrec, hover])
  refine ⟨k + 1, t, by omega, hu.append ht, (setLoop_frame ..).trans (hframe.trans hframe'), ?_, ?_⟩
  · rw [htle', htle]
    rfl
  · rw [hout _ (heaterOutput_ne _ _ (by decide)), hauto]

/-! ## The arrival of a zone's thermocouple -/

section
variable {z : ZoneIx} {v : Word16} (hlow : -500 ≤ v.toInt) (hhigh : v.toInt ≤ 6000)

theorem zoneSignal_val (z : ZoneIx) : (S (z.val + 1)).val = z.val := by
  revert z
  decide

theorem reading_zone (z : ZoneIx) (v : Word16) : reading (S (z.val + 1)) v = v.toInt := by
  rw [reading, if_pos]
  rw [signedReading, zoneSignal_val]
  exact decide_eq_true (by omega)

theorem loopArrival_zone {s : State} (h : s.mru.line ≠ .unconfigured) :
    loopArrival (zoneLoop z) (S (z.val + 1)) .good s = computeLoop (zoneLoop z) (S (z.val + 1)) s := by
  have hown : S (z.val + 1) = ownSensor (zoneLoop z) := by
    revert z
    decide
  rw [loopArrival, if_neg h, if_pos hown, ownArrival, if_pos rfl]

include hlow hhigh

theorem arrivalStatus_zone : arrivalStatus (S (z.val + 1)) 0 v = .good := by
  have hvalid : validValue (S (z.val + 1)) v.toInt = true := by
    rw [validValue, zoneSignal_val, if_pos (by have := z.isLt; omega)]
    exact decide_eq_true ⟨hlow, hhigh⟩
  rw [arrivalStatus, if_pos rfl, reading_zone, if_pos hvalid]

theorem toldOf_zone : toldOf (S (z.val + 1), 0, v) = [.loopArrival (zoneLoop z) (S (z.val + 1)) .good] := by
  rw [toldOf, arrivalStatus_zone hlow hhigh]
  unfold arrivalTasks
  dsimp only
  rw [if_pos (by rw [zoneSignal_val]; omega)]
  revert z
  decide

/-- The event of a GOOD arrival of a zone's thermocouple. -/
theorem exec_zone {c : SampleCell} {s : State} (hv : verdict s.lif.openCycle (sampleRaw c) = .toSig) (hseq : c.sequence.toNat ≤ 63)
    (ha : arrivalsOf s c = [(S (z.val + 1), 0, v)]) (hl : s.mru.line ≠ .unconfigured)
    (hhot : v.toInt ≤ overTempThreshold s.tbs (zoneLoop z)) :
    ∃ t, exec (.sample c) s = .next t ∧ LoopFrame s t
      ∧ t.tle.loops = vset s.tle.loops (zoneLoop z) (computed (arrived s (S (z.val + 1), 0, v)) (zoneLoop z) v.toInt s.lif.cycle)
      ∧ (outputRecord t (heaterOutput (zoneLoop z))).automatic =
          (computed (arrived s (S (z.val + 1), 0, v)) (zoneLoop z) v.toInt s.lif.cycle).uPrev.toNat := by
  have hgood : lastGood (arrived s (S (z.val + 1), 0, v)) (S (z.val + 1)) = v.toInt := by
    rw [lastGood_arrived (arrivalStatus_zone hlow hhigh), reading_zone]
  have hrec : (arrived s (S (z.val + 1), 0, v)).sig[S (z.val + 1)] = _ := recordArrival_same s s.sig (S (z.val + 1), 0, v)
  have hstamp : ((arrived s (S (z.val + 1), 0, v)).sig[S (z.val + 1)]).arrivalCycle = s.lif.cycle := by rw [hrec]; rfl
  obtain ⟨k, t, hk, ht, hframe, hloops, hauto⟩ := takes_computeLoop (s := arrived s (S (z.val + 1), 0, v)) (z := z) (i := S (z.val + 1))
    (by rw [hgood]; exact hhot)
  rw [hgood, hstamp] at hloops hauto
  have htakes : Takes (k + 1) (toldOf (S (z.val + 1), 0, v)) (arrived s (S (z.val + 1), 0, v)) t := by
    rw [toldOf_zone hlow hhigh]
    refine .step ?_
    rw [show handle (.loopArrival (zoneLoop z) (S (z.val + 1)) .good) (arrived s (S (z.val + 1), 0, v)) = _ from
      loopArrival_zone (s := arrived s (S (z.val + 1), 0, v)) hl]
    exact ht
  exact ⟨t, exec_single_short hv hseq ha htakes (by omega) (by rw [hframe.tbs]; rfl), (arrived_frame s _).trans hframe, hloops, hauto⟩

end

theorem loopGroup_zone (z : ZoneIx) : loopGroup (zoneLoop z) = .preheat := by
  revert z
  decide

theorem loopTarget_zone (s : State) (z : ZoneIx) : loopTarget s (zoneLoop z) = zoneTargetNow s z
    ∧ loopFeedforward s (zoneLoop z) = zoneFeedforwardNow s z := by
  have hval : (zoneLoop z).val = z.val := by
    revert z
    decide
  have hlt : (zoneLoop z).val < 6 := by rw [hval]; exact z.isLt
  have hz : (⟨(zoneLoop z).val, hlt⟩ : ZoneIx) = z := Fin.ext hval
  rw [loopTarget, loopFeedforward, dif_pos hlt, dif_pos hlt, hz]
  exact ⟨rfl, rfl⟩

/-- Settles O27: the record is the one computed at the arrival, its output goes to the heater, and two false conditions follow. -/
theorem zoneLoopComputes : Obligations.ZoneLoopComputes := by
  intro c s z v hv hseq ha hlow hhigh hline hgroup hramp hhot
  obtain ⟨t, ht, hframe, hloops, hauto⟩ := exec_zone hlow hhigh hv hseq ha hline hhot
  refine ⟨t, ht, ?_, hframe.mru, hframe.tbs, hframe.flx, hframe.phm, hframe.pot, hframe.exm, hframe.hld, hframe.groups, hframe.btk⟩
  obtain ⟨htarget, hfeed⟩ := loopTarget_zone (arrived s (S (z.val + 1), 0, v)) z
  rw [show zoneTargetNow (arrived s (S (z.val + 1), 0, v)) z = zoneTargetNow s z from rfl] at htarget
  rw [show zoneFeedforwardNow (arrived s (S (z.val + 1), 0, v)) z = zoneFeedforwardNow s z from rfl] at hfeed
  have hinactive : ¬groupActive (arrived s (S (z.val + 1), 0, v)) (loopGroup (zoneLoop z)) = true := by
    rw [loopGroup_zone]
    exact Bool.eq_false_iff.mp hgroup
  have hstep : 0 ≤ rampRate s.tbs (zoneLoop z) * elapsedSamples s.lif.cycle (s.tle.loops[zoneLoop z]).lastComputation :=
    Int.mul_nonneg hramp (elapsedSamples_nonneg ..)
  have hover : decide (overTempThreshold s.tbs (zoneLoop z) < v.toInt) = false := decide_eq_false (Int.not_lt.mpr hhot)
  dsimp only
  rw [hloops, hauto]
  have hrecord (x y : LoopRecord) (h : x = y) : vset s.tle.loops (zoneLoop z) x = vset s.tle.loops (zoneLoop z) y
      ∧ x.uPrev.toNat = y.uPrev.toNat := by
    subst h
    exact ⟨rfl, rfl⟩
  refine hrecord _ _ ?_
  simp only [computed, if_neg hinactive, htarget, hfeed, nextSetpoint, loopError_eq, nextIntegrator_eq, nextOutput_eq, proportional]
  simp only [arrived, rampTo_eq hstep]
  cases hlast : (s.tle.loops[zoneLoop z]).lastComputation with
  | none =>
    simp only [elapsedSamples_first]
    congr!
  | some k =>
    simp only [elapsedSamples_later]
    congr!

end Sys2Proof.Machine
end

section
/-! What the blocks write into the records of the train (R74, R78), and the entry of a board (R69, R73, R77). -/

namespace Sys2Proof.Machine

/-! ## Writes into records -/

/-- What no block writes into a record, but BTK at an entry, an exit or a gap. -/
def place (b : Board) : BoardNo × Option (SlotIx × BankId) × Word32 × Option Int × Bool × Bool × Bool :=
  (b.number, b.bank, b.lead, b.length, b.unplanned, b.exitMatched, b.lossMark)

/-- A record after hand-overs of some kinds: its place stays, its defects grow, REWORK stays, and contact, wave status and dose change
only by the hand-overs that are there for them. -/
structure Written (ks : List TaskKind) (b c : Board) : Prop where
  place : place c = place b
  defects : ∀ x, b.defects &&& x = x → c.defects &&& x = x
  rework : b.disposition = .rework → c.disposition = .rework
  topside : c.topside = b.topside
  wave : TaskKind.potStatuses ∉ ks → c.wave = b.wave
  contact : TaskKind.potContact ∉ ks → c.chipMs = b.chipMs ∧ c.laminarMs = b.laminarMs
  dose : TaskKind.flxAccount ∉ ks → c.dose = b.dose

theorem Written.refl (ks : List TaskKind) (b : Board) : Written ks b b :=
  ⟨rfl, fun _ h => h, id, rfl, fun _ => rfl, fun _ => ⟨rfl, rfl⟩, fun _ => rfl⟩

theorem Written.trans {ks : List TaskKind} {a b c : Board} (h : Written ks a b) (k : Written ks b c) : Written ks a c where
  place := k.place.trans h.place
  defects x hx := k.defects x (h.defects x hx)
  rework := k.rework ∘ h.rework
  topside := k.topside.trans h.topside
  wave hk := (k.wave hk).trans (h.wave hk)
  contact hk := ⟨(k.contact hk).1.trans (h.contact hk).1, (k.contact hk).2.trans (h.contact hk).2⟩
  dose hk := (k.dose hk).trans (h.dose hk)

theorem Written.of_defect (ks : List TaskKind) (b : Board) (d : Defect) :
    Written ks b { b with defects := b.defects ||| defectBit d, disposition := .rework } :=
  ⟨rfl, fun _ => covers_or _, fun _ => rfl, rfl, fun _ => rfl, fun _ => ⟨rfl, rfl⟩, fun _ => rfl⟩

theorem Written.of_flux (ks : List TaskKind) (b : Board) (f : FluxStatus) : Written ks b { b with flux := f } :=
  ⟨rfl, fun _ h => h, id, rfl, fun _ => rfl, fun _ => ⟨rfl, rfl⟩, fun _ => rfl⟩

theorem Written.of_dose {ks : List TaskKind} (hk : TaskKind.flxAccount ∈ ks) (b : Board) (d : Nat) : Written ks b { b with dose := d } :=
  ⟨rfl, fun _ h => h, id, rfl, fun _ => rfl, fun _ => ⟨rfl, rfl⟩, fun h => absurd hk h⟩

theorem Written.of_wave {ks : List TaskKind} (hk : TaskKind.potStatuses ∈ ks) (b : Board) (w : WaveStatus) :
    Written ks b { b with wave := w } :=
  ⟨rfl, fun _ h => h, id, rfl, fun h => absurd hk h, fun _ => ⟨rfl, rfl⟩, fun _ => rfl⟩

theorem Written.of_contact {ks : List TaskKind} (hk : TaskKind.potContact ∈ ks) (w : Wave) (ms : Nat) (b : Board) :
    Written ks b (addContact w ms b) := by
  cases w <;> exact ⟨rfl, fun _ h => h, id, rfl, fun _ => rfl, fun h => absurd hk h, fun _ => rfl⟩

theorem Written.of_captured (ks : List TaskKind) (b : Board) : Written ks b (capturedBoard b) := by
  unfold capturedBoard
  dsimp only
  split
  · exact ⟨rfl, fun _ => covers_or _, fun _ => rfl, rfl, fun _ => rfl, fun _ => ⟨rfl, rfl⟩, fun _ => rfl⟩
  · exact ⟨rfl, fun _ h => h, id, rfl, fun _ => rfl, fun _ => ⟨rfl, rfl⟩, fun _ => rfl⟩

/-- From `s` to `t` only the records are written, and of the rest of BTK the gate and the no-motion condition alone. -/
structure RecordsWritten (ks : List TaskKind) (s t : State) : Prop where
  train : List.Forall₂ (Written ks) s.btk.train t.btk.train
  btk : t.btk = { s.btk with train := t.btk.train, gateOpen := t.btk.gateOpen, noMotionTimer := t.btk.noMotionTimer,
                             faultCondition := t.btk.faultCondition }

section
variable {ks : List TaskKind}

theorem written_refl (l : List Board) : List.Forall₂ (Written ks) l l := List.forall₂_same.mpr fun b _ => .refl ks b

theorem written_map {f : Board → Board} (l : List Board) (h : ∀ b, Written ks b (f b)) : List.Forall₂ (Written ks) l (l.map f) :=
  List.forall₂_map_right_iff.mpr (List.forall₂_same.mpr fun b _ => h b)

theorem written_trans : ∀ {a b c : List Board}, List.Forall₂ (Written ks) a b → List.Forall₂ (Written ks) b c → List.Forall₂ (Written ks) a c
  | _, _, _, .nil, .nil => .nil
  | _, _, _, .cons h hs, .cons k ks => .cons (h.trans k) (written_trans hs ks)

theorem RecordsWritten.refl (s : State) : RecordsWritten ks s s := ⟨written_refl _, rfl⟩

theorem RecordsWritten.trans {s t u : State} (h : RecordsWritten ks s t) (k : RecordsWritten ks t u) : RecordsWritten ks s u :=
  ⟨written_trans h.train k.train, by rw [k.btk, h.btk]⟩

theorem RecordsWritten.of_eq {s t : State} (h : t.btk = s.btk) : RecordsWritten ks s t := by
  refine ⟨?_, ?_⟩
  · rw [h]
    exact written_refl _
  · rw [h]

theorem RecordsWritten.of_touches {bs : List Block} {s t : State} (h : Touches bs s t) (hb : Block.btk ∉ bs) : RecordsWritten ks s t :=
  .of_eq (h.same .btk hb)

theorem RecordsWritten.of_map {f : Board → Board} {s t : State} (h : ∀ b, Written ks b (f b))
    (ht : t.btk = { s.btk with train := s.btk.train.map f }) : RecordsWritten ks s t := by
  refine ⟨?_, ?_⟩ <;> rw [ht]
  exact written_map _ h

theorem mapBoard_written (s : State) (n : BoardNo) {f : Board → Board} (h : ∀ b, Written ks b (f b)) :
    RecordsWritten ks s (mapBoard s n f) := by
  refine .of_map (f := fun b => if b.number = n then f b else b) (fun b => ?_) rfl
  split
  · exact h b
  · exact .refl ks b

theorem writeFlux_written (n : BoardNo) (f : FluxStatus) (s : State) : RecordsWritten ks s (writeFlux n f s) :=
  mapBoard_written s n fun b => .of_flux ks b f

theorem writeFlux_after {s u : State} (h : u.btk = s.btk) (n : BoardNo) (f : FluxStatus) : RecordsWritten ks s (writeFlux n f u) :=
  .trans (.of_eq h) (writeFlux_written n f u)

theorem foldl_written {α : Type} {f : State → α → State} (h : ∀ s x, RecordsWritten ks s (f s x)) (l : List α) (s : State) :
    RecordsWritten ks s (l.foldl f s) :=
  List.foldlRecOn (motive := fun t : State => RecordsWritten ks s t) l f (.refl s) fun _ ht _ _ => ht.trans (h ..)

theorem noMotion_written (s : State) : RecordsWritten ks s (noMotion s).1 := by
  unfold noMotion
  (repeat' split) <;> exact ⟨written_refl _, rfl⟩

theorem writeDefect_written (n : BoardNo) (d : Defect) (s : State) : RecordsWritten ks s (writeDefect n d s).1 := by
  unfold writeDefect
  split
  · exact .refl s
  · exact mapBoard_written s n fun b => .of_defect ks b d

theorem withFlux_written (s : State) (x : Flx) : RecordsWritten ks s { s with flx := x } := .of_eq rfl

theorem flxNewRecord_written (n : BoardNo) (s : State) : RecordsWritten ks s (flxNewRecord n s).1 := by
  unfold flxNewRecord
  dsimp only
  split
  · exact .refl s
  · split
    · exact writeFlux_after (by rfl) ..
    · split
      · exact writeFlux_after (by rfl) ..
      · exact List.foldlRecOn (motive := fun t : State => RecordsWritten ks s t) _ _ (.of_eq (by rfl)) fun _ ht _ _ => ht.trans (.of_eq (by rfl))

theorem flxRework_written (n : BoardNo) (s : State) : RecordsWritten ks s (flxRework n s).1 := by
  unfold flxRework
  dsimp only
  split
  · exact writeFlux_after (by rfl) ..
  · exact writeFlux_after (by rfl) ..
  all_goals exact .refl s

theorem flxAccount_written (hk : TaskKind.flxAccount ∈ ks) (s : State) : RecordsWritten ks s (flxAccount s).1 := by
  unfold flxAccount
  dsimp only
  split
  · exact .of_eq (by rfl)
  · have accounts (d : Nat) : RecordsWritten ks s (allNozzles.foldl (accountNozzle d) s) :=
      .of_touches (.foldl (accountNozzle_touches d) _ s) (by decide)
    have writes (u : State) : RecordsWritten ks u (writeDoses u) :=
      foldl_written (f := fun s (r : SprayRecord) => mapBoard s r.board fun b => { b with dose := r.dose })
        (fun s r => mapBoard_written s r.board fun b => .of_dose hk b r.dose) _ u
    exact ((accounts _).trans (writes _)).trans (withFlux_written ..)

theorem flxRunEnd_written (n : BoardNo) (s : State) : RecordsWritten ks s (flxRunEnd n s).1 := by
  unfold flxRunEnd
  dsimp only
  split
  · split
    · split
      · exact writeFlux_after (by rfl) ..
      · exact writeFlux_after (by rfl) ..
    · exact .refl s
  · exact .refl s

theorem applyEdge_written (s : State) (e : Edge) : RecordsWritten ks s (applyEdge s e) := by
  unfold applyEdge
  split
  · dsimp only
    split
    · exact (writeFlux_written ..).trans (.of_eq (by rfl))
    · exact .of_eq (by rfl)
  · exact .of_eq (by rfl)
  · exact .refl s

theorem applyGroup_written (s : State) (g : Nat × List Edge) : RecordsWritten ks s (applyGroup s g) :=
  (foldl_written applyEdge_written _ s).trans (foldl_written (fun t n => .trans (.of_touches (handValve_touches ..) (by decide))
    (.of_touches (planChange_touches ..) (by decide))) _ _)

theorem flxTakeEdges_written (s : State) : RecordsWritten ks s (flxTakeEdges s).1 := by
  unfold flxTakeEdges takeEdges
  (repeat' split)
  · exact .refl s
  · exact .refl s
  · have drops (k : Nat) (p : Edge → Bool) : RecordsWritten ks s (countLateEdges k (dropEdges p s)) := .of_eq (by rfl)
    exact ((drops ..).trans (foldl_written applyGroup_written _ _)).trans (.of_touches (closeRuns_touches ..) (by decide))
  · exact .refl s

theorem accrueWave_written (hk : TaskKind.potContact ∈ ks) (w : Wave) (ms : Nat) (s : State) : RecordsWritten ks s (accrueWave w ms s) := by
  unfold accrueWave
  dsimp only
  split
  · refine .of_map (f := fun b => if inContactZone s w b then addContact w ms b else b) (fun b => ?_) rfl
    split
    · exact .of_contact hk w ms b
    · exact .refl ks b
  · exact .refl s

theorem potActs_written {s : State} {e : Effect} (h : RecordsWritten ks s e.1) : RecordsWritten ks s (potActs s e).1 :=
  potActs_keeps (P := fun t => RecordsWritten ks s t) (.refl s) h

theorem potContact_written (hk : TaskKind.potContact ∈ ks) (s : State) : RecordsWritten ks s (potContact s).1 := by
  refine potActs_written ?_
  dsimp only
  split
  · exact .of_eq (by rfl)
  · exact ((accrueWave_written hk ..).trans (accrueWave_written hk ..)).trans (.of_eq (by rfl))

theorem potStatuses_written (hk : TaskKind.potStatuses ∈ ks) (atSample : Bool) (s : State) :
    RecordsWritten ks s (potStatuses atSample s).1 := by
  refine potActs_written (.trans (.trans (t := { s with btk := { s.btk with train := s.btk.train.map fun b =>
      { b with wave := nextWaveStatus s atSample b } } }) ?_ (.of_touches (contactFlags_touches _) (by decide))) (.of_eq (by rfl)))
  exact .of_map (fun b => .of_wave hk b _) rfl

theorem newEpisode_written (c : Cause) (s : State) : RecordsWritten ks s (newEpisode c s).1 :=
  .of_map (f := capturedBoard) (fun b => .of_captured ks b) rfl

theorem holdCause_written (c : Cause) (s : State) : RecordsWritten ks s (holdCause c s).1 := by
  unfold holdCause
  (repeat' split)
  · exact newEpisode_written c s
  · exact newEpisode_written c s
  all_goals exact .of_eq (by rfl)

end

/-- The kinds that write into records at most. -/
def recordKinds : List TaskKind := (quietKinds.filter fun k => k != .disposition) ++
  [.flxNewRecord, .flxRemoved, .flxSample, .flxAccount, .flxRunEnds, .flxRunEnd, .flxEndingCloses, .flxTakeEdges, .flxConsume,
   .phmNewRecord, .phmRemoved, .phmArm, .potNewRecord, .potRemoved, .potSample, .potWindows, .potContact, .potStatuses, .hldEncoder,
   .reachHeld, .heldBoards]

theorem handle_written {ks : List TaskKind} {t : Task} (s : State) (hk : t.kind ∈ ks) (ht : t.kind ∈ recordKinds) :
    RecordsWritten ks s (handle t s).1 := by
  by_cases hb : Block.btk ∈ touched t
  · cases t
    case admission => exact ⟨written_refl _, rfl⟩
    case noMotion => exact noMotion_written s
    case defect n d => exact writeDefect_written n d s
    case flxNewRecord n => exact flxNewRecord_written n s
    case flxRework n => exact flxRework_written n s
    case flxAccount => exact flxAccount_written hk s
    case flxRunEnd n => exact flxRunEnd_written n s
    case flxTakeEdges => exact flxTakeEdges_written s
    case potContact => exact potContact_written hk s
    case potStatuses atSample => exact potStatuses_written hk atSample s
    case holdCause c => exact holdCause_written c s
    all_goals first
      | exact absurd ht (by simp only [Task.kind]; decide)
      | exact absurd hb (by simp only [touched]; decide)
  · exact .of_eq ((handle_touches t s).same .btk hb)

theorem settle_written (n : Nat) {ks : List TaskKind} (hc : closedKinds ks = true) (hsub : ks ⊆ recordKinds) {ts : List Task} (s : State)
    (hts : Among ks ts) : RecordsWritten ks s (settle n ts s) :=
  settle_kinds (P := fun u => RecordsWritten ks s u) ks hc (fun _ u ht hu => hu.trans (handle_written u ht (hsub ht)))
    (fun _ hu => ⟨hu.train, hu.btk⟩) n ts s hts (.refl s)

/-! ## A board at the entry (R69, R73, R74, R77) -/

/-- The level that a board sensor's count gives. -/
theorem toldOf_sensor (exit : Bool) (level : Bool) : toldOf (if exit then S 12 else S 11, 0, if level then 1 else 0) =
    [.boardSensor exit .good] := by
  revert exit level
  decide

theorem lastGood_sensor (s : State) (exit : Bool) (level : Bool) :
    lastGood (arrived s (if exit then S 12 else S 11, 0, if level then 1 else 0)) (if exit then S 12 else S 11) = if level then 1 else 0 := by
  have hstatus : arrivalStatus (if exit then S 12 else S 11) 0 (if level then 1 else 0) = .good := by
    revert exit level
    decide
  rw [lastGood_arrived hstatus]
  revert exit level
  decide

/-- The position that a confirmed edge captures (R69). -/
def capturedAt (f : SensorFilter) (position : Word32) : Word32 := if f.runCount = 0 then position else f.runStamp

theorem filterSample_confirms {f : SensorFilter} {count : Nat} {level : Bool} (position : Word32) (hlevel : f.level = !level)
    (hcount : count ≤ f.runCount + 1) :
    filterSample f count level position = (⟨level, 0, capturedAt f position⟩, some (capturedAt f position)) := by
  have hne : ¬level = f.level := by
    rw [hlevel]
    cases level <;> decide
  unfold filterSample
  rw [if_neg hne]
  dsimp only
  rw [if_pos hcount]
  rfl

/-- The event that a board sensor's sample begins where it confirms an edge. -/
def edgeTasks (exit level : Bool) (captured : Word32) : List Task :=
  if exit then (if level then [.exitLead captured] else [.exitTail])
  else (if level then [.entryLead captured] else [.entryTail captured])

theorem boardSensor_confirms {s : State} {exit level : Bool} (hg : geometryCommitted s = true)
    (hread : lastGood s (if exit then S 12 else S 11) = if level then 1 else 0) (hlevel : (sensorFilter s.btk exit).level = !level)
    (hcount : (if exit then exitFilterCount s.tbs else entryFilterCount s.tbs) ≤ (sensorFilter s.btk exit).runCount + 1) :
    boardSensor exit .good s =
      (setSensorFilter s exit ⟨level, 0, capturedAt (sensorFilter s.btk exit) s.btk.position⟩,
       edgeTasks exit level (capturedAt (sensorFilter s.btk exit) s.btk.position)) := by
  have hone : (lastGood s (if exit then S 12 else S 11) == 1) = level := by
    rw [hread]
    cases level <;> rfl
  unfold boardSensor
  rw [if_pos hg]
  dsimp only
  rw [if_pos rfl, hone, filterSample_confirms _ hlevel hcount]
  rfl

/-- The event of a sample that confirms an edge of a board sensor. -/
theorem exec_edge {c : SampleCell} {s : State} {exit level : Bool} (hv : verdict s.lif.openCycle (sampleRaw c) = .toSig)
    (hseq : c.sequence.toNat ≤ 63) (ha : arrivalsOf s c = [(if exit then S 12 else S 11, 0, if level then 1 else 0)])
    (hg : s.mru.configured.geometry = true) (hlevel : (sensorFilter s.btk exit).level = !level)
    (hcount : (if exit then exitFilterCount s.tbs else entryFilterCount s.tbs) ≤ (sensorFilter s.btk exit).runCount + 1) :
    ∃ n t, 4294966000 ≤ n ∧ exec (.sample c) s = .next t
      ∧ EndsAs t (settle n (edgeTasks exit level (capturedAt (sensorFilter s.btk exit) s.btk.position))
        (setSensorFilter (arrived s (if exit then S 12 else S 11, 0, if level then 1 else 0)) exit
          ⟨level, 0, capturedAt (sensorFilter s.btk exit) s.btk.position⟩)) := by
  obtain ⟨n, t, hn, ht, hend⟩ := exec_single hv hseq ha
  obtain ⟨m, rfl⟩ : ∃ m, n = m + 1 := ⟨n - 1, by omega⟩
  refine ⟨m, t, by omega, ht, ?_⟩
  rw [toldOf_sensor, settle_cons, List.append_nil] at hend
  have hstep : handle (.boardSensor exit .good) (arrived s (if exit then S 12 else S 11, 0, if level then 1 else 0)) = _ :=
    boardSensor_confirms (s := arrived s (if exit then S 12 else S 11, 0, if level then 1 else 0)) hg (lastGood_sensor s exit level)
      hlevel hcount
  rwa [hstep] at hend

theorem getLast?_forall₂ {R : Board → Board → Prop} {l m : List Board} {b : Board} (h : List.Forall₂ R l m) (hb : l.getLast? = some b) :
    ∃ c, m.getLast? = some c ∧ R b c := by
  rw [← List.head?_reverse] at hb
  obtain ⟨xs, hxs⟩ := List.head?_eq_some_iff.mp hb
  have hrev := List.rel_reverse h
  rw [hxs] at hrev
  obtain ⟨c, ys, hc, -, hm⟩ := List.forall₂_cons_left_iff.mp hrev
  exact ⟨c, by rw [← List.head?_reverse, hm]; rfl, hc⟩

/-- What follows from a new record, and from a lead edge for which the train has no room. -/
theorem entryLead_among (captured : Word32) (s : State) : Among recordKinds (entryLead captured s).2 :=
  Among.mono (ks := emitted .entryLead) (handle_emits (.entryLead captured) s) (by decide)

theorem entryLead_full {s : State} (captured : Word32) (h : 12 ≤ s.btk.train.length) :
    (entryLead captured s).1 = { s with btk := { s.btk with entryBoard := none } } := by
  rw [entryLead, if_pos h]

theorem entryLead_room {s : State} (captured : Word32) (h : s.btk.train.length < 12) :
    (entryLead captured s).1 = { s with
      btk := { s.btk with train := s.btk.train ++ [newRecord s captured], nextNumber := s.btk.nextNumber + 1,
                          entryBoard := some s.btk.nextNumber },
      tbs := countReference s.tbs (newRecord s captured) (· + 1) } := by
  rw [entryLead, if_neg (by omega)]
  rfl

/-- The event of a confirmed lead edge at the entry. -/
theorem settle_entryLead (n : Nat) (captured : Word32) (s : State) :
    RecordsWritten recordKinds (entryLead captured s).1 (settle (n + 1) [.entryLead captured] s) := by
  rw [settle_cons, List.append_nil]
  exact settle_written n (by decide) (List.Subset.refl _) _ (entryLead_among captured s)

theorem newRecord_defects {s : State} (captured : Word32) (h : s.btk.gateOpen = false) :
    (newRecord s captured).disposition = .rework ∧ (newRecord s captured).defects &&& 32 = 32 := by
  unfold newRecord
  simp only [h]
  refine ⟨rfl, ?_⟩
  cases (admitBank s.tbs.slots[s.mru.nextSlot]).filled <;> simp <;> decide

/-- Settles O28: the record is made first, and what follows writes into it at most. -/
theorem boardEntersTheTrain : Obligations.BoardEntersTheTrain := by
  intro c s hv hseq ha hg hlevel hcount
  obtain ⟨n, t, hn, ht, hend⟩ := exec_edge (exit := false) (level := true) hv hseq ha hg hlevel hcount
  obtain ⟨m, rfl⟩ : ∃ m, n = m + 1 := ⟨n - 1, by omega⟩
  obtain ⟨u, hu⟩ : ∃ u, u = setSensorFilter (arrived s (S 11, 0, 1)) false ⟨true, 0, capturedAt s.btk.entryFilter s.btk.position⟩ :=
    ⟨_, rfl⟩
  have hwritten : RecordsWritten recordKinds (entryLead (capturedAt s.btk.entryFilter s.btk.position) u).1 t := by
    refine hend.keeps (P := fun w => RecordsWritten recordKinds (entryLead (capturedAt s.btk.entryFilter s.btk.position) u).1 w)
      (fun _ h => ⟨h.train, h.btk⟩) ?_
    rw [hu]
    exact settle_entryLead m _ _
  have hlen := hwritten.train.length_eq
  refine ⟨t, ht, ?_, fun hroom => ?_, fun hfull => ?_⟩
  · rw [hwritten.btk]
    obtain h | h := Nat.lt_or_ge u.btk.train.length 12
    · rw [entryLead_room _ h, hu]
      rfl
    · rw [entryLead_full _ h, hu]
      rfl
  · have h : u.btk.train.length < 12 := by rw [hu]; exact hroom
    rw [entryLead_room _ h] at hwritten hlen
    obtain ⟨b, hb, hw⟩ := getLast?_forall₂ hwritten.train (List.getLast?_concat ..)
    have hplace := hw.place
    simp only [place, Prod.mk.injEq] at hplace
    obtain ⟨hnumber, hbank, hlead, hlength, hunplanned, -⟩ := hplace
    refine ⟨by rw [hwritten.btk, hu]; rfl, by rw [hwritten.btk, hu]; rfl, ?_, b, hb, ?_, ?_, ?_, ?_, ?_, fun hgate => ?_⟩
    · rw [← hlen, hu]
      exact List.length_append
    · rw [hnumber, hu]
      rfl
    · rw [hlead]
      rfl
    · rw [hlength]
      rfl
    · rw [hunplanned, hu]
      rfl
    · rw [hbank, hu]
      simp only [newRecord, Bool.or_eq_true]
      rfl
    · have hold : u.btk.gateOpen = false := by rw [hu]; exact hgate
      obtain ⟨hrework, hdefects⟩ := newRecord_defects (capturedAt s.btk.entryFilter s.btk.position) hold
      exact ⟨hw.rework hrework, hw.defects 32 hdefects⟩
  · have h : 12 ≤ u.btk.train.length := by rw [hu]; exact hfull
    rw [entryLead_full _ h] at hwritten hlen
    refine ⟨by rw [← hlen, hu]; rfl, by rw [hwritten.btk, hu]; rfl, by rw [hwritten.btk]⟩

end Sys2Proof.Machine
end

section
/-! Heads that leave the train as LOST (R79, R80, R81): the tests that retire one head after another. -/

namespace Sys2Proof.Machine

/-! ## The train without its heads -/

/-- A report as the history of exits tells it, and the report of a head that is missing. -/
def reported (r : ExitReport) : BoardNo × BoardOutcome := (r.number, r.outcome)
@[inherit_doc reported] def reportedLost (b : Board) : BoardNo × BoardOutcome := (b.number, .lost)

/-- From `s` to `t` the first `k` records have left the train as LOST; what the tests of the train read stays. -/
structure HeadsLeft (k : Nat) (s t : State) : Prop where
  train : t.btk.train.map place = (s.btk.train.drop k).map place
  exits : s.btk.exits.length ≤ 8 →
    t.btk.exits.map reported = ((s.btk.train.take k).reverse.map reportedLost ++ s.btk.exits.map reported).take 8
  position : t.btk.position = s.btk.position
  filter : t.btk.exitFilter = s.btk.exitFilter
  tables : TablesHeld s.tbs t.tbs
  moved : AlarmsMoved s t

theorem map_of_key {α κ : Type} {key : Board → κ} {f : Board → α} (hf : ∀ b c : Board, key c = key b → f c = f b) {l m : List Board}
    (h : m.map key = l.map key) : m.map f = l.map f := by
  induction l generalizing m with
  | nil => rw [List.map_eq_nil_iff.mp h]
  | cons b l ih =>
    obtain ⟨c, m', rfl, hhead, htail⟩ := List.map_eq_cons_iff.mp h
    rw [List.map_cons, List.map_cons, hf b c hhead, ih htail]

theorem number_of_place {b c : Board} (h : place c = place b) : c.number = b.number := congrArg (fun p => p.1) h

theorem reportedLost_of_place (b c : Board) (h : place c = place b) : reportedLost c = reportedLost b := by
  rw [reportedLost, reportedLost, number_of_place h]

theorem take_append_take {α : Type} (n : Nat) (x y : List α) : (x ++ y.take n).take n = (x ++ y).take n := by
  rw [List.take_append, List.take_append, List.take_take, Nat.min_eq_left (by omega)]

theorem places_of_written {ks : List TaskKind} {l m : List Board} (h : List.Forall₂ (Written ks) l m) : m.map place = l.map place := by
  induction h with
  | nil => rfl
  | cons h _ ih => rw [List.map_cons, List.map_cons, h.place, ih]

theorem HeadsLeft.refl (s : State) : HeadsLeft 0 s s :=
  ⟨rfl, fun h => (List.take_of_length_le (by simpa using h)).symm, rfl, rfl, .refl _, .refl s⟩

theorem HeadsLeft.room {k : Nat} {s t : State} (h : HeadsLeft k s t) (hroom : s.btk.exits.length ≤ 8) : t.btk.exits.length ≤ 8 := by
  have hlen := congrArg List.length (h.exits hroom)
  rw [List.length_map, List.length_take] at hlen
  omega

theorem HeadsLeft.trans {k m : Nat} {s t u : State} (h : HeadsLeft k s t) (g : HeadsLeft m t u) : HeadsLeft (k + m) s u where
  train := by
    have hdrop : (t.btk.train.drop m).map place = ((s.btk.train.drop k).drop m).map place := by
      rw [List.map_drop, h.train, ← List.map_drop]
    rw [g.train, hdrop, List.drop_drop]
  exits hroom := by
    have htake : ((t.btk.train.take m).map place) = ((s.btk.train.drop k).take m).map place := by
      rw [List.map_take, h.train, ← List.map_take]
    have hlost := map_of_key reportedLost_of_place htake
    rw [g.exits (h.room hroom), h.exits hroom, take_append_take, List.map_reverse, hlost, List.take_add, List.reverse_append, List.map_append, List.append_assoc]
    simp only [List.map_reverse]
  position := g.position.trans h.position
  filter := g.filter.trans h.filter
  tables := h.tables.trans g.tables
  moved := h.moved.trans g.moved

theorem HeadsLeft.marked {k : Nat} {s t : State} (h : HeadsLeft k s t) : HeadsLeft k s { t with overrun := true } :=
  ⟨h.train, h.exits, h.position, h.filter, h.tables, h.moved.cycle, h.moved.entries, h.moved.raise, h.moved.set⟩

/-! ## The hand-overs that remove no record -/

theorem recordKinds_no_cycle : ∀ k ∈ recordKinds, k ∉ cycleKinds := by decide

theorem handle_left {t : Task} (s : State) (ht : t.kind ∈ recordKinds) : HeadsLeft 0 s (handle t s).1 := by
  have hw := handle_written (ks := recordKinds) s ht ht
  exact ⟨places_of_written hw.train, fun hroom => by rw [hw.btk]; exact (HeadsLeft.refl s).exits hroom, by rw [hw.btk], by rw [hw.btk],
    (handle_configuration t s).1, handle_moved s (recordKinds_no_cycle _ ht)⟩

theorem handle_stays_among {t : Task} (s : State) (ht : t.kind ∈ recordKinds) : ∀ u ∈ (handle t s).2, u.kind ∈ recordKinds :=
  among_iff.mp (handle_among (by decide) s ht)

section
variable {s : State} {ts : List Task} (hts : ∀ t ∈ ts, t.kind ∈ recordKinds)
include hts

theorem settle_left (n : Nat) : HeadsLeft 0 s (settle n ts s) :=
  settle_keeps (P := fun u => HeadsLeft 0 s u) (Q := fun t => t.kind ∈ recordKinds)
    (fun _ v ht hu => hu.trans (handle_left v ht)) (fun _ u ht _ => handle_stays_among u ht) (fun _ hu => hu.marked) n ts s hts
    (.refl s)

/-- Before what waits behind them, hand-overs that remove no record end, or the event is given up. -/
theorem settle_left_append (n : Nat) (us : List Task) : (settle n (ts ++ us) s).overrun = true
    ∨ ∃ m u, HeadsLeft 0 s u ∧ settle n (ts ++ us) s = settle m us u := by
  obtain ⟨m, u, -, hu, h⟩ | ⟨u, -, h⟩ := settle_append (P := fun u => HeadsLeft 0 s u) (Q := fun t => t.kind ∈ recordKinds)
    (fun _ v ht hu => hu.trans (handle_left v ht)) (fun _ u ht _ => handle_stays_among u ht) n ts us s hts (.refl s)
  · exact .inr ⟨m, u, hu, h⟩
  · exact .inl (by rw [h])

/-- An event that they report has been raised by then. -/
theorem settle_reported {a : AlarmIx} (hk : alarmKind a = .event) (hm : (s.tbs.alarms[a]).masked = false)
    (hmem : .event a ∈ ts) (n : Nat) (us : List Task) : (settle n (ts ++ us) s).overrun = true
      ∨ ∃ m u, RaisedNow u a ∧ HeadsLeft 0 s u ∧ settle n (ts ++ us) s = settle m us u := by
  obtain ⟨pre, post, rfl⟩ := List.append_of_mem hmem
  rw [List.append_assoc]
  obtain h | ⟨m, u, hu, h⟩ := settle_left_append (fun t ht => hts t (List.mem_append_left _ ht)) n (.event a :: post ++ us)
  · exact .inl h
  · rw [h]
    obtain _ | m := m
    · exact .inl rfl
    · have hlater : ∀ t ∈ (handle (.event a) u).2 ++ post, t.kind ∈ recordKinds := fun t ht => (List.mem_append.mp ht).elim
        (handle_stays_among (t := .event a) u (by simp only [Task.kind]; decide) t)
        fun ht => hts t (List.mem_append_right _ (List.mem_cons_of_mem _ ht))
      have hfirst : HeadsLeft 0 u (handle (.event a) u).1 := handle_left u (by simp only [Task.kind]; decide)
      have hraised : RaisedNow (handle (.event a) u).1 a := by
        refine (takeEvent_raises ?_ hk).1
        rw [hu.tables.1]
        exact hm
      rw [List.cons_append, settle_cons, ← List.append_assoc]
      obtain h | ⟨k, v, hv, h⟩ := settle_left_append hlater m us
      · exact .inl h
      · exact .inr ⟨k, v, hv.moved.raisedNow hraised, (hu.trans hfirst).trans hv, h⟩

end

/-! ## A head that leaves as LOST -/

theorem retire_lost {s : State} {b : Board} {rest : List Board} (h : s.btk.train = b :: rest) : HeadsLeft 1 s (retire true s).1 := by
  refine ⟨?_, ?_, ?_, ?_, (handle_configuration (.retire true) s).1, handle_moved (t := .retire true) s (by simp only [Task.kind]; decide)⟩ <;>
    simp only [retire, h, pushReport_btk]
  · rfl
  · intro
    rw [List.map_take, List.map_cons]
    rfl

theorem retire_lost_among (s : State) : ∀ t ∈ (retire true s).2, t.kind ∈ recordKinds :=
  among_iff.mp (Among.mono (ks := emitted .retire) (handle_emits (.retire true) s) (by decide))

theorem retire_lost_tells {s : State} {b : Board} {rest : List Board} (h : s.btk.train = b :: rest) :
    Task.event (A 37) ∈ (retire true s).2 := by
  simp only [retire, h, if_true]
  simp

/-- A retirement of a missing head, before what waits behind it. -/
theorem settle_retire_lost {s : State} {b : Board} {rest : List Board} (h : s.btk.train = b :: rest) (n : Nat) (us : List Task) :
    (settle n (.retire true :: us) s).overrun = true ∨ ∃ m u, HeadsLeft 1 s u
      ∧ ((s.tbs.alarms[A 37]).masked = false → RaisedNow u (A 37)) ∧ settle n (.retire true :: us) s = settle m us u := by
  obtain _ | n := n
  · exact .inl rfl
  · have hleft := retire_lost h
    rw [settle_cons]
    by_cases hm : (s.tbs.alarms[A 37]).masked = false
    · have hm' : (((handle (.retire true) s).1).tbs.alarms[A 37]).masked = false := by
        rw [show (handle (.retire true) s).1.tbs = _ from hleft.tables.1]
        exact hm
      obtain h' | ⟨m, u, hraised, hu, h'⟩ := settle_reported (retire_lost_among s) rfl hm' (retire_lost_tells h) n us
      · exact .inl h'
      · exact .inr ⟨m, u, hleft.trans hu, fun _ => hraised, h'⟩
    · obtain h' | ⟨m, u, hu, h'⟩ := settle_left_append (retire_lost_among s) n us
      · exact .inl h'
      · exact .inr ⟨m, u, hleft.trans hu, fun hf => absurd hf hm, h'⟩

/-! ## One head after another -/

/-- A test of the head that retires it as LOST and then tests the next one. -/
structure Sweeps (T : Task) (p : State → Board → Bool) : Prop where
  step : ∀ (s : State) (b : Board) (rest : List Board), s.btk.train = b :: rest → p s b = true → handle T s = (s, [.retire true, T])
  same : ∀ {k : Nat} {s u : State} {b c : Board}, HeadsLeft k s u → place c = place b → p u c = p s b

theorem takeWhile_length_of_key {κ : Type} {key : Board → κ} {p q : Board → Bool} (h : ∀ b c : Board, key c = key b → q c = p b)
    {l m : List Board} (hlm : m.map key = l.map key) : (m.takeWhile q).length = (l.takeWhile p).length := by
  induction l generalizing m with
  | nil => rw [List.map_eq_nil_iff.mp hlm]; rfl
  | cons b l ih =>
    obtain ⟨c, m', rfl, hhead, htail⟩ := List.map_eq_cons_iff.mp hlm
    rw [List.takeWhile_cons, List.takeWhile_cons, h b c hhead]
    split
    · rw [List.length_cons, List.length_cons, ih htail]
    · rfl

/-- The test takes every head that it finds, and ends at one that it does not find. -/
theorem Sweeps.settle {T : Task} {p : State → Board → Bool} (hT : Sweeps T p) (us : List Task) : ∀ (n : Nat) (s : State),
    ((Machine.settle n (T :: us) s).overrun = true ∧ s.btk.train.takeWhile (p s) ≠ []) ∨
      ∃ m u, HeadsLeft (s.btk.train.takeWhile (p s)).length s u
        ∧ (s.btk.train.takeWhile (p s) = [] → m = n ∧ u = s)
        ∧ (s.btk.train.takeWhile (p s) ≠ [] → (s.tbs.alarms[A 37]).masked = false → RaisedNow u (A 37))
        ∧ (∀ b rest, u.btk.train = b :: rest → p u b = false) ∧ Machine.settle n (T :: us) s = Machine.settle m (T :: us) u := by
  suffices h : ∀ (k n : Nat) (s : State), s.btk.train.length = k →
      ((Machine.settle n (T :: us) s).overrun = true ∧ s.btk.train.takeWhile (p s) ≠ []) ∨
      ∃ m u, HeadsLeft (s.btk.train.takeWhile (p s)).length s u
        ∧ (s.btk.train.takeWhile (p s) = [] → m = n ∧ u = s)
        ∧ (s.btk.train.takeWhile (p s) ≠ [] → (s.tbs.alarms[A 37]).masked = false → RaisedNow u (A 37))
        ∧ (∀ b rest, u.btk.train = b :: rest → p u b = false) ∧ Machine.settle n (T :: us) s = Machine.settle m (T :: us) u from
    fun n s => h _ n s rfl
  intro k
  induction k with
  | zero =>
    intro n s hlen
    have hs : s.btk.train = [] := List.length_eq_zero_iff.mp hlen
    refine .inr ⟨n, s, ?_, fun _ => ⟨rfl, rfl⟩, fun h => absurd (by rw [hs]; rfl) h, fun b rest h => ?_, rfl⟩
    · rw [hs]
      exact .refl s
    · rw [hs] at h
      cases h
  | succ k ih =>
  intro n s hlen
  by_cases hnone : s.btk.train.takeWhile (p s) = []
  · refine .inr ⟨n, s, by rw [hnone]; exact .refl s, fun _ => ⟨rfl, rfl⟩, fun h => absurd hnone h, fun b rest hs => ?_, rfl⟩
    rw [hs, List.takeWhile_cons] at hnone
    by_contra hp
    rw [Bool.not_eq_false] at hp
    rw [if_pos hp] at hnone
    cases hnone
  · obtain ⟨b, rest, hs⟩ : ∃ b rest, s.btk.train = b :: rest := by
      cases hs : s.btk.train with
      | nil => rw [hs] at hnone; exact absurd rfl hnone
      | cons b rest => exact ⟨b, rest, rfl⟩
    have hp : p s b = true := by
      rw [hs, List.takeWhile_cons] at hnone
      by_contra hp
      rw [if_neg hp] at hnone
      exact hnone rfl
    obtain _ | n := n
    · exact .inl ⟨rfl, hnone⟩
    · rw [settle_cons, hT.step s b rest hs hp]
      change (Machine.settle n (.retire true :: T :: us) s).overrun = true ∧ _ ∨ _
      obtain h | ⟨m, u, hu, hraised, h⟩ := settle_retire_lost hs n (T :: us)
      · exact .inl ⟨h, hnone⟩
      · have hplaces : u.btk.train.map place = rest.map place := by rw [hu.train, hs]; rfl
        have hcount : (u.btk.train.takeWhile (p u)).length = (rest.takeWhile (p s)).length :=
          takeWhile_length_of_key (fun b c hbc => hT.same hu hbc) hplaces
        have htotal : (s.btk.train.takeWhile (p s)).length = 1 + (rest.takeWhile (p s)).length := by
          rw [hs, List.takeWhile_cons, if_pos hp, List.length_cons]
          omega
        have hlenu : u.btk.train.length = k := by
          have hl := congrArg List.length hplaces
          rw [List.length_map, List.length_map] at hl
          rw [hs, List.length_cons] at hlen
          omega
        obtain ⟨h', -⟩ | ⟨m', v, hv, -, -, hlast, h'⟩ := ih m u hlenu
        · exact .inl ⟨(congrArg State.overrun h).trans h', hnone⟩
        · rw [hcount] at hv
          refine .inr ⟨m', v, ?_, fun hf => absurd hf hnone, fun _ hm => hv.moved.raisedNow (hraised hm), hlast, h.trans h'⟩
          rw [htotal]
          exact hu.trans hv

end Sys2Proof.Machine
end

section
/-! The table of missing heads at a GOOD encoder sample (R80, R82). -/

namespace Sys2Proof.Machine

/-! ## The test of the head -/

theorem TablesHeld.bankOf {t u : Tbs} (h : TablesHeld t u) {b c : Board} (hb : c.bank = b.bank) : bankOf u c = bankOf t b := by
  rw [Machine.bankOf, Machine.bankOf, hb]
  cases b.bank with
  | none => rfl
  | some p => exact congrArg some ((h.2 p.1).fields p.2)

theorem TablesHeld.exit {t u : Tbs} (h : TablesHeld t u) : exitPosition u = exitPosition t ∧ exitWindow u = exitWindow t := by
  rw [h.1]
  exact ⟨rfl, rfl⟩

/-- What the tests of the head read of a record. -/
def headKey (b : Board) : BoardNo × Word32 × Option Int × Option (SlotIx × BankId) × Bool := (b.number, b.lead, b.length, b.bank, b.exitMatched)

theorem headKey_of_place (b c : Board) (h : place c = place b) : headKey c = headKey b := by
  simp only [place, Prod.mk.injEq] at h
  obtain ⟨hnumber, hbank, hlead, hlength, -, hmatched, -⟩ := h
  rw [headKey, headKey, hnumber, hbank, hlead, hlength, hmatched]

theorem headMissing_same {s u : State} {b c : Board} (hp : u.btk.position = s.btk.position) (hf : u.btk.exitFilter = s.btk.exitFilter)
    (ht : TablesHeld s.tbs u.tbs) (h : headKey c = headKey b) : headMissing u c = headMissing s b := by
  simp only [headKey, Prod.mk.injEq] at h
  obtain ⟨-, hlead, hlength, hbank, hmatched⟩ := h
  simp only [headMissing, boardOffset, boardLengthLimit, ht.bankOf hbank, ht.exit.1, ht.exit.2, hp, hf, hlead, hlength, hmatched]
  rfl

theorem missingTest_sweeps : Sweeps .missingTest headMissing where
  step s b rest hs hp := by simp only [handle, missingTest, hs, hp, if_true]
  same h hbc := headMissing_same h.position h.filter h.tables (headKey_of_place _ _ hbc)

theorem missingTest_ends {s : State} (h : ∀ b rest, s.btk.train = b :: rest → headMissing s b = false) : handle .missingTest s = (s, []) := by
  simp only [handle, missingTest]
  cases hs : s.btk.train with
  | nil => rfl
  | cons b rest =>
    dsimp only
    rw [h b rest hs, if_neg Bool.false_ne_true]

/-- The event of the table of missing heads, with hand-overs that remove no record before and behind it. -/
theorem settle_missingTest {s : State} {pre post : List Task} (hpre : ∀ t ∈ pre, t.kind ∈ recordKinds)
    (hpost : ∀ t ∈ post, t.kind ∈ recordKinds) (n : Nat) :
    (settle n (pre ++ .missingTest :: post) s).overrun = true ∨
      (HeadsLeft (s.btk.train.takeWhile (headMissing s)).length s (settle n (pre ++ .missingTest :: post) s)
        ∧ (s.btk.train.takeWhile (headMissing s) ≠ [] → (s.tbs.alarms[A 37]).masked = false →
            RaisedNow (settle n (pre ++ .missingTest :: post) s) (A 37))) := by
  obtain h | ⟨m, u, hu, h⟩ := settle_left_append hpre n (.missingTest :: post)
  · exact .inl h
  · have hcount : (u.btk.train.takeWhile (headMissing u)).length = (s.btk.train.takeWhile (headMissing s)).length :=
      takeWhile_length_of_key (fun b c hbc => missingTest_sweeps.same hu hbc) hu.train
    rw [h]
    obtain ⟨h', -⟩ | ⟨k, v, hv, -, hraised, hlast, h'⟩ := missingTest_sweeps.settle post m u
    · exact .inl h'
    · rw [h']
      obtain _ | k := k
      · exact .inl rfl
      · rw [settle_cons, missingTest_ends hlast, List.nil_append]
        have hrest := settle_left (s := v) hpost k
        refine .inr ⟨?_, fun hgone hm => hrest.moved.raisedNow (hraised (fun hnone => hgone ?_) (by rw [hu.tables.1]; exact hm))⟩
        · rw [← hcount, ← Nat.zero_add (List.length _)]
          exact hu.trans (hv.trans hrest)
        · rw [hnone] at hcount
          exact List.length_eq_zero_iff.mp hcount.symm

/-! ## The encoder's own part -/

/-- What follows from a GOOD encoder sample after the table of missing heads. -/
def encoderRest : List Task :=
  [.entryBlocked true, .admission, .noMotion, .a41Btk true, .flxSample, .phmDecide, .phmArm, .potSample, .duct1Demand, .hldEncoder]

theorem encoderRest_kinds : ∀ t ∈ encoderRest, t.kind ∈ recordKinds := by decide

/-- BTK after a GOOD encoder sample's own part. -/
structure EncoderMoved (s u : State) : Prop where
  heads : u.btk.train.map headKey = s.btk.train.map headKey
  exits : u.btk.exits = s.btk.exits
  filter : u.btk.exitFilter = s.btk.exitFilter
  rest : u = { s with btk := u.btk }

theorem EncoderMoved.tbs {s u : State} (h : EncoderMoved s u) : u.tbs = s.tbs := by rw [h.rest]

theorem EncoderMoved.cycle {s u : State} (h : EncoderMoved s u) : u.lif.cycle = s.lif.cycle := by rw [h.rest]

theorem encoder_moved (s : State) : EncoderMoved s (encoder .good s).1 := by
  simp only [encoder, if_true]
  split
  · refine ⟨?_, rfl, rfl, rfl⟩
    simp only [closeGap, List.map_map]
    rfl
  · exact ⟨rfl, rfl, rfl, rfl⟩

/-- What follows from a GOOD encoder sample. -/
theorem encoder_tasks (s : State) : ∃ ns : List BoardNo, (encoder .good s).2 =
    ns.map (fun n => Task.defect n .trackUnsure) ++ .missingTest :: encoderRest := ⟨_, rfl⟩

theorem trackUnsure_kinds (ns : List BoardNo) : ∀ t ∈ ns.map (fun n => Task.defect n .trackUnsure), t.kind ∈ recordKinds := by
  intro t ht
  obtain ⟨n, -, rfl⟩ := List.mem_map.mp ht
  simp only [Task.kind]
  decide

theorem drop_takeWhile_length {α : Type} (p : α → Bool) (l : List α) : l.drop (l.takeWhile p).length = l.dropWhile p :=
  calc l.drop (l.takeWhile p).length = (l.takeWhile p ++ l.dropWhile p).drop (l.takeWhile p).length := by
        rw [List.takeWhile_append_dropWhile]
    _ = l.dropWhile p := List.drop_left ..

theorem take_takeWhile_length {α : Type} (p : α → Bool) (l : List α) : l.take (l.takeWhile p).length = l.takeWhile p :=
  calc l.take (l.takeWhile p).length = (l.takeWhile p ++ l.dropWhile p).take (l.takeWhile p).length := by
        rw [List.takeWhile_append_dropWhile]
    _ = l.takeWhile p := List.take_left ..

theorem exec_encoder_event {c : SampleCell} {s : State} {v : Word16} (hv : verdict s.lif.openCycle (sampleRaw c) = .toSig)
    (hseq : c.sequence.toNat ≤ 63) (ha : arrivalsOf s c = [(S 10, 0, v)]) :
    ∃ n t u ns, 4294966000 ≤ n ∧ exec (.sample c) s = .next t ∧ EncoderMoved (arrived s (S 10, 0, v)) u
      ∧ u.btk.position = nextPosition s.btk v
      ∧ EndsAs t (settle n (List.map (fun n => Task.defect n .trackUnsure) ns ++ .missingTest :: encoderRest) u) := by
  obtain ⟨n, t, hn, ht, hend⟩ := exec_encoder hv hseq ha
  obtain ⟨ns, hns⟩ := encoder_tasks (arrived s (S 10, 0, v))
  rw [hns] at hend
  refine ⟨n, t, _, ns, hn, ht, encoder_moved _, ?_, hend⟩
  rw [(encoder_position _).1, encoderCount_arrived]
  rfl

/-- Settles O30: the test takes one head after another, and what follows a retirement leaves what it reads. -/
theorem missingHeadsAreRetired : Obligations.MissingHeadsAreRetired := by
  intro c s v hv hseq ha hroom
  obtain ⟨n, t, u, ns, -, ht, hmoved, -, hend⟩ := exec_encoder_event hv hseq ha
  refine ⟨t, ht, fun hdone => ?_⟩
  have hsettled := settle_missingTest (s := u) (trackUnsure_kinds ns) encoderRest_kinds n
  rw [← hend.eq hdone] at hsettled
  obtain ⟨hleft, hraised⟩ := hsettled.resolve_left (by rw [hdone]; exact Bool.false_ne_true)
  have htbs : u.tbs = s.tbs := hmoved.tbs
  have hcycle : u.lif.cycle = s.lif.cycle := hmoved.cycle
  have hheads : u.btk.train.map headKey = s.btk.train.map headKey := hmoved.heads
  have hfilter : u.btk.exitFilter = s.btk.exitFilter := hmoved.filter
  have hposition : t.btk.position = u.btk.position := hleft.position
  intro last missing gone
  have hmissing (b c : Board) (h : headKey c = headKey b) : headMissing u c = missing b := by
    rw [headMissing_same (s := u) rfl rfl (.refl _) h]
    simp only [headMissing, missing, last, hposition, htbs, hfilter, boardOffset, boardLengthLimit]
    cases b.length <;> rfl
  have hcount : (u.btk.train.takeWhile (headMissing u)).length = gone.length := takeWhile_length_of_key hmissing hheads
  have hdropped : s.btk.train.drop gone.length = s.btk.train.dropWhile missing := drop_takeWhile_length missing s.btk.train
  have htaken : s.btk.train.take gone.length = gone := take_takeWhile_length missing s.btk.train
  rw [hcount] at hleft
  refine ⟨?_, ?_, fun hgone hm => ?_⟩
  · have hdrop : t.btk.train.map headKey = (u.btk.train.drop gone.length).map headKey := map_of_key headKey_of_place hleft.train
    rw [List.map_drop, hheads, ← List.map_drop, hdropped] at hdrop
    refine map_of_key (fun b c h => ?_) hdrop
    simp only [headKey, Prod.mk.injEq] at h
    obtain ⟨hnumber, hlead, hlength, hbank, -⟩ := h
    rw [hnumber, hlead, hlength, hbank]
  · have hlost : (u.btk.train.take gone.length).map reportedLost = gone.map reportedLost := by
      refine map_of_key (key := headKey) (fun b c h => ?_) ?_
      · rw [reportedLost, reportedLost, show c.number = b.number from congrArg (fun k => k.1) h]
      · rw [List.map_take, hheads, ← List.map_take, htaken]
    have hexits := hleft.exits (by rw [hmoved.exits]; exact hroom)
    rw [List.map_reverse, hlost, ← List.map_reverse, hmoved.exits] at hexits
    exact hexits
  · have hnow : RaisedNow t (A 37) := by
      refine hraised (fun hnone => hgone ?_) (by rw [htbs]; exact hm)
      rw [hnone] at hcount
      exact List.length_eq_zero_iff.mp hcount.symm
    rw [hnow, hleft.moved.cycle, hcycle]

end Sys2Proof.Machine
end

section
/-! A confirmed exit edge where GEOMETRY holds an exit window below 0 (R79). The statement O29 tests a head against P + W first, the
model against P - W: where W is negative, a head between them is both past the window and before it. -/

namespace Sys2Proof.Machine

/-- A board whose lead is at the captured position. -/
def boardAtZero : Board :=
  { number := 1, bank := none, lead := 0, length := none, unplanned := false, disposition := .goOn, flux := .skipped, dose := 0,
    topside := none, wave := .pending, chipMs := 0, laminarMs := 0, defects := 0, holds := 0, lossMark := false, exitMatched := false }

/-- The exit at 0 with a window of -1, S12 at channel 12 of node 2, and one board in the train. -/
def narrowExit : State :=
  { State.reset with
    lif := { Lif.reset with openCycle := true },
    mru := { State.reset.mru with configured := { State.reset.mru.configured with geometry := true } },
    tbs := { State.reset.tbs with channel := [(12, 1, 1), (12, 2, 2), (12, 3, 12)], geometry := [(0, 11, -1)] },
    btk := { State.reset.btk with train := [boardAtZero] } }

/-- S12 at level 1. -/
def exitLeadCell : SampleCell :=
  { dest := 0, src := 2, tag := 0, sequence := 3, statuses := 0, value0 := 1, value1 := 0, value2 := 0, value3 := 0, check := 0 }

/-- The cell with its CHECK. -/
def exitLeadSample : SampleCell := { exitLeadCell with check := checkOf (sampleRaw exitLeadCell) }

theorem narrowExit_accepts : verdict narrowExit.lif.openCycle (sampleRaw exitLeadSample) = .toSig
    ∧ arrivalsOf narrowExit exitLeadSample = [(S 12, 0, 1)] := by decide +kernel

/-- The edge is taken as a phantom, and the board stays. -/
theorem narrowExit_keeps_board : (run narrowExit (sampleTasks exitLeadSample)).overrun = false
    ∧ (run narrowExit (sampleTasks exitLeadSample)).btk.train.length = 1 := by decide +kernel

/-- The statement's own test finds the board past the window. -/
theorem narrowExit_passed : decide (exitPosition narrowExit.tbs + exitWindow narrowExit.tbs < signedDiff narrowExit.btk.position
    boardAtZero.lead) = true := by decide +kernel

/-- Refutes O29: no hypothesis keeps the exit window at 0 or above. With the window -1 and a head at the exit position, the model
takes the lead edge as a phantom and keeps the head, where the statement has it leave as LOST. -/
theorem not_boardsLeaveTheTrain : ¬ Obligations.BoardsLeaveTheTrain := by
  intro h
  obtain ⟨hv, ha⟩ := narrowExit_accepts
  obtain ⟨hdone, hlen⟩ := narrowExit_keeps_board
  obtain ⟨t, ht, -, -, hlead, -⟩ := h exitLeadSample narrowExit 1 hv (by decide) ha rfl rfl (by decide) (by decide)
  cases Host.Outcome.next.inj (ht.symm.trans (exec_sample hv))
  obtain ⟨htrain, -⟩ := hlead rfl fun _ => hdone
  have hnone := congrArg List.length htrain
  rw [List.length_map, List.length_map, hlen] at hnone
  revert hnone
  change 1 = ([boardAtZero].dropWhile fun b => decide (exitPosition narrowExit.tbs + exitWindow narrowExit.tbs
    < signedDiff narrowExit.btk.position b.lead)).length → False
  rw [List.dropWhile_cons, if_pos narrowExit_passed]
  exact Nat.one_ne_zero

end Sys2Proof.Machine
end

section
/-! What an event leaves of records found by their number, the defects and reports that wait in it, and the topside check (R132, R133,
R134). -/

namespace Sys2Proof.Machine

/-! ## Records by their number -/

theorem findBoard_cons (b : Board) (l : List Board) (n : BoardNo) :
    findBoard (b :: l) n = if b.number = n then some b else findBoard l n := by
  by_cases h : b.number = n
  · rw [if_pos h, findBoard, List.find?_cons_of_pos (by simpa using h)]
  · rw [if_neg h, findBoard, List.find?_cons_of_neg (by simpa using h), findBoard]

/-- Trains with the same numbers find records with the same key. -/
theorem findBoard_key {κ : Type} {key : Board → κ} (hk : ∀ b c : Board, key c = key b → c.number = b.number) {l m : List Board}
    (h : m.map key = l.map key) (n : BoardNo) : (findBoard m n).map key = (findBoard l n).map key := by
  induction l generalizing m with
  | nil => rw [List.map_eq_nil_iff.mp h]
  | cons b l ih =>
    obtain ⟨c, m', rfl, hhead, htail⟩ := List.map_eq_cons_iff.mp h
    rw [findBoard_cons, findBoard_cons, hk b c hhead]
    split
    · rw [Option.map_some, Option.map_some, hhead]
    · exact ih htail

theorem findBoard_written {ks : List TaskKind} {l m : List Board} {n : BoardNo} {b : Board} (h : List.Forall₂ (Written ks) l m)
    (hb : findBoard l n = some b) : ∃ c, findBoard m n = some c ∧ Written ks b c := by
  induction h with
  | nil => cases hb
  | cons hw _ ih =>
    rw [findBoard_cons] at hb
    rw [findBoard_cons, number_of_place hw.place]
    split at hb
    · next heq =>
      cases hb
      exact ⟨_, if_pos heq, hw⟩
    · next hne =>
      rw [if_neg hne]
      exact ih hb

/-! ## Reports and defects that wait -/

/-- An EVENT alarm that an event reports is raised by its end. -/
theorem settle_tells {a : AlarmIx} {s : State} {ts : List Task} (hk : alarmKind a = .event) (hm : (s.tbs.alarms[a]).masked = false)
    (hts : ∀ t ∈ ts, t.kind ∉ cycleKinds) (hmem : .event a ∈ ts) (n : Nat) :
    (settle n ts s).overrun = true ∨ RaisedNow (settle n ts s) a := by
  obtain ⟨pre, post, rfl⟩ := List.append_of_mem hmem
  have hpre : ∀ t ∈ pre, t.kind ∉ cycleKinds := fun t ht => hts t (List.mem_append_left _ ht)
  obtain ⟨m, u, -, hu, h⟩ | ⟨u, -, h⟩ := settle_append (P := AlarmsMoved s) (Q := fun t => t.kind ∉ cycleKinds)
    (fun _ u ht hu => hu.trans (handle_moved u ht)) (fun _ u ht _ => handle_emits_no_cycle u ht) n pre (.event a :: post) s hpre (.refl s)
  · rw [h]
    obtain _ | m := m
    · exact .inl rfl
    · rw [settle_cons]
      have hraised : RaisedNow (handle (.event a) u).1 a := (takeEvent_raises (by rw [hu.entries]; exact hm) hk).1
      refine .inr ((settle_moved m _ fun t ht => ?_).raisedNow hraised)
      obtain ht | ht := List.mem_append.mp ht
      · exact handle_emits_no_cycle (t := .event a) u (by simp [Task.kind, cycleKinds]) t ht
      · exact hts t (List.mem_append_right _ (List.mem_cons_of_mem _ ht))
  · exact .inl (by rw [h])

/-- A board in the train with a defect in its defect set. -/
def HasDefect (s : State) (n : BoardNo) (d : Defect) : Prop :=
  ∃ b, findBoard s.btk.train n = some b ∧ b.defects &&& defectBit d = defectBit d

theorem HasDefect.written {ks : List TaskKind} {s t : State} {n : BoardNo} {d : Defect} (h : HasDefect s n d)
    (hw : RecordsWritten ks s t) : HasDefect t n d := by
  obtain ⟨b, hb, hd⟩ := h
  obtain ⟨c, hc, hbc⟩ := findBoard_written hw.train hb
  exact ⟨c, hc, hbc.defects _ hd⟩

theorem writeDefect_has {s : State} {n : BoardNo} (d : Defect) (h : (findBoard s.btk.train n).isSome = true) :
    HasDefect (writeDefect n d s).1 n d := by
  obtain ⟨b, hb⟩ := Option.isSome_iff_exists.mp h
  refine ⟨{ b with defects := b.defects ||| defectBit d, disposition := .rework }, ?_, ?_⟩
  · simp only [writeDefect, hb, mapBoard]
    exact findBoard_map (f := fun b => { b with defects := b.defects ||| defectBit d, disposition := .rework }) (fun _ => rfl) hb
  · dsimp only
    rw [BitVec.or_comm]
    exact covers_or _ BitVec.and_self

/-- A defect waits for a board in the train, or the board has it. -/
structure Defecting (n : BoardNo) (d : Defect) (ts : List Task) (u : State) : Prop where
  kinds : ∀ t ∈ ts, t.kind ∈ recordKinds
  found : (findBoard u.btk.train n).isSome = true
  waits : .defect n d ∈ ts ∨ HasDefect u n d

theorem Defecting.next {n : BoardNo} {d : Defect} {t : Task} {ts : List Task} {u : State} (h : Defecting n d (t :: ts) u) :
    Defecting n d ((handle t u).2 ++ ts) (handle t u).1 := by
  have ht := h.kinds t (List.mem_cons_self ..)
  have hw : RecordsWritten recordKinds u (handle t u).1 := handle_written u ht ht
  refine ⟨fun w hw => (List.mem_append.mp hw).elim (handle_stays_among u ht w) fun hw => h.kinds w (List.mem_cons_of_mem _ hw), ?_, ?_⟩
  · obtain ⟨b, hb⟩ := Option.isSome_iff_exists.mp h.found
    obtain ⟨c, hc, -⟩ := findBoard_written hw.train hb
    rw [hc]
    rfl
  · obtain hwait | hhas := h.waits
    · obtain rfl | hwait := List.mem_cons.mp hwait
      · exact .inr (writeDefect_has d h.found)
      · exact .inl (List.mem_append_right _ hwait)
    · exact .inr (hhas.written hw)

theorem settle_defect {n : BoardNo} {d : Defect} {ts : List Task} {s : State} (h : Defecting n d ts s) (k : Nat) :
    (settle k ts s).overrun = true ∨ HasDefect (settle k ts s) n d :=
  settle_holds (I := Defecting n d) (P := fun w => w.overrun = true ∨ HasDefect w n d) (fun _ _ _ h => h.next)
    (fun _ h => .inr (by simpa using h.waits)) (fun _ _ _ => .inl rfl) k ts s h

/-- A hand-over behind others is reached with what they keep, or the event is given up. -/
theorem settle_reaches {P : State → Prop} {Q : Task → Prop} (keeps : ∀ t s, Q t → P s → P (handle t s).1)
    (emits : ∀ t s, Q t → P s → ∀ u ∈ (handle t s).2, Q u) (n : Nat) (pre : List Task) (T : Task) (post : List Task) (s : State)
    (hq : ∀ u ∈ pre, Q u) (hs : P s) : (settle n (pre ++ T :: post) s).overrun = true
      ∨ ∃ m u, P u ∧ settle n (pre ++ T :: post) s = settle m ((handle T u).2 ++ post) (handle T u).1 := by
  obtain ⟨m, u, -, hu, h⟩ | ⟨u, -, h⟩ := settle_append keeps emits n pre (T :: post) s hq hs
  · obtain _ | m := m
    · exact .inl (by rw [h]; rfl)
    · exact .inr ⟨m, u, hu, by rw [h, settle_cons]⟩
  · exact .inl (by rw [h])

/-! ## The captures of PHM -/

/-- The kinds that write into records and leave the captures. -/
def uncapturingKinds : List TaskKind := recordKinds.filter fun k => !([.phmNewRecord, .phmRemoved, .phmArm] : List TaskKind).contains k

theorem uncapturing_records : uncapturingKinds ⊆ recordKinds := List.filter_subset_self _

theorem handle_captures {t : Task} (s : State) (ht : t.kind ∈ uncapturingKinds) : (handle t s).1.phm.captures = s.phm.captures := by
  by_cases hq : quiet t = true
  · obtain ⟨-, -, -, -, -, -, -, -, -, -, h, -⟩ := handle_undisturbed t s hq
    exact h
  · have hphm : Block.phm ∉ touched t := by
      intro hin
      cases t <;> simp [touched] at hin <;> first | exact hq rfl | exact absurd ht (by simp only [Task.kind]; decide)
    rw [show (handle t s).1.phm = s.phm from (handle_touches t s).same .phm hphm]

theorem settle_captures (n : Nat) {ts : List Task} (s : State) (hts : Among uncapturingKinds ts) :
    (settle n ts s).phm.captures = s.phm.captures :=
  settle_kinds (P := fun u => u.phm.captures = s.phm.captures) uncapturingKinds (by decide)
    (fun _ u ht hu => (handle_captures u ht).trans hu) (fun _ hu => hu) n ts s hts rfl

/-! ## Arming at a GOOD encoder sample (R132) -/

/-- No head is missing: the event of an encoder sample takes none out. -/
structure Untaken (s u : State) : Prop where
  left : HeadsLeft 0 s u
  captures : u.phm.captures = s.phm.captures
  sig : u.sig = s.sig

theorem missingTest_none {s u : State} (hnone : s.btk.train.takeWhile (headMissing s) = []) (h : HeadsLeft 0 s u) :
    handle .missingTest u = (u, []) := by
  refine missingTest_ends fun b rest hs => ?_
  have hcount := takeWhile_length_of_key (fun b c hbc => missingTest_sweeps.same h hbc) h.train
  rw [List.drop_zero, hnone, List.length_nil, List.length_eq_zero_iff, hs, List.takeWhile_cons] at hcount
  by_contra hp
  rw [Bool.not_eq_false] at hp
  rw [if_pos hp] at hcount
  cases hcount

theorem settle_phmArm {s : State} (hnone : s.btk.train.takeWhile (headMissing s) = []) (n : Nat) (ns : List BoardNo) :
    (settle n (ns.map (fun n => Task.defect n .trackUnsure) ++ .missingTest :: encoderRest) s).overrun = true
      ∨ ∃ m u, Untaken s u ∧ settle n (ns.map (fun n => Task.defect n .trackUnsure) ++ .missingTest :: encoderRest) s =
          settle m ((phmArm u).2 ++ [.potSample, .duct1Demand, .hldEncoder]) (phmArm u).1 := by
  have hsplit : ns.map (fun n => Task.defect n .trackUnsure) ++ .missingTest :: encoderRest =
      (ns.map (fun n => Task.defect n .trackUnsure) ++ [.missingTest, .entryBlocked true, .admission, .noMotion, .a41Btk true, .flxSample,
        .phmDecide]) ++ .phmArm :: [.potSample, .duct1Demand, .hldEncoder] := by
    rw [List.append_assoc]
    rfl
  rw [hsplit]
  refine settle_reaches (P := Untaken s) (Q := fun t => t = .missingTest ∨ t.kind ∈ uncapturingKinds) (fun t u ht hu => ?_)
    (fun t u ht hu w hw => ?_) n _ .phmArm _ s (fun t ht => ?_) ⟨.refl s, rfl, rfl⟩
  · obtain rfl | ht := ht
    · rw [missingTest_none hnone hu.left]
      exact hu
    · exact ⟨hu.left.trans (handle_left u (uncapturing_records ht)), (handle_captures u ht).trans hu.captures,
        (handle_sig u fun h => by rw [h] at ht; revert ht; decide).trans hu.sig⟩
  · obtain rfl | ht := ht
    · rw [missingTest_none hnone hu.left] at hw
      cases hw
    · exact .inr (among_iff.mp (handle_among (by decide) u ht) w hw)
  · obtain ht | ht := List.mem_append.mp ht
    · obtain ⟨n, -, rfl⟩ := List.mem_map.mp ht
      exact .inr (by simp only [Task.kind]; decide)
    · obtain rfl | ht := List.mem_cons.mp ht
      · exact .inl rfl
      · have hall : ∀ w ∈ [Task.entryBlocked true, .admission, .noMotion, .a41Btk true, .flxSample, .phmDecide],
            w.kind ∈ uncapturingKinds := by decide
        exact .inr (hall t ht)

/-- The midpoint of a board of the train has passed the pyrometer (R132). -/
def MidpointPassed (s : State) (position : Word32) (n : BoardNo) : Prop :=
  ∃ b, findBoard s.btk.train n = some b
    ∧ 0 < signedDiff position b.lead - Int.tdiv (b.length.getD 0) 2 - pyrometerPosition s.tbs

theorem midpointPassed_iff (s : State) (n : BoardNo) (x : CaptureState) :
    midpointPassed s (n, x) = true ↔ x = .waiting ∧ MidpointPassed s s.btk.position n := by
  simp only [midpointPassed, Bool.and_eq_true, beq_iff_eq, MidpointPassed, midpoint, boardOffset]
  refine and_congr Iff.rfl ?_
  cases findBoard s.btk.train n <;> simp

theorem MidpointPassed.of_key {s u : State} (ht : pyrometerPosition u.tbs = pyrometerPosition s.tbs)
    (h : u.btk.train.map headKey = s.btk.train.map headKey) (position : Word32) (n : BoardNo) :
    MidpointPassed u position n ↔ MidpointPassed s position n := by
  have hfind := findBoard_key (fun b c hbc => congrArg (fun k => k.1) hbc) h n
  unfold MidpointPassed
  rw [ht]
  cases hs : findBoard s.btk.train n with
  | none =>
    rw [hs, Option.map_none, Option.map_eq_none_iff] at hfind
    simp [hfind]
  | some b =>
    rw [hs, Option.map_some, Option.map_eq_some_iff] at hfind
    obtain ⟨c, hc, hkey⟩ := hfind
    simp only [headKey, Prod.mk.injEq] at hkey
    simp [hc, hkey]

end Sys2Proof.Machine
end

section
/-! The topside check (R132, R133, R134). -/

namespace Sys2Proof.Machine

/-! ## Arming at a GOOD encoder sample (R132) -/

/-- The captures that the test of the midpoints leaves. -/
theorem phmArm_captures (s : State) : (phmArm s).1.phm.captures =
    s.phm.captures.map fun c => if midpointPassed s c then (c.1, if usable s (S 9) then .armed else .unknown) else c := rfl

theorem phmArm_tells {s : State} {n : BoardNo} (hc : (n, CaptureState.waiting) ∈ s.phm.captures)
    (hp : MidpointPassed s s.btk.position n) (hu : usable s (S 9) = false) : Task.defect n .tempUnknown ∈ (phmArm s).2 := by
  simp only [phmArm, hu, Bool.false_eq_true, if_false]
  exact List.mem_map.mpr ⟨(n, .waiting), List.mem_filter.mpr ⟨hc, (midpointPassed_iff s n _).mpr ⟨rfl, hp⟩⟩, rfl⟩

theorem usable_iff (s : State) (i : SigIx) : usable s i = true ↔ (s.sig[i]).freshness = .fresh ∧ (s.sig[i]).status = some .good := by
  simp only [usable, Bool.and_eq_true, beq_iff_eq]

/-- A place of the captures after the test of the midpoints. -/
structure ArmedAt (s t : State) (i : Nat) (n : BoardNo) (x : CaptureState) : Prop where
  same : ¬(x = .waiting ∧ MidpointPassed s t.btk.position n) → t.phm.captures[i]? = some (n, x)
  armed : x = .waiting → MidpointPassed s t.btk.position n → usable s (S 9) = true → t.phm.captures[i]? = some (n, .armed)
  unknown : x = .waiting → MidpointPassed s t.btk.position n → ¬usable s (S 9) = true →
    t.phm.captures[i]? = some (n, .unknown) ∧ HasDefect t n .tempUnknown

/-- The hand-overs behind the test of the midpoints. -/
theorem phmArm_after (s : State) : ∀ t ∈ (phmArm s).2 ++ [.potSample, .duct1Demand, .hldEncoder], t.kind ∈ uncapturingKinds := by
  intro t ht
  obtain ht | ht := List.mem_append.mp ht
  · exact among_iff.mp (Among.mono (ks := emitted .phmArm) (handle_emits .phmArm s) (by decide)) t ht
  · have hall : ∀ w ∈ [Task.potSample, .duct1Demand, .hldEncoder], w.kind ∈ uncapturingKinds := by decide
    exact hall t ht

theorem settle_armed (m : Nat) (s : State) {i : Nat} {n : BoardNo} {x : CaptureState} (hi : s.phm.captures[i]? = some (n, x)) :
    (settle m ((phmArm s).2 ++ [.potSample, .duct1Demand, .hldEncoder]) (phmArm s).1).overrun = true
      ∨ ArmedAt s (settle m ((phmArm s).2 ++ [.potSample, .duct1Demand, .hldEncoder]) (phmArm s).1) i n x := by
  have hkinds := phmArm_after s
  have hcaptures := settle_captures m (phmArm s).1 (among_iff.mpr hkinds)
  have hpos : (settle m ((phmArm s).2 ++ [.potSample, .duct1Demand, .hldEncoder]) (phmArm s).1).btk.position = s.btk.position :=
    (settle_left (s := (phmArm s).1) (fun t ht => uncapturing_records (hkinds t ht)) m).position
  have hat : (settle m ((phmArm s).2 ++ [.potSample, .duct1Demand, .hldEncoder]) (phmArm s).1).phm.captures[i]? =
      some (if midpointPassed s (n, x) then (n, if usable s (S 9) then .armed else .unknown) else (n, x)) := by
    rw [hcaptures, phmArm_captures, List.getElem?_map, hi]
    rfl
  have hdefect : x = .waiting → MidpointPassed s s.btk.position n → ¬usable s (S 9) = true →
      (settle m ((phmArm s).2 ++ [.potSample, .duct1Demand, .hldEncoder]) (phmArm s).1).overrun = true
        ∨ HasDefect (settle m ((phmArm s).2 ++ [.potSample, .duct1Demand, .hldEncoder]) (phmArm s).1) n .tempUnknown := by
    rintro rfl hp hu
    refine settle_defect ⟨fun t ht => uncapturing_records (hkinds t ht), ?_, .inl (List.mem_append_left _ ?_)⟩ m
    · obtain ⟨b, hb, -⟩ := hp
      exact Option.isSome_iff_exists.mpr ⟨b, hb⟩
    · exact phmArm_tells (List.mem_of_getElem? hi) hp (Bool.eq_false_iff.mpr hu)
  generalize settle m ((phmArm s).2 ++ [.potSample, .duct1Demand, .hldEncoder]) (phmArm s).1 = t at hat hpos hdefect
  by_cases hdone : t.overrun = true
  · exact .inl hdone
  · refine .inr ⟨fun h => ?_, fun hx hp hu => ?_, fun hx hp hu => ⟨?_, ?_⟩⟩
    · rw [hpos, ← midpointPassed_iff] at h
      rw [hat, if_neg h]
    · rw [hpos] at hp
      rw [hat, if_pos ((midpointPassed_iff s n x).mpr ⟨hx, hp⟩), if_pos hu]
    · rw [hpos] at hp
      rw [hat, if_pos ((midpointPassed_iff s n x).mpr ⟨hx, hp⟩), if_neg hu]
    · rw [hpos] at hp
      exact (hdefect hx hp hu).resolve_left hdone

theorem captures_length (m : Nat) (s : State) :
    (settle m ((phmArm s).2 ++ [.potSample, .duct1Demand, .hldEncoder]) (phmArm s).1).phm.captures.length = s.phm.captures.length := by
  rw [settle_captures m (phmArm s).1 (among_iff.mpr (phmArm_after s)), phmArm_captures, List.length_map]

/-- Where no head leaves the train at a GOOD encoder sample, its numbers stay, and the other way round. -/
theorem none_missing {s t : State} {k : Nat} (h : HeadsLeft k s t) (hk : k ≤ s.btk.train.length)
    (hnumbers : t.btk.train.map (·.number) = s.btk.train.map (·.number)) : k = 0 := by
  have hlen := congrArg List.length hnumbers
  have hleft := congrArg List.length h.train
  simp only [List.length_map, List.length_drop] at hlen hleft
  omega

/-- R132 at the event of a GOOD encoder sample. -/
theorem encoder_arms {c : SampleCell} {s : State} {v : Word16} (hv : verdict s.lif.openCycle (sampleRaw c) = .toSig)
    (hseq : c.sequence.toNat ≤ 63) (ha : arrivalsOf s c = [(S 10, 0, v)]) : ∃ t, exec (.sample c) s = .next t
      ∧ (t.overrun = false → t.btk.train.map (·.number) = s.btk.train.map (·.number) →
          t.phm.captures.length = s.phm.captures.length
          ∧ ∀ (i : Nat) (n : BoardNo) (x : CaptureState), s.phm.captures[i]? = some (n, x) → ArmedAt s t i n x) := by
  obtain ⟨n, t, u, ns, -, ht, hmoved, -, hend⟩ := exec_encoder_event hv hseq ha
  refine ⟨t, ht, fun hdone hnumbers => ?_⟩
  have hall := hend.eq hdone
  have hnone : u.btk.train.takeWhile (headMissing u) = [] := by
    have hsettled := settle_missingTest (s := u) (trackUnsure_kinds ns) encoderRest_kinds n
    rw [← hall] at hsettled
    obtain ⟨hleft, -⟩ := hsettled.resolve_left (by rw [hdone]; exact Bool.false_ne_true)
    refine List.length_eq_zero_iff.mp (none_missing hleft (List.takeWhile_prefix _).length_le ?_)
    rw [hnumbers]
    exact (map_of_key (fun b c h => congrArg (fun k => k.1) h) hmoved.heads).symm
  have hreach := settle_phmArm hnone n ns
  rw [← hall] at hreach
  obtain ⟨m, w, hw, htw⟩ := hreach.resolve_left (by rw [hdone]; exact Bool.false_ne_true)
  have hcap : w.phm.captures = s.phm.captures := hw.captures.trans (by rw [hmoved.rest]; rfl)
  have husable : usable w (S 9) = usable s (S 9) := by
    have hsig : w.sig[S 9] = s.sig[S 9] := by
      rw [hw.sig, hmoved.rest]
      exact vset_other _ (by decide : S 10 ≠ S 9) _
    rw [usable, usable, hsig]
  have hheads : w.btk.train.map headKey = s.btk.train.map headKey :=
    (map_of_key headKey_of_place hw.left.train).trans hmoved.heads
  have hpassed (n : BoardNo) : MidpointPassed w t.btk.position n ↔ MidpointPassed s t.btk.position n :=
    MidpointPassed.of_key (by rw [hw.left.tables.1, hmoved.tbs]; rfl) hheads _ n
  refine ⟨by rw [htw, captures_length, hcap], fun i b x hi => ?_⟩
  have harmed := settle_armed m w (i := i) (n := b) (x := x) (by rw [hcap]; exact hi)
  rw [← htw] at harmed
  obtain ⟨hsame, harm, hunknown⟩ := harmed.resolve_left (by rw [hdone]; exact Bool.false_ne_true)
  rw [hpassed, husable] at *
  exact ⟨hsame, harm, hunknown⟩

/-! ## An arrival of the pyrometer (R133, R134) -/

theorem foldl_mapBoard {f : Board → Board} (hnumber : ∀ b, (f b).number = b.number) (hidem : ∀ b, f (f b) = f b) (ns : List BoardNo) (s : State) :
    ns.foldl (fun s n => mapBoard s n f) s =
      { s with btk := { s.btk with train := s.btk.train.map fun b => if b.number ∈ ns then f b else b } } := by
  induction ns generalizing s with
  | nil => simp
  | cons n ns ih =>
    rw [List.foldl_cons, ih]
    simp only [mapBoard, List.map_map]
    congr 2
    refine List.map_congr_left fun b _ => ?_
    by_cases hn : b.number = n
    · simp [hn, hnumber, hidem]
    · simp [hn]

/-- The state that an arrival of S9 makes before the band checks. -/
def topsideTaken (good : Bool) (x : Int) (s : State) : State :=
  { s with phm := { s.phm with captures := s.phm.captures.map fun c =>
             if c.2 = .armed then (c.1, if good then CaptureState.taken else .unknown) else c },
           btk := { s.btk with train := s.btk.train.map fun b =>
             if good ∧ (b.number, CaptureState.armed) ∈ s.phm.captures then { b with topside := some x } else b } }

theorem mem_armedBoards (s : State) (n : BoardNo) : n ∈ armedBoards s ↔ (n, CaptureState.armed) ∈ s.phm.captures := by
  simp only [armedBoards, List.mem_map, List.mem_filter, beq_iff_eq]
  constructor
  · rintro ⟨⟨m, x⟩, ⟨hin, rfl⟩, rfl⟩
    exact hin
  · exact fun h => ⟨(n, .armed), ⟨h, rfl⟩, rfl⟩

theorem pyrometer_good (s : State) : pyrometer .good s =
    (topsideTaken true (lastGood s (S 9)) s, (armedBoards s).flatMap (bandTasks s (lastGood s (S 9)))) := by
  simp only [pyrometer, if_true]
  refine Prod.ext ?_ rfl
  rw [foldl_mapBoard (f := fun b => { b with topside := some (lastGood s (S 9)) }) (fun _ => rfl) (fun _ => rfl)]
  simp only [decideArmed, topsideTaken, mem_armedBoards, true_and, if_true]

theorem pyrometer_other {status : SampleStatus} (h : status ≠ .good) (x : Int) (s : State) : pyrometer status s =
    (topsideTaken false x s, (armedBoards s).map fun n => Task.defect n .tempUnknown) := by
  rw [pyrometer, if_neg h, armedUnknown]
  refine Prod.ext ?_ rfl
  simp [decideArmed, topsideTaken]

theorem pyrometer_tasks (status : SampleStatus) (s : State) : Among [.defect, .event] (pyrometer status s).2 :=
  handle_emits (.pyrometer status) s

theorem pyrometer_quiet (status : SampleStatus) (s : State) : (pyrometer status s).2.all quiet = true :=
  List.all_eq_true.mpr fun t ht => quiet_of_kind (among_iff.mp (Among.mono (pyrometer_tasks status s) (by decide)) t ht)

theorem pyrometer_records (status : SampleStatus) (s : State) : ∀ t ∈ (pyrometer status s).2, t.kind ∈ recordKinds :=
  among_iff.mp (Among.mono (pyrometer_tasks status s) (by decide))

/-- A GOOD arrival of S9 (R16). -/
def TopsideGood (code : Nat) (v : Word16) : Prop := code = 0 ∧ -500 ≤ v.toInt ∧ v.toInt ≤ 6000

theorem arrivalStatus_topside (code : Nat) (v : Word16) : arrivalStatus (S 9) code v = .good ↔ TopsideGood code v := by
  have hreading : reading (S 9) v = v.toInt := rfl
  have hvalid : validValue (S 9) v.toInt = true ↔ -500 ≤ v.toInt ∧ v.toInt ≤ 6000 := by
    rw [validValue, if_pos (by decide)]
    exact decide_eq_true_iff
  rw [arrivalStatus, hreading, TopsideGood, ← hvalid]
  split
  · next hcode => cases validValue (S 9) v.toInt <;> simp [hcode]
  · next hcode => split <;> simp [hcode]

theorem toldOf_topside (code : Nat) (v : Word16) : toldOf (S 9, code, v) = [.pyrometer (arrivalStatus (S 9) code v)] := rfl

section
variable {c : SampleCell} {s : State} {code : Nat} {v : Word16} (hv : verdict s.lif.openCycle (sampleRaw c) = .toSig)
  (hseq : c.sequence.toNat ≤ 63) (ha : arrivalsOf s c = [(S 9, code, v)])
include hv hseq ha

theorem exec_topside : ∃ n t, exec (.sample c) s = .next t
    ∧ EndsAs t (settle n (pyrometer (arrivalStatus (S 9) code v) (arrived s (S 9, code, v))).2
        (pyrometer (arrivalStatus (S 9) code v) (arrived s (S 9, code, v))).1) := by
  obtain ⟨n, t, hn, ht, hend⟩ := exec_single hv hseq ha
  obtain ⟨m, rfl⟩ : ∃ m, n = m + 1 := ⟨n - 1, by omega⟩
  rw [toldOf_topside, settle_cons, List.append_nil] at hend
  exact ⟨m, t, ht, hend⟩

theorem exec_topside_untold (h : (pyrometer (arrivalStatus (S 9) code v) (arrived s (S 9, code, v))).2 = []) :
    exec (.sample c) s = .next (pyrometer (arrivalStatus (S 9) code v) (arrived s (S 9, code, v))).1 := by
  refine exec_single_short hv hseq ha (k := 1) ?_ (by decide) ?_
  · rw [toldOf_topside]
    exact .one (Prod.ext rfl h)
  · rw [show (pyrometer (arrivalStatus (S 9) code v) (arrived s (S 9, code, v))).1.tbs = s.tbs from
      (handle_touches (.pyrometer (arrivalStatus (S 9) code v)) (arrived s (S 9, code, v))).same .tbs (by simp [touched])]

end

theorem lastGood_topside {s : State} {code : Nat} {v : Word16} (h : TopsideGood code v) :
    lastGood (arrived s (S 9, code, v)) (S 9) = v.toInt :=
  lastGood_arrived ((arrivalStatus_topside code v).mpr h)

theorem pyrometer_taken (s : State) (code : Nat) (v : Word16) : ∃ g : Bool, (g = true ↔ TopsideGood code v)
    ∧ (pyrometer (arrivalStatus (S 9) code v) (arrived s (S 9, code, v))).1 = topsideTaken g v.toInt (arrived s (S 9, code, v)) := by
  by_cases h : TopsideGood code v
  · refine ⟨true, by simp [h], ?_⟩
    rw [(arrivalStatus_topside code v).mpr h, pyrometer_good, lastGood_topside h]
  · refine ⟨false, by simp [h], ?_⟩
    rw [pyrometer_other (fun hs => h ((arrivalStatus_topside code v).mp hs)) v.toInt]

theorem bandTasks_outside {s : State} {n : BoardNo} {b : Board} {m : FieldMap} {x : Int} (hb : findBoard s.btk.train n = some b)
    (hm : bankOf s.tbs b = some m) : bandTasks s x n =
      if topsideMinimum m ≤ x ∧ x ≤ topsideMaximum m then [] else [.defect n .temp, .event (A 29)] := by
  simp only [bandTasks, bankOfBoard, Option.bind_some, hb, hm]

theorem bandTasks_none {s : State} {n : BoardNo} {x : Int} (h : ∀ b m, findBoard s.btk.train n = some b → bankOf s.tbs b = some m →
    topsideMinimum m ≤ x ∧ x ≤ topsideMaximum m) : bandTasks s x n = [] := by
  cases hb : findBoard s.btk.train n with
  | none => simp only [bandTasks, bankOfBoard, Option.bind_some, hb, Option.bind_none]
  | some b =>
    cases hm : bankOf s.tbs b with
    | none => simp only [bandTasks, bankOfBoard, Option.bind_some, hb, hm]
    | some m => rw [bandTasks_outside hb hm, if_pos (h b m hb hm)]

/-- What follows from an arrival of S9 for a board that it measures. -/
theorem pyrometer_tells {s : State} {code : Nat} {v : Word16} {n : BoardNo} (hn : (n, CaptureState.armed) ∈ s.phm.captures) :
    (¬TopsideGood code v →
      Task.defect n .tempUnknown ∈ (pyrometer (arrivalStatus (S 9) code v) (arrived s (S 9, code, v))).2)
    ∧ (TopsideGood code v → ∀ b m, findBoard s.btk.train n = some b → bankOf s.tbs b = some m →
        ¬(topsideMinimum m ≤ v.toInt ∧ v.toInt ≤ topsideMaximum m) →
        Task.defect n .temp ∈ (pyrometer (arrivalStatus (S 9) code v) (arrived s (S 9, code, v))).2
        ∧ Task.event (A 29) ∈ (pyrometer (arrivalStatus (S 9) code v) (arrived s (S 9, code, v))).2) := by
  have harmed : n ∈ armedBoards (arrived s (S 9, code, v)) := (mem_armedBoards _ n).mpr hn
  refine ⟨fun h => ?_, fun h b m hb hm hband => ?_⟩
  · rw [pyrometer_other (fun hs => h ((arrivalStatus_topside code v).mp hs)) v.toInt]
    exact List.mem_map.mpr ⟨n, harmed, rfl⟩
  · rw [(arrivalStatus_topside code v).mpr h, pyrometer_good, lastGood_topside h]
    have hband' := bandTasks_outside (s := arrived s (S 9, code, v)) (x := v.toInt) hb hm
    rw [if_neg hband] at hband'
    exact ⟨List.mem_flatMap.mpr ⟨n, harmed, by rw [hband']; exact List.mem_cons_self ..⟩,
      List.mem_flatMap.mpr ⟨n, harmed, by rw [hband']; exact List.mem_cons_of_mem _ (List.mem_cons_self ..)⟩⟩

/-- Nothing follows where no board is ARMED, or where every ARMED board is within its band. -/
theorem pyrometer_untold {s : State} {code : Nat} {v : Word16} (h : (∀ n, (n, CaptureState.armed) ∉ s.phm.captures) ∨ (TopsideGood code v ∧
      ∀ n b m, (n, CaptureState.armed) ∈ s.phm.captures → findBoard s.btk.train n = some b → bankOf s.tbs b = some m →
        topsideMinimum m ≤ v.toInt ∧ v.toInt ≤ topsideMaximum m)) :
    (pyrometer (arrivalStatus (S 9) code v) (arrived s (S 9, code, v))).2 = [] := by
  obtain h | ⟨hgood, h⟩ := h
  · have hnone : armedBoards (arrived s (S 9, code, v)) = [] :=
      List.eq_nil_iff_forall_not_mem.mpr fun n hn => h n ((mem_armedBoards _ n).mp hn)
    by_cases hgood : TopsideGood code v
    · rw [(arrivalStatus_topside code v).mpr hgood, pyrometer_good, hnone]
      rfl
    · rw [pyrometer_other (fun hs => hgood ((arrivalStatus_topside code v).mp hs)) v.toInt, hnone]
      rfl
  · rw [(arrivalStatus_topside code v).mpr hgood, pyrometer_good, lastGood_topside hgood]
    refine List.flatMap_eq_nil_iff.mpr fun n hn => bandTasks_none fun b m hb hm => ?_
    exact h n b m ((mem_armedBoards _ n).mp hn) hb hm

theorem topsideTaken_found {s : State} {g : Bool} {x : Int} {n : BoardNo} {b : Board} (hb : findBoard s.btk.train n = some b) :
    (findBoard (topsideTaken g x s).btk.train n).isSome = true := by
  have hfind := findBoard_key (key := Board.number) (l := s.btk.train) (m := (topsideTaken g x s).btk.train) (fun _ _ h => h) (by
    simp only [topsideTaken, List.map_map]
    refine List.map_congr_left fun c _ => ?_
    rw [Function.comp_apply]
    split <;> rfl) n
  rw [hb] at hfind
  cases hf : findBoard (topsideTaken g x s).btk.train n
  · rw [hf] at hfind
    cases hfind
  · rfl

/-- Settles O34: the captures of an encoder sample are set where no head leaves, and stay; an arrival of S9 writes its captures and
temperatures first, and only defects and A29 follow. -/
theorem topsideIsCaptured : Obligations.TopsideIsCaptured := by
  refine ⟨fun c s v hv hseq ha => ?_, fun c s code v hv hseq ha => ?_⟩
  · obtain ⟨t, ht, harms⟩ := encoder_arms hv hseq ha
    refine ⟨t, ht, fun hdone hnumbers => ?_⟩
    obtain ⟨hlen, hat⟩ := harms hdone hnumbers
    refine ⟨hlen, fun i n x hi => ?_⟩
    have h := hat i n x hi
    exact ⟨h.same, fun hx hp hu => h.armed hx hp ((usable_iff s _).mpr hu),
      fun hx hp hu => h.unknown hx hp fun hu' => hu ((usable_iff s _).mp hu')⟩
  · obtain ⟨n, t, ht, hend⟩ := exec_topside hv hseq ha
    obtain ⟨g, hg, hu⟩ := pyrometer_taken s code v
    have hkinds := pyrometer_records (arrivalStatus (S 9) code v) (arrived s (S 9, code, v))
    have hund : Undisturbed (topsideTaken g v.toInt (arrived s (S 9, code, v))) t := by
      rw [← hu]
      exact hend.keeps (fun _ h => h) (settle_undisturbed n _ (pyrometer_quiet ..))
    obtain ⟨hsig, -, -, -, -, -, -, -, -, -, hcaptures, -⟩ := id hund
    refine ⟨t, ht, ?_⟩
    intro good armed measured taken
    have hmeasured : measured = fun b => if g = true ∧ (b.number, CaptureState.armed) ∈ s.phm.captures
        then { b with topside := some v.toInt } else b := funext fun b => if_congr (and_congr_left' hg.symm) rfl rfl
    have htaken : taken = topsideTaken g v.toInt (arrived s (S 9, code, v)) := by
      simp only [taken, hmeasured, hsig, hcaptures]
      rfl
    refine ⟨?_, by rw [htaken]; exact hund, fun hnone => ?_, fun hdone k b hk hb => ?_, fun hgood hband => ?_⟩
    · rw [hcaptures]
      refine List.map_congr_left fun x _ => ?_
      refine if_congr Iff.rfl (congrArg _ ?_) rfl
      exact if_congr hg rfl rfl
    · have huntold := exec_topside_untold hv hseq ha (pyrometer_untold (.inl hnone))
      rw [hu, ← htaken] at huntold
      exact Host.Outcome.next.inj (ht.symm.trans huntold)
    · have hdefect (d : Defect) (hwait : Task.defect k d ∈ (pyrometer (arrivalStatus (S 9) code v) (arrived s (S 9, code, v))).2) :
          HasDefect t k d := by
        have hfound : (findBoard (pyrometer (arrivalStatus (S 9) code v) (arrived s (S 9, code, v))).1.btk.train k).isSome = true := by
          rw [hu]
          exact topsideTaken_found (s := arrived s (S 9, code, v)) hb
        have hset := settle_defect ⟨hkinds, hfound, .inl hwait⟩ n
        rw [← hend.eq hdone] at hset
        exact hset.resolve_left (by rw [hdone]; exact Bool.false_ne_true)
      obtain ⟨hother, hband⟩ := pyrometer_tells (s := s) (code := code) (v := v) hk
      obtain ⟨b', hb'⟩ : ∃ b', findBoard t.btk.train k = some b' := by
        have hwritten := settle_written n (ks := recordKinds) (by decide) (List.Subset.refl _)
          (pyrometer (arrivalStatus (S 9) code v) (arrived s (S 9, code, v))).1 (among_iff.mpr hkinds)
        rw [← hend.eq hdone, hu] at hwritten
        obtain ⟨d, hd⟩ := Option.isSome_iff_exists.mp
          (topsideTaken_found (s := arrived s (S 9, code, v)) (g := g) (x := v.toInt) hb)
        obtain ⟨b', hb', -⟩ := findBoard_written hwritten.train hd
        exact ⟨b', hb'⟩
      refine ⟨b', hb', fun hbad => ?_, fun hgood m hm hout => ⟨?_, fun hmask => ?_⟩⟩
      · obtain ⟨d, hd, hbit⟩ := hdefect .tempUnknown (hother hbad)
        rw [hb', Option.some.injEq] at hd
        rw [hd]
        exact hbit
      · obtain ⟨d, hd, hbit⟩ := hdefect .temp (hband hgood b m hb hm hout).1
        rw [hb', Option.some.injEq] at hd
        rw [hd]
        exact hbit
      · have hmask' : ((pyrometer (arrivalStatus (S 9) code v) (arrived s (S 9, code, v))).1.tbs.alarms[A 29]).masked = false := by
          rw [hu]
          exact hmask
        have htells := settle_tells rfl hmask' (fun t ht => recordKinds_no_cycle _ (hkinds t ht)) (hband hgood b m hb hm hout).2 n
        rw [← hend.eq hdone] at htells
        have hraised := htells.resolve_left (by rw [hdone]; exact Bool.false_ne_true)
        obtain ⟨-, -, -, hlif, -⟩ := id hund
        rw [hraised, hlif]
        rfl
    · have huntold := exec_topside_untold hv hseq ha (pyrometer_untold (.inr ⟨hgood, hband⟩))
      rw [hu, ← htaken] at huntold
      exact Host.Outcome.next.inj (ht.symm.trans huntold)

end Sys2Proof.Machine
end

section
/-! POT between two encoder samples (R143 to R149): the interval, the pumps' speeds and the governed flags. -/

namespace Sys2Proof.Machine

/-! ## The governed flags (R143, R150) -/

/-- A wave record has a governed flag. -/
def WaveRecord.governed (r : WaveRecord) : Bool := r.chip.governed || r.laminar.governed

/-- The governed flags of a board, in a list of wave records. -/
def governedIn (waves : List WaveRecord) (n : BoardNo) : Bool := ((waves.find? fun r => r.board == n).getD (.clear n)).governed

theorem wasGoverned_eq (s : State) (n : BoardNo) : wasGoverned s n = governedIn s.pot.waves n := rfl

theorem governedIn_append_clear (waves : List WaveRecord) (m n : BoardNo) : governedIn (waves ++ [.clear m]) n = governedIn waves n := by
  unfold governedIn
  rw [List.find?_append]
  cases waves.find? fun r => r.board == n with
  | some r => rfl
  | none =>
    by_cases h : m = n
    · subst h
      simp [WaveRecord.clear]
    · simp [WaveRecord.clear, h]

theorem governedIn_map {g : WaveRecord → WaveRecord} (hboard : ∀ r, (g r).board = r.board)
    (hgoverned : ∀ r, r.governed = true → (g r).governed = true) {waves : List WaveRecord} {n : BoardNo} (h : governedIn waves n = true) :
    governedIn (waves.map g) n = true := by
  unfold governedIn at h ⊢
  have hsame : (fun r : WaveRecord => (g r).board == n) = fun r => r.board == n := funext fun r => by rw [hboard]
  rw [List.find?_map, Function.comp_def, hsame]
  cases hf : waves.find? fun r => r.board == n with
  | some r =>
    rw [hf] at h
    exact hgoverned r h
  | none =>
    rw [hf] at h
    exact h

theorem governedIn_filter {waves : List WaveRecord} {m n : BoardNo} (h : n ≠ m) :
    governedIn (waves.filter fun r => !(r.board == m)) n = governedIn waves n := by
  unfold governedIn
  rw [List.find?_filter]
  have hsame : (fun r : WaveRecord => decide ((!r.board == m) = true ∧ (r.board == n) = true)) = fun r => r.board == n := by
    funext r
    by_cases hr : r.board = n
    · simp [hr, h]
    · simp [hr]
  rw [hsame]

theorem setWaveFlags_governed (r : WaveRecord) (w : Wave) {f : WaveFlags → WaveFlags} (hf : ∀ x, x.governed = true → (f x).governed = true)
    (h : r.governed = true) : (setWaveFlags r w (f (waveFlags r w))).governed = true := by
  cases w <;> simp only [WaveRecord.governed, setWaveFlags, waveFlags, Bool.or_eq_true] at h ⊢
  · exact h.imp_left (hf _)
  · exact h.imp_right (hf _)

theorem mapWaveFlags_governed (s : State) (m : BoardNo) (w : Wave) {f : WaveFlags → WaveFlags}
    (hf : ∀ x, x.governed = true → (f x).governed = true) {n : BoardNo} (h : governedIn s.pot.waves n = true) :
    governedIn (mapWaveFlags s m w f).pot.waves n = true := by
  refine governedIn_map (g := fun r => if r.board = m then setWaveFlags r w (f (waveFlags r w)) else r) (fun r => ?_) (fun r hr => ?_) ?_
  · split
    · cases w <;> rfl
    · rfl
  · split
    · exact setWaveFlags_governed r w hf hr
    · exact hr
  · split
    · exact h
    · rw [governedIn_append_clear]
      exact h

/-! ## What POT keeps between two encoder samples -/

/-- The interval of the contact stays, no pump comes to speed, and a governed flag stays. -/
structure PotPace (p q : Pot) : Prop where
  lastEncoder : q.lastEncoder = p.lastEncoder
  atSpeed : ∀ w, (pumpOf q w).atSpeed = true → (pumpOf p w).atSpeed = true
  governed : ∀ n, governedIn p.waves n = true → governedIn q.waves n = true

theorem PotPace.refl (p : Pot) : PotPace p p := ⟨rfl, fun _ h => h, fun _ h => h⟩

theorem PotPace.trans {p q r : Pot} (h : PotPace p q) (k : PotPace q r) : PotPace p r :=
  ⟨k.lastEncoder.trans h.lastEncoder, fun w hw => h.atSpeed w (k.atSpeed w hw), fun n hn => k.governed n (h.governed n hn)⟩

/-- A change that moves neither the interval nor a pump nor a wave record. -/
theorem PotPace.of_same {p q : Pot} (he : q.lastEncoder = p.lastEncoder) (hp : ∀ w, pumpOf q w = pumpOf p w) (hw : q.waves = p.waves) :
    PotPace p q := ⟨he, fun w h => by rw [hp] at h; exact h, fun n h => by rw [hw]; exact h⟩

theorem potActs_pace {s : State} {e : Effect} (h : PotPace s.pot e.1.pot) : PotPace s.pot (potActs s e).1.pot :=
  potActs_keeps (P := fun u => PotPace s.pot u.pot) (.refl _) h

theorem setPump_pace (s : State) (w : Wave) {x : Pump} (h : x.atSpeed = true → (pumpOf s.pot w).atSpeed = true) :
    PotPace s.pot (setPump s w x).pot := by
  cases w
  · exact ⟨rfl, fun v hv => by cases v; exacts [h hv, hv], fun _ h => h⟩
  · exact ⟨rfl, fun v hv => by cases v; exacts [hv, h hv], fun _ h => h⟩

theorem mapWaveFlags_pace (s : State) (m : BoardNo) (w : Wave) {f : WaveFlags → WaveFlags}
    (hf : ∀ x, x.governed = true → (f x).governed = true) : PotPace s.pot (mapWaveFlags s m w f).pot :=
  ⟨rfl, fun v h => by cases v <;> exact h, fun _ h => mapWaveFlags_governed s m w hf h⟩

theorem governWave_pace (w : Wave) (s : State) : PotPace s.pot (governWave w s).pot := by
  have h : PotPace s.pot (setPump s w { pumpOf s.pot w with governing := waveGoverning s w }).pot := setPump_pace s w id
  unfold governWave
  dsimp only
  split
  · exact h.trans (mapWaveFlags_pace _ _ w fun _ _ => rfl)
  · exact h

theorem enterWindow_pace (w : Wave) (s : State) : PotPace s.pot (enterWindow w s).1.pot :=
  List.foldlRecOn (motive := fun t : State => PotPace s.pot t.pot) _ _ (.refl _) fun _ ht _ _ =>
    ht.trans (mapWaveFlags_pace _ _ w fun _ h => h)

theorem contactFlags_pace (s : State) : PotPace s.pot (contactFlags s).pot :=
  List.foldlRecOn (motive := fun t : State => PotPace s.pot t.pot) _ _ (.refl _) fun _ ht _ _ =>
    ht.trans (.trans (mapWaveFlags_pace _ _ .chip (fun _ h => by exact h)) (mapWaveFlags_pace _ _ .laminar (fun _ h => by exact h)))

theorem potStatuses_pace (atSample : Bool) (s : State) : PotPace s.pot (potStatuses atSample s).1.pot := by
  refine potActs_pace ?_
  have hk := contactFlags_pace
    { s with btk := { s.btk with train := s.btk.train.map fun b => { b with wave := nextWaveStatus s atSample b } } }
  exact ⟨hk.lastEncoder, fun w h => hk.atSpeed w (by cases w <;> exact h), hk.governed⟩

theorem startFeed_pace (s : State) : PotPace s.pot (startFeed s).pot := by
  rw [startFeed_feeder]
  exact .of_same rfl (fun w => by cases w <;> rfl) rfl

theorem potAlarm_pace (set : Bool) (s : State) : PotPace s.pot (potAlarm set s).1.pot := by
  obtain h | ⟨-, -, h⟩ | ⟨-, -, h⟩ := potAlarm_cases set s <;> rw [h] <;>
    exact .of_same rfl (fun w => by cases w <;> rfl) rfl

/-- The kinds that bring a sample to POT, or remove a wave record. -/
def paceKinds : List TaskKind := [.potContact, .loopDown, .encoderSilent, .pumpFeedback, .pumpFeedbackSilent, .potRemoved]

theorem handle_pace {t : Task} (s : State) (h : t.kind ∉ paceKinds) : PotPace s.pot (handle t s).1.pot := by
  have same : ∀ {p q : Pot}, q.lastEncoder = p.lastEncoder → q.chip = p.chip → q.laminar = p.laminar → q.waves = p.waves → PotPace p q :=
    fun he hc hl hw => .of_same he (fun w => by cases w <;> assumption) hw
  by_cases ht : Block.pot ∈ touched t
  · cases t
    case feedFaulted | potLeavesUnconfigured => exact same rfl rfl rfl rfl
    case potTemperature => exact potActs_pace (same rfl rfl rfl rfl)
    case potNewRecord n =>
      exact potActs_pace ⟨rfl, fun w h => by cases w <;> exact h, fun m hm => (governedIn_append_clear _ n m).trans hm⟩
    case setbackTimer =>
      refine potActs_pace ?_
      (repeat' split) <;> exact same rfl rfl rfl rfl
    case potGoverning => exact potActs_pace ((governWave_pace _ s).trans (governWave_pace _ _))
    case potWindows => exact potActs_pace ((enterWindow_pace _ s).trans (enterWindow_pace _ _))
    case pumpDelivered w => exact potActs_pace (setPump_pace s w fun h => absurd h Bool.false_ne_true)
    case pumpFault w evaluation => exact setPump_pace s w id
    case potEvaluate why =>
      refine potActs_pace ?_
      split <;> exact same rfl rfl rfl rfl
    case potAlarm set => exact potAlarm_pace set s
    case potStatuses atSample => exact potStatuses_pace atSample s
    case levelArrival status =>
      refine potActs_pace ?_
      (repeat' split) <;> exact same rfl rfl rfl rfl
    case levelSilent => exact potActs_pace (same rfl rfl rfl rfl)
    case potGroup g =>
      refine potActs_pace ?_
      (repeat' split) <;> exact same rfl rfl rfl rfl
    case feedEvaluate =>
      simp only [handle, feedEvaluate]
      split
      · exact startFeed_pace s
      · exact .refl _
    case settleOver =>
      simp only [handle, settleOver]
      split <;> exact same rfl rfl rfl rfl
    case settleFinish =>
      simp only [handle, settleFinish]
      split <;> exact same rfl rfl rfl rfl
    case feederRelease =>
      refine potActs_pace ?_
      split <;> exact same rfl rfl rfl rfl
    case feederRestart =>
      simp only [handle, feederRestart]
      split
      · have h : PotPace s.pot (handOperation ⟨.abort, 0, s.pot.feeder.number⟩ s).pot := by
          rw [handOperation_pot]
          exact .refl _
        exact h.trans (same rfl rfl rfl rfl)
      all_goals exact same rfl rfl rfl rfl
    case potContact | loopDown | encoderSilent | pumpFeedback | pumpFeedbackSilent | potRemoved =>
      exact absurd (by simp only [Task.kind]; decide) h
    all_goals simp [touched] at ht
  · rw [show (handle t s).1.pot = s.pot from (handle_touches t s).same .pot ht]
    exact .refl _

end Sys2Proof.Machine
end

section
/-! The boards on their way to POT's statuses at a GOOD encoder sample (R143, R147, R148, R149). -/

namespace Sys2Proof.Machine

/-! ## Hand-overs before another (settling by a list invariant) -/

/-- An invariant of the list of hand-overs and the state, kept at each of them, holds where the first part has been carried out. -/
theorem settle_prefix {I : List Task → State → Prop} (next : ∀ t ts s, I (t :: ts) s → I ((handle t s).2 ++ ts) (handle t s).1)
    (post : List Task) : ∀ (n : Nat) (pre : List Task) (s : State), I pre s →
      (settle n (pre ++ post) s).overrun = true ∨ ∃ m u, I [] u ∧ settle n (pre ++ post) s = settle m post u
  | n, [], s, h => .inr ⟨n, s, h, rfl⟩
  | 0, _ :: _, _, _ => .inl rfl
  | n + 1, t :: pre, s, h => by
    rw [List.cons_append, settle_cons, ← List.append_assoc]
    exact settle_prefix next post n _ _ (next t pre s h)

/-! ## Records that near the statuses -/

/-- The statuses that stay (R149). -/
def WaveStatus.final (w : WaveStatus) : Prop := w = .done ∨ w = .lowered

/-- A record before POT's contact and statuses: it keeps its place and its contact times, and a final status. -/
structure Nearing (b c : Board) : Prop where
  place : Machine.place c = Machine.place b
  contact : c.chipMs = b.chipMs ∧ c.laminarMs = b.laminarMs
  stays : b.wave.final → c.wave = b.wave
  waits : ¬b.wave.final → ¬c.wave.final

theorem Nearing.refl (b : Board) : Nearing b b := ⟨rfl, ⟨rfl, rfl⟩, fun _ => rfl, id⟩

theorem Nearing.trans {a b c : Board} (h : Nearing a b) (k : Nearing b c) : Nearing a c where
  place := k.place.trans h.place
  contact := ⟨k.contact.1.trans h.contact.1, k.contact.2.trans h.contact.2⟩
  stays hf := (k.stays (by rw [h.stays hf]; exact hf)).trans (h.stays hf)
  waits hf := k.waits (h.waits hf)

/-- The kinds that neither move the train nor write contact or a wave status, nor make or remove a wave record. -/
def plainKinds : List TaskKind := recordKinds.filter fun k =>
  !([.potNewRecord, .potRemoved, .potSample, .potContact, .potStatuses, .flxNewRecord, .phmNewRecord, .settleOver, .settleFinish]
    : List TaskKind).contains k

theorem plainKinds_records : plainKinds ⊆ recordKinds := List.filter_subset_self _

theorem plainKinds_spare {k : TaskKind} (h : k ∈ plainKinds) : k ≠ .potContact ∧ k ≠ .potStatuses ∧ k ∉ paceKinds := by
  revert k
  decide

theorem handle_plain_nearing {t : Task} (s : State) (h : t.kind ∈ plainKinds) :
    List.Forall₂ Nearing s.btk.train (handle t s).1.btk.train := by
  refine (handle_written s h (plainKinds_records h)).train.imp fun b c hw => ?_
  have hwave := hw.wave (by decide)
  exact ⟨hw.place, hw.contact (by decide), fun _ => hwave, fun hn => by rw [hwave]; exact hn⟩

/-- What the hand-overs before POT's contact keep. -/
structure Paced (v u : State) : Prop where
  position : u.btk.position = v.btk.position
  tables : TablesHeld v.tbs u.tbs
  line : v.mru.line ≠ .unconfigured → u.mru.line ≠ .unconfigured
  sig : u.sig = v.sig
  debt : u.pot.debt = v.pot.debt
  lastEncoder : u.pot.lastEncoder = v.pot.lastEncoder
  atSpeed : ∀ w, (pumpOf u.pot w).atSpeed = true → (pumpOf v.pot w).atSpeed = true

theorem Paced.refl (s : State) : Paced s s := ⟨rfl, .refl _, id, rfl, rfl, rfl, fun _ => id⟩

theorem Paced.trans {s t u : State} (h : Paced s t) (k : Paced t u) : Paced s u where
  position := k.position.trans h.position
  tables := h.tables.trans k.tables
  line hl := k.line (h.line hl)
  sig := k.sig.trans h.sig
  debt := k.debt.trans h.debt
  lastEncoder := k.lastEncoder.trans h.lastEncoder
  atSpeed w hw := h.atSpeed w (k.atSpeed w hw)

theorem handle_line_configured (t : Task) {s : State} (h : s.mru.line ≠ .unconfigured) : (handle t s).1.mru.line ≠ .unconfigured := by
  obtain hl | hl := handle_line t s <;> rw [hl]
  · exact h
  · decide

theorem handle_debt_kept {t : Task} (s : State) (h : t.kind ∉ [.settleFinish, .potStatuses]) : (handle t s).1.pot.debt = s.pot.debt := by
  by_cases hq : t.kind ∈ quietKinds
  · exact handle_debt s hq fun hk => h (by rw [List.mem_singleton.mp hk]; decide)
  · refine (handle_potCore s fun hk => ?_).debt
    have hsub : ∀ k ∈ feederKinds ++ [.potEvaluate, .potAlarm, .potStatuses], k ∈ quietKinds ∨ k = .potStatuses := by decide
    obtain hk | hk := hsub _ hk
    · exact hq hk
    · exact h (by rw [hk]; decide)

theorem handle_plain_paced {t : Task} (s : State) (h : t.kind ∈ plainKinds) : Paced s (handle t s).1 := by
  have hleft := handle_left s (plainKinds_records h)
  have hpace := handle_pace s (plainKinds_spare h).2.2
  have hdebt : ∀ k ∈ plainKinds, k ∉ [.settleFinish, .potStatuses] := by decide
  exact {
    position := hleft.position
    tables := hleft.tables
    line := handle_line_configured t
    sig := handle_spares (b := .sig) (ks := plainKinds) (by decide) s h
    debt := handle_debt_kept s (hdebt _ h)
    lastEncoder := hpace.lastEncoder
    atSpeed := hpace.atSpeed }

theorem handle_plain_among {t : Task} (s : State) (h : t.kind ∈ plainKinds) : ∀ u ∈ (handle t s).2, u.kind ∈ plainKinds :=
  among_iff.mp (handle_among (by decide) s h)

/-! ## The head that leaves, and POT's part in it (R149, R150) -/

theorem retire_nearing (lost : Bool) (s : State) : (retire lost s).1.btk.train = s.btk.train.drop 1 := by
  unfold retire
  split
  next h => rw [h]; rfl
  next b rest h => rw [pushReport_btk, h]; rfl


theorem potActs_acts {s : State} (h : s.mru.line ≠ .unconfigured) (e : Effect) : potActs s e = e := by
  simp [potActs, potIdle, h]

/-- The state in which POT sets the contact flags: the statuses are set. -/
def statusesSet (atSample : Bool) (s : State) : State :=
  { s with btk := { s.btk with train := s.btk.train.map fun b => { b with wave := nextWaveStatus s atSample b } } }

/-- The boards that become DONE at the statuses. -/
def becomeDone (atSample : Bool) (s : State) : List Board :=
  s.btk.train.filter fun b => b.wave != .done && nextWaveStatus s atSample b == .done

/-- The statuses' equation. -/
theorem potStatuses_acts {s : State} (h : s.mru.line ≠ .unconfigured) (atSample : Bool) :
    (potStatuses atSample s).1.btk = (statusesSet atSample s).btk
      ∧ (potStatuses atSample s).1.pot.debt = debtAfter s (becomeDone atSample s)
      ∧ (potStatuses atSample s).2 = if (becomeDone atSample s).isEmpty then [] else [.feedEvaluate] := by
  unfold potStatuses
  rw [potActs_acts h]
  exact ⟨(contactFlags_touches (statusesSet atSample s)).same .btk (by decide), rfl, rfl⟩

/-- Outside a sample no status becomes final. -/
theorem nextWaveStatus_waits {s : State} {b : Board} (h : ¬b.wave.final) : ¬(nextWaveStatus s false b).final := by
  unfold nextWaveStatus
  rw [if_neg (by exact h)]
  split
  · simp [WaveStatus.final]
  · split
    · exact h
    · split <;> simp [WaveStatus.final]

theorem becomeDone_false (s : State) : becomeDone false s = [] := by
  refine List.filter_eq_nil_iff.mpr fun b _ => ?_
  by_cases hf : b.wave.final
  · rw [nextWaveStatus_final false hf]
    cases b.wave <;> simp
  · have hw : nextWaveStatus s false b ≠ .done := fun h => nextWaveStatus_waits hf (.inl h)
    simp [hw]

theorem statuses_nearing (s : State) : List.Forall₂ Nearing s.btk.train (potStatuses false s).1.btk.train := by
  by_cases hl : s.mru.line = .unconfigured
  · rw [show (potStatuses false s).1 = s by simp [potStatuses, potActs, potIdle, hl]]
    exact List.forall₂_same.mpr fun b _ => .refl b
  · rw [(potStatuses_acts hl false).1]
    refine List.forall₂_map_right_iff.mpr (List.forall₂_same.mpr fun b _ => ⟨rfl, ⟨rfl, rfl⟩, ?_, nextWaveStatus_waits⟩)
    exact fun hf => nextWaveStatus_final false hf

theorem statuses_untold (s : State) : (potStatuses false s).1.pot.debt = s.pot.debt ∧ (potStatuses false s).2 = [] := by
  by_cases hl : s.mru.line = .unconfigured
  · have h : potStatuses false s = (s, []) := by simp [potStatuses, potActs, potIdle, hl]
    rw [h]
    exact ⟨rfl, rfl⟩
  · obtain ⟨-, hdebt, htasks⟩ := potStatuses_acts hl false
    rw [hdebt, htasks, becomeDone_false]
    exact ⟨rfl, rfl⟩

/-! ## From the encoder's own part to POT's contact -/

/-- What the way to POT's contact keeps: records leave at the head alone, the others near the statuses, and a governed flag of a board
in the train stays. -/
structure Approached (v u : State) : Prop where
  paced : Paced v u
  heads : ∃ k, List.Forall₂ Nearing (v.btk.train.drop k) u.btk.train
  governed : ∀ n ∈ u.btk.train.map (·.number), governedIn v.pot.waves n = true → governedIn u.pot.waves n = true

theorem nearing_numbers {l m : List Board} (h : List.Forall₂ Nearing l m) : m.map (·.number) = l.map (·.number) := by
  induction h with
  | nil => rfl
  | cons hb _ ih => rw [List.map_cons, List.map_cons, ih, number_of_place hb.place]

theorem Approached.numbers {v u : State} (h : Approached v u) : (u.btk.train.map (·.number)).Sublist (v.btk.train.map (·.number)) := by
  obtain ⟨k, hk⟩ := h.heads
  rw [nearing_numbers hk]
  exact (List.drop_sublist k _).map _

theorem Approached.refl (s : State) : Approached s s := ⟨.refl s, ⟨0, List.forall₂_same.mpr fun b _ => .refl b⟩, fun _ _ h => h⟩

theorem nearing_trans {a b c : List Board} (h : List.Forall₂ Nearing a b) (k : List.Forall₂ Nearing b c) : List.Forall₂ Nearing a c := by
  induction h generalizing c with
  | nil => cases k; exact .nil
  | cons hb _ ih => cases k with | cons hc hl => exact .cons (hb.trans hc) (ih hl)

theorem Approached.trans {s t u : State} (h : Approached s t) (k : Approached t u) : Approached s u where
  paced := h.paced.trans k.paced
  heads := by
    obtain ⟨i, hi⟩ := h.heads
    obtain ⟨j, hj⟩ := k.heads
    refine ⟨i + j, nearing_trans ?_ hj⟩
    rw [← List.drop_drop]
    exact List.forall₂_drop j hi
  governed n hn hg := k.governed n hn (h.governed n (k.numbers.subset hn) hg)

/-- The hand-overs on the way to POT's contact. -/
def Nears (s : State) (t : Task) : Prop :=
  t.kind ∈ plainKinds ∨ t = .missingTest ∨ t = .retire true ∨ t = .potStatuses false
    ∨ ∃ n, t = .potRemoved n ∧ n ∉ s.btk.train.map (·.number)

theorem Nears.mono {s u : State} {t : Task} (h : Nears s t) (hu : Approached s u) : Nears u t := by
  obtain h | h | h | h | ⟨n, h, hn⟩ := h
  · exact .inl h
  · exact .inr (.inl h)
  · exact .inr (.inr (.inl h))
  · exact .inr (.inr (.inr (.inl h)))
  · exact .inr (.inr (.inr (.inr ⟨n, h, fun k => hn (hu.numbers.subset k)⟩)))

theorem plain_approached {t : Task} (s : State) (h : t.kind ∈ plainKinds) :
    Approached s (handle t s).1 ∧ ∀ u ∈ (handle t s).2, Nears (handle t s).1 u :=
  ⟨⟨handle_plain_paced s h, ⟨0, handle_plain_nearing s h⟩, fun n _ => (handle_pace s (plainKinds_spare h).2.2).governed n⟩,
   fun u hu => .inl (handle_plain_among s h u hu)⟩

theorem missingTest_approached (s : State) :
    Approached s (handle .missingTest s).1 ∧ ∀ u ∈ (handle .missingTest s).2, Nears (handle .missingTest s).1 u := by
  by_cases h : ∀ b rest, s.btk.train = b :: rest → headMissing s b = false
  · rw [missingTest_ends h]
    exact ⟨.refl s, fun u hu => by simp at hu⟩
  · push Not at h
    obtain ⟨b, rest, hb, hm⟩ := h
    rw [missingTest_sweeps.step s b rest hb (by simpa using hm)]
    refine ⟨.refl s, fun u hu => ?_⟩
    obtain rfl | rfl : u = .retire true ∨ u = .missingTest := by simpa using hu
    · exact .inr (.inr (.inl rfl))
    · exact .inr (.inl rfl)

theorem retire_lost_paced (s : State) : Paced s (handle (.retire true) s).1 := by
  have hsame := (handle_touches (.retire true) s).same
  have hpot : (handle (.retire true) s).1.pot = s.pot := hsame .pot (by decide)
  refine ⟨?_, (handle_configuration (.retire true) s).1, handle_line_configured _, hsame .sig (by decide), by rw [hpot], by rw [hpot],
    fun w hw => by rwa [hpot] at hw⟩
  cases h : s.btk.train with
  | nil => simp only [handle, retire, h]
  | cons b rest => exact (retire_lost h).position

theorem retire_lost_nears {s : State} (hnodup : (s.btk.train.map (·.number)).Nodup) :
    ∀ u ∈ (handle (.retire true) s).2, Nears (handle (.retire true) s).1 u := by
  intro u hu
  by_cases hk : u.kind = .potRemoved
  · refine .inr (.inr (.inr (.inr ?_)))
    rw [show (handle (.retire true) s).1.btk.train = s.btk.train.drop 1 from retire_nearing true s]
    cases h : s.btk.train with
    | nil => simp [handle, retire, h] at hu
    | cons b rest =>
      rw [h, List.map_cons, List.nodup_cons] at hnodup
      refine ⟨b.number, ?_, hnodup.1⟩
      cases u
      case potRemoved n =>
        have hn : n = b.number := by
          simp only [handle, retire, h] at hu
          cases rest <;> simpa using hu
        rw [hn]
      all_goals simp [Task.kind] at hk
  · have hsub : ∀ k ∈ emitted .retire, k ∈ plainKinds ∨ k = .potRemoved := by decide
    exact .inl ((hsub _ (among_iff.mp (handle_emits (.retire true) s) u hu)).resolve_right hk)

theorem retire_approached {s : State} (hnodup : (s.btk.train.map (·.number)).Nodup) :
    Approached s (handle (.retire true) s).1 ∧ ∀ u ∈ (handle (.retire true) s).2, Nears (handle (.retire true) s).1 u := by
  have hpot : (handle (.retire true) s).1.pot = s.pot := (handle_touches (.retire true) s).same .pot (by decide)
  refine ⟨⟨retire_lost_paced s, ⟨1, ?_⟩, fun n _ h => by rwa [hpot]⟩, retire_lost_nears hnodup⟩
  rw [show (handle (.retire true) s).1.btk.train = s.btk.train.drop 1 from retire_nearing true s]
  exact List.forall₂_same.mpr fun b _ => .refl b

theorem Paced.of_records {t : Task} {s : State} (ht : t.kind ∈ recordKinds) (hsig : Block.sig ∉ touched t)
    (hdebt : (handle t s).1.pot.debt = s.pot.debt) (hlast : (handle t s).1.pot.lastEncoder = s.pot.lastEncoder)
    (hspeed : ∀ w, (pumpOf (handle t s).1.pot w).atSpeed = true → (pumpOf s.pot w).atSpeed = true) : Paced s (handle t s).1 :=
  ⟨(handle_left s ht).position, (handle_left s ht).tables, handle_line_configured t, (handle_touches t s).same .sig hsig, hdebt, hlast,
   hspeed⟩

theorem potRemoved_approached {s : State} {m : BoardNo} (hm : m ∉ s.btk.train.map (·.number)) :
    Approached s (handle (.potRemoved m) s).1 ∧ ∀ u ∈ (handle (.potRemoved m) s).2, Nears (handle (.potRemoved m) s).1 u := by
  have htrain : (handle (.potRemoved m) s).1.btk.train = s.btk.train := by rw [(handle_touches (.potRemoved m) s).same .btk (by simp [touched])]
  by_cases hl : s.mru.line = .unconfigured
  · have h : handle (.potRemoved m) s = (s, []) := by simp [handle, potRemoved, potActs, potIdle, hl]
    rw [h]
    exact ⟨.refl s, fun u hu => by simp at hu⟩
  · have h : handle (.potRemoved m) s = ({ s with pot := { s.pot with waves := s.pot.waves.filter fun r => !(r.board == m) } },
      [.potGoverning, .potStatuses false, .setbackTimer]) := potActs_acts hl _
    rw [h] at htrain ⊢
    refine ⟨⟨⟨rfl, .refl _, id, rfl, rfl, rfl, fun w hw => by cases w <;> exact hw⟩, ⟨0, List.forall₂_same.mpr fun b _ => .refl b⟩,
      fun n hn hg => ?_⟩, fun u hu => ?_⟩
    · exact (governedIn_filter (ne_of_mem_of_not_mem (by exact hn) hm)).trans hg
    · obtain rfl | rfl | rfl : u = .potGoverning ∨ u = .potStatuses false ∨ u = .setbackTimer := by simpa using hu
      · exact .inl (by decide)
      · exact .inr (.inr (.inr (.inl rfl)))
      · exact .inl (by decide)

theorem statuses_approached (s : State) :
    Approached s (handle (.potStatuses false) s).1 ∧ ∀ u ∈ (handle (.potStatuses false) s).2, Nears (handle (.potStatuses false) s).1 u := by
  have hpace := potStatuses_pace false s
  refine ⟨⟨.of_records (by decide) (by decide) (statuses_untold s).1 hpace.lastEncoder hpace.atSpeed, ⟨0, statuses_nearing s⟩,
    fun n _ => hpace.governed n⟩, fun u hu => ?_⟩
  rw [show (handle (.potStatuses false) s).2 = [] from (statuses_untold s).2] at hu
  simp at hu

/-- One hand-over on the way. -/
theorem Nears.next {s : State} {t : Task} (ht : Nears s t) (hnodup : (s.btk.train.map (·.number)).Nodup) :
    Approached s (handle t s).1 ∧ ∀ u ∈ (handle t s).2, Nears (handle t s).1 u := by
  obtain h | rfl | rfl | rfl | ⟨n, rfl, hn⟩ := ht
  · exact plain_approached s h
  · exact missingTest_approached s
  · exact retire_approached hnodup
  · exact statuses_approached s
  · exact potRemoved_approached hn

/-- The hand-overs on the way bring the boards to what comes behind them. -/
theorem settle_approach {v : State} (hnodup : (v.btk.train.map (·.number)).Nodup) (n : Nat) (pre post : List Task)
    (hpre : ∀ t ∈ pre, Nears v t) :
    (settle n (pre ++ post) v).overrun = true ∨ ∃ m u, Approached v u ∧ settle n (pre ++ post) v = settle m post u := by
  have hreach := settle_prefix (I := fun ts u => Approached v u ∧ ∀ t ∈ ts, Nears u t) (fun t ts u ⟨hu, hts⟩ => ?_) post n pre v
    ⟨.refl v, hpre⟩
  · exact hreach.imp_right fun ⟨m, u, hu, h⟩ => ⟨m, u, hu.1, h⟩
  · obtain ⟨hnext, hemits⟩ := (hts t (List.mem_cons_self ..)).next (hu.numbers.nodup hnodup)
    refine ⟨hu.trans hnext, fun x hx => ?_⟩
    obtain hx | hx := List.mem_append.mp hx
    · exact hemits x hx
    · exact (hts x (List.mem_cons_of_mem _ hx)).mono hnext

end Sys2Proof.Machine
end

section
/-! Contact, wave statuses and the consumption debt at a GOOD encoder sample (R148, R149). -/

namespace Sys2Proof.Machine

/-! ## POT's contact (R148) -/

/-- The contact time that a board gains at a wave. -/
def contactGain (s : State) (w : Wave) (b : Board) : Nat :=
  match s.pot.lastEncoder with
  | none => 0
  | some last => if ((pumpOf s.pot w).atSpeed && decide (0 < (outputRecord s (pumpOutput w)).delivered)) && inContactZone s w b
      then 2 * min 8 ((s.sig[S 10]).arrivalCycle - last).toNat else 0

/-- A record after POT's contact. -/
def contacted (s : State) (b : Board) : Board :=
  { b with chipMs := b.chipMs + contactGain s .chip b, laminarMs := b.laminarMs + contactGain s .laminar b }

theorem contactGain_none {s : State} (h : s.pot.lastEncoder = none) (w : Wave) (b : Board) : contactGain s w b = 0 := by
  rw [contactGain, h]

theorem contactGain_some {s : State} {last : Word32} (h : s.pot.lastEncoder = some last) (w : Wave) (b : Board) :
    contactGain s w b = if ((pumpOf s.pot w).atSpeed = true ∧ 0 < (outputRecord s (pumpOutput w)).delivered) ∧ inContactZone s w b = true
      then 2 * min 8 ((s.sig[S 10]).arrivalCycle - last).toNat else 0 := by
  simp only [contactGain, h, Bool.and_eq_true, decide_eq_true_eq]

theorem contactGain_le (s : State) (w : Wave) (b : Board) : contactGain s w b ≤ 16 := by
  cases h : s.pot.lastEncoder with
  | none => rw [contactGain_none h]; omega
  | some last =>
    rw [contactGain_some h]
    split <;> omega

theorem contactGain_apart {s : State} {w : Wave} {b : Board} (h : inContactZone s w b = false) : contactGain s w b = 0 := by
  cases hl : s.pot.lastEncoder with
  | none => exact contactGain_none hl w b
  | some last => simp [contactGain_some hl, h]

theorem contactGain_slow {s : State} {w : Wave} (h : (pumpOf s.pot w).atSpeed = false) (b : Board) : contactGain s w b = 0 := by
  cases hl : s.pot.lastEncoder with
  | none => exact contactGain_none hl w b
  | some last => simp [contactGain_some hl, h]

/-- A wave's pump gives contact to the boards over its zone. -/
def waveRuns (s : State) (w : Wave) : Bool := (pumpOf s.pot w).atSpeed && decide (0 < (outputRecord s (pumpOutput w)).delivered)

/-- The contact time gained at one wave, written to one record. -/
def gaining (s : State) (w : Wave) (ms : Nat) (b : Board) : Board := if waveRuns s w && inContactZone s w b then addContact w ms b else b

theorem accrueWave_map (w : Wave) (ms : Nat) (s : State) :
    accrueWave w ms s = { s with btk := { s.btk with train := s.btk.train.map (gaining s w ms) } } := by
  unfold accrueWave
  dsimp only
  by_cases h : waveRuns s w = true
  · have hzone : gaining s w ms = fun b => if inContactZone s w b then addContact w ms b else b :=
      funext fun b => by rw [gaining, h, Bool.true_and]
    rw [if_pos (by exact h), hzone]
  · have hsame : gaining s w ms = id := funext fun b => by simp [gaining, h]
    rw [if_neg (by exact h), hsame, List.map_id]

theorem contacted_eq {s : State} {last : Word32} (h : s.pot.lastEncoder = some last) (b : Board) :
    contacted s b = gaining s .laminar (2 * min 8 ((s.sig[S 10]).arrivalCycle - last).toNat)
      (gaining s .chip (2 * min 8 ((s.sig[S 10]).arrivalCycle - last).toNat) b) := by
  have hgain (w : Wave) : contactGain s w b = if (waveRuns s w && inContactZone s w b) = true
      then 2 * min 8 ((s.sig[S 10]).arrivalCycle - last).toNat else 0 := by
    simp only [contactGain, h]
    rfl
  generalize 2 * min 8 ((s.sig[S 10]).arrivalCycle - last).toNat = ms at hgain
  have hzone : inContactZone s .laminar (gaining s .chip ms b) = inContactZone s .laminar b := by
    unfold gaining
    split <;> rfl
  rw [contacted, hgain, hgain, gaining, hzone, gaining]
  by_cases hc : (waveRuns s .chip && inContactZone s .chip b) = true <;>
    by_cases hl : (waveRuns s .laminar && inContactZone s .laminar b) = true <;>
    simp only [hc, hl, if_true, if_false, Bool.false_eq_true, addContact, Nat.add_zero]

theorem potContact_acts {s : State} (h : s.mru.line ≠ .unconfigured) :
    potContact s = ({ s with btk := { s.btk with train := s.btk.train.map (contacted s) },
                             pot := { s.pot with lastEncoder := some (s.sig[S 10]).arrivalCycle } }, []) := by
  unfold potContact
  rw [potActs_acts h]
  cases hl : s.pot.lastEncoder with
  | none =>
    have hsame : contacted s = id := funext fun b => by simp only [contacted, contactGain_none hl]; rfl
    rw [hsame, List.map_id]
  | some last =>
    have hmap : s.btk.train.map (contacted s) = (s.btk.train.map (gaining s .chip (2 * min 8 ((s.sig[S 10]).arrivalCycle - last).toNat))).map
        (gaining s .laminar (2 * min 8 ((s.sig[S 10]).arrivalCycle - last).toNat)) := by
      rw [List.map_map]
      exact List.map_congr_left fun b _ => contacted_eq hl b
    rw [hmap]
    simp only [accrueWave_map]
    rfl

/-- The step of R148 in the words of its statement. -/
theorem contacted_meets {s : State} {last : Word32} (h : s.pot.lastEncoder = some last) (w : Wave) (b : Board) (x : Nat) :
    x + contactGain s w b = if ((pumpOf s.pot w).atSpeed = true ∧ 0 < (outputRecord s (pumpOutput w)).delivered)
        ∧ inContactZone s w b = true then x + 2 * min 8 ((s.sig[S 10]).arrivalCycle - last).toNat else x := by
  rw [contactGain_some h]
  split <;> rfl

/-! ## The statuses at the sample (R149) -/

/-- What the wave statuses and the contact read of a record. -/
def waveKey (b : Board) : BoardNo × Option (SlotIx × BankId) × Word32 × Option Int × Nat × Nat × WaveStatus :=
  (b.number, b.bank, b.lead, b.length, b.chipMs, b.laminarMs, b.wave)

theorem encoder_waveKeys (s : State) : (encoder .good s).1.btk.train.map waveKey = s.btk.train.map waveKey := by
  simp only [encoder, if_true]
  split
  · simp only [closeGap, List.map_map]
    rfl
  · rfl

theorem contactGain_place {s : State} {w : Wave} {b c : Board} (hlead : c.lead = b.lead) (hlength : c.length = b.length) :
    contactGain s w c = contactGain s w b := by
  have hzone : inContactZone s w c = inContactZone s w b := by
    simp only [inContactZone, overlaps, boardExtent, boardOffset, hlead, hlength]
    rfl
  simp only [contactGain, hzone]

/-- A record that keeps its place, its contact times and its wave status. -/
structure Settled (b c : Board) : Prop where
  place : Machine.place c = Machine.place b
  contact : c.chipMs = b.chipMs ∧ c.laminarMs = b.laminarMs
  wave : c.wave = b.wave

/-- What the hand-overs after the statuses keep. -/
structure Rested (x t : State) : Prop where
  paced : Paced x t
  records : List.Forall₂ Settled x.btk.train t.btk.train
  governed : ∀ n, governedIn x.pot.waves n = true → governedIn t.pot.waves n = true

theorem settle_rested (n : Nat) {ts : List Task} (x : State) (hts : ∀ t ∈ ts, t.kind ∈ plainKinds) : Rested x (settle n ts x) := by
  have hkept := settle_kinds (P := fun u => Paced x u ∧ ∀ n, governedIn x.pot.waves n = true → governedIn u.pot.waves n = true)
    plainKinds (by decide)
    (fun t u ht hu => ⟨hu.1.trans (handle_plain_paced u ht), fun n hn => (handle_pace u (plainKinds_spare ht).2.2).governed n (hu.2 n hn)⟩)
    (fun u hu => ⟨hu.1.trans ⟨rfl, .refl _, id, rfl, rfl, rfl, fun _ => id⟩, hu.2⟩) n ts x (among_iff.mpr hts) ⟨.refl x, fun _ h => h⟩
  refine ⟨hkept.1, ?_, hkept.2⟩
  exact (settle_written n (by decide) plainKinds_records x (among_iff.mpr hts)).train.imp fun b c hw =>
    ⟨hw.place, hw.contact (by decide), hw.wave (by decide)⟩

/-- The event of a GOOD encoder sample at POT: `w` is the state in which the contact begins. -/
structure WavesPassed (s w t : State) : Prop where
  nears : ∃ v, v.btk.train.map waveKey = s.btk.train.map waveKey ∧ v.pot = s.pot ∧ v.tbs = s.tbs ∧ Approached v w
  line : w.mru.line ≠ .unconfigured
  position : t.btk.position = w.btk.position
  debt : t.pot.debt = debtAfter (potContact w).1 (becomeDone true (potContact w).1)
  lastEncoder : t.pot.lastEncoder = some s.lif.cycle
  records : List.Forall₂ (fun c d => Machine.place d = Machine.place c ∧ d.chipMs = c.chipMs + contactGain w .chip c
    ∧ d.laminarMs = c.laminarMs + contactGain w .laminar c ∧ d.wave = nextWaveStatus w true c) w.btk.train t.btk.train
  governed : ∀ n, governedIn w.pot.waves n = true → governedIn t.pot.waves n = true

theorem nears_contact (s : State) (ns : List BoardNo) :
    ∀ t ∈ List.map (fun n => Task.defect n .trackUnsure) ns ++ .missingTest :: encoderRest.take 7, Nears s t := by
  have hrest : ∀ t ∈ encoderRest.take 7, t.kind ∈ plainKinds := by decide
  intro t ht
  obtain ht | ht := List.mem_append.mp ht
  · obtain ⟨n, -, rfl⟩ := List.mem_map.mp ht
    exact .inl (by simp only [Task.kind]; decide)
  · obtain rfl | ht := List.mem_cons.mp ht
    · exact .inr (.inl rfl)
    · exact .inl (hrest t ht)

theorem nextWaveStatus_contacted {w : State} (h : w.mru.line ≠ .unconfigured) (b : Board) :
    nextWaveStatus (potContact w).1 true (contacted w b) = nextWaveStatus w true b := by
  rw [potContact_acts h]
  rfl

/-- The contact, the statuses, and what comes after them. -/
theorem settle_statuses {w : State} (h : w.mru.line ≠ .unconfigured) (k : Nat) {post : List Task} (hpost : ∀ t ∈ post, t.kind ∈ plainKinds)
    {t : State} (ht : t = settle k (.potContact :: .potStatuses true :: post) w) (hdone : t.overrun = false) :
    t.btk.position = w.btk.position ∧ t.pot.debt = debtAfter (potContact w).1 (becomeDone true (potContact w).1)
      ∧ t.pot.lastEncoder = some (w.sig[S 10]).arrivalCycle
      ∧ List.Forall₂ (fun c d => Machine.place d = Machine.place c ∧ d.chipMs = c.chipMs + contactGain w .chip c
          ∧ d.laminarMs = c.laminarMs + contactGain w .laminar c ∧ d.wave = nextWaveStatus w true c) w.btk.train t.btk.train
      ∧ ∀ n, governedIn w.pot.waves n = true → governedIn t.pot.waves n = true := by
  obtain _ | _ | k := k
  · rw [ht] at hdone; cases hdone
  · rw [ht, settle_cons] at hdone
    rw [show handle .potContact w = ((potContact w).1, []) by rw [handle, potContact_acts h]] at hdone
    cases hdone
  have hcontact := potContact_acts h
  generalize hy : (potContact w).1 = y
  have hyline : y.mru.line ≠ .unconfigured := by rw [← hy, hcontact]; exact h
  have hyw : potContact w = (y, []) := by rw [← hy, hcontact]
  obtain ⟨hbtk, hdebt, htasks⟩ := potStatuses_acts hyline true
  have hpace := potStatuses_pace true y
  have hrest := settle_rested k (ts := (potStatuses true y).2 ++ post) (potStatuses true y).1 (fun u hu => by
    obtain hu | hu := List.mem_append.mp hu
    · rw [htasks] at hu
      split at hu
      · cases hu
      · rw [List.mem_singleton.mp hu]; decide
    · exact hpost u hu)
  have hend : t = settle k ((potStatuses true y).2 ++ post) (potStatuses true y).1 := by
    rw [ht, settle_cons, show handle .potContact w = (y, []) from hyw, List.nil_append, settle_cons]
    rfl
  rw [← hend] at hrest
  refine ⟨?_, hrest.paced.debt.trans hdebt, ?_, ?_, fun n hn => hrest.governed n (hpace.governed n ?_)⟩
  · rw [hrest.paced.position, hbtk, ← hy, hcontact]
    rfl
  · rw [hrest.paced.lastEncoder, hpace.lastEncoder, ← hy, hcontact]
  · have htrain : (potStatuses true y).1.btk.train
        = w.btk.train.map fun c => { contacted w c with wave := nextWaveStatus w true c } := by
      rw [hbtk, ← hy]
      simp only [statusesSet, ← nextWaveStatus_contacted h]
      rw [hcontact, List.map_map]
      rfl
    have hrecords := hrest.records
    rw [htrain, List.forall₂_map_left_iff] at hrecords
    exact hrecords.imp fun c d hd => ⟨hd.place, hd.contact.1, hd.contact.2, hd.wave⟩
  · rw [← hy, hcontact]
    exact hn

theorem exec_waves {c : SampleCell} {s : State} {v : Word16} (hv : verdict s.lif.openCycle (sampleRaw c) = .toSig)
    (hseq : c.sequence.toNat ≤ 63) (ha : arrivalsOf s c = [(S 10, 0, v)]) (hline : s.mru.line ≠ .unconfigured)
    (hnodup : (s.btk.train.map (·.number)).Nodup) :
    ∃ t, exec (.sample c) s = .next t ∧ (t.overrun = false → ∃ w, WavesPassed s w t) := by
  obtain ⟨n, t, -, ht, hend⟩ := exec_encoder hv hseq ha
  refine ⟨t, ht, fun hdone => ?_⟩
  have hall := hend.eq hdone
  have hlost {P : Prop} {u : State} (hu : t = u) (h : u.overrun = true ∨ P) : P := h.resolve_left (by rw [← hu, hdone]; exact Bool.false_ne_true)
  generalize hmoved : (encoder .good (arrived s (S 10, 0, v))).1 = e at hall
  obtain ⟨ns, hns⟩ := encoder_tasks (arrived s (S 10, 0, v))
  rw [hns, show List.map (fun n => Task.defect n .trackUnsure) ns ++ .missingTest :: encoderRest
    = (List.map (fun n => Task.defect n .trackUnsure) ns ++ .missingTest :: encoderRest.take 7) ++ [.potSample, .duct1Demand, .hldEncoder]
    by simp [encoderRest]] at hall
  have he := encoder_moved (arrived s (S 10, 0, v))
  have hkeys := encoder_waveKeys (arrived s (S 10, 0, v))
  rw [hmoved] at he hkeys
  have hnumbers : e.btk.train.map (·.number) = s.btk.train.map (·.number) :=
    map_of_key (key := waveKey) (fun b c h => congrArg (fun k => k.1) h) hkeys
  obtain ⟨m, x, hx, hmx⟩ := hlost hall (settle_approach (by rw [hnumbers]; exact hnodup) n _ _ (nears_contact e ns))
  rw [hmx] at hall
  obtain _ | m := m
  · rw [hall] at hdone; cases hdone
  have hlx : x.mru.line ≠ .unconfigured := hx.paced.line (by rw [he.rest]; exact hline)
  rw [settle_cons, show handle .potSample x = (x, [.potGoverning, .potWindows, .potContact, .potStatuses true]) from potActs_acts hlx _] at hall
  obtain ⟨k, w, hw, hkw⟩ := hlost hall (settle_approach (pre := [.potGoverning, .potWindows])
    (post := [.potContact, .potStatuses true, .duct1Demand, .hldEncoder]) (hx.numbers.nodup (by rw [hnumbers]; exact hnodup)) m
    fun u hu => .inl (by revert u; decide))
  have hew := hx.trans hw
  have hlw : w.mru.line ≠ .unconfigured := hew.paced.line (by rw [he.rest]; exact hline)
  obtain ⟨hposition, hdebt, hlast, hrecords, hgoverned⟩ := settle_statuses hlw k
    (by decide) (hall.trans hkw) hdone
  refine ⟨w, ⟨e, hkeys, by rw [he.rest]; rfl, he.tbs, hew⟩, hlw, hposition, hdebt, ?_, hrecords, hgoverned⟩
  rw [hlast, hew.paced.sig, he.rest]
  exact congrArg (fun r => some r.arrivalCycle) (recordArrival_same s s.sig (S 10, 0, v))

/-! ## One record of the train -/

theorem findBoard_forall₂ {R : Board → Board → Prop} (hR : ∀ b c, R b c → c.number = b.number) {l m : List Board} {n : BoardNo} {c : Board}
    (h : List.Forall₂ R l m) (hc : findBoard m n = some c) : ∃ b, findBoard l n = some b ∧ R b c := by
  induction h with
  | nil => cases hc
  | cons hb _ ih =>
    rw [findBoard_cons] at hc ⊢
    rw [← hR _ _ hb]
    split at hc
    next hn =>
      obtain rfl := Option.some.inj hc
      exact ⟨_, if_pos hn, hb⟩
    next hn =>
      rw [if_neg hn]
      exact ih hc

theorem findBoard_drop {l : List Board} (hnodup : (l.map (·.number)).Nodup) {k : Nat} {n : BoardNo} {b : Board}
    (h : findBoard (l.drop k) n = some b) : findBoard l n = some b := by
  induction l generalizing k with
  | nil => simp at h; exact h
  | cons a l ih =>
    cases k with
    | zero => exact h
    | succ k =>
      rw [List.map_cons, List.nodup_cons] at hnodup
      have hl := ih hnodup.2 h
      rw [findBoard_cons, if_neg]
      · exact hl
      · rintro rfl
        obtain ⟨hb, hn⟩ := findBoard_mem hl
        exact hnodup.1 (List.mem_map.mpr ⟨b, hb, hn⟩)

theorem findBoard_of_mem {l : List Board} (hnodup : (l.map (·.number)).Nodup) {b : Board} (hb : b ∈ l) :
    findBoard l b.number = some b := by
  induction l with
  | nil => cases hb
  | cons a l ih =>
    rw [List.map_cons, List.nodup_cons] at hnodup
    rw [findBoard_cons]
    obtain rfl | hb := List.mem_cons.mp hb
    · exact if_pos rfl
    · rw [if_neg fun h => hnodup.1 (List.mem_map.mpr ⟨b, hb, h.symm⟩)]
      exact ih hnodup.2 hb

/-- A record at the event: `c` is the record when the contact begins. -/
structure BoardPassed (w : State) (b c d : Board) : Prop where
  number : c.number = b.number
  bank : d.bank = c.bank
  lead : c.lead = b.lead
  length : c.length = b.length
  stays : b.wave.final → c.wave = b.wave
  waits : ¬b.wave.final → ¬c.wave.final
  chip : d.chipMs = b.chipMs + contactGain w .chip c
  laminar : d.laminarMs = b.laminarMs + contactGain w .laminar c
  wave : d.wave = nextWaveStatus w true c

theorem BoardPassed.of_keys {w : State} {a b c d : Board} (hab : waveKey a = waveKey b) (hac : Nearing a c)
    (hcd : Machine.place d = Machine.place c ∧ d.chipMs = c.chipMs + contactGain w .chip c
      ∧ d.laminarMs = c.laminarMs + contactGain w .laminar c ∧ d.wave = nextWaveStatus w true c) : BoardPassed w b c d := by
  obtain ⟨hdplace, hchip, hlaminar, hwave⟩ := hcd
  have hdbank : d.bank = c.bank := congrArg (fun k => k.2.1) hdplace
  have hplace := hac.place
  simp only [waveKey, Prod.mk.injEq] at hab
  simp only [place, Prod.mk.injEq] at hplace
  obtain ⟨hn, -, hlead, hlen, hc, hl, hw⟩ := hab
  obtain ⟨hn', -, hlead', hlen', -⟩ := hplace
  have hstays := hac.stays
  have hwaits := hac.waits
  rw [hw] at hstays hwaits
  exact ⟨hn'.trans hn, hdbank, hlead'.trans hlead, hlen'.trans hlen, hstays, hwaits, by rw [hchip, hac.contact.1, hc],
    by rw [hlaminar, hac.contact.2, hl], hwave⟩

theorem WavesPassed.records_passed {s w t : State} (h : WavesPassed s w t) (hnodup : (s.btk.train.map (·.number)).Nodup) :
    List.Forall₂ (fun c d => d.number = c.number ∧ ∃ b, findBoard s.btk.train c.number = some b ∧ BoardPassed w b c d)
      w.btk.train t.btk.train := by
  obtain ⟨v, hkeys, -, -, hv⟩ := h.nears
  obtain ⟨k, hk⟩ := hv.heads
  have hnumbers : v.btk.train.map (·.number) = s.btk.train.map (·.number) :=
    map_of_key (key := waveKey) (fun b c h => congrArg (fun k => k.1) h) hkeys
  have hnodupw : (w.btk.train.map (·.number)).Nodup := hv.numbers.nodup (by rw [hnumbers]; exact hnodup)
  have hfound : ∀ c ∈ w.btk.train, ∃ a b, findBoard s.btk.train c.number = some b ∧ waveKey a = waveKey b ∧ Nearing a c := by
    intro c hc
    obtain ⟨a, ha, hac⟩ := findBoard_forall₂ (fun b c h => number_of_place h.place) hk (findBoard_of_mem hnodupw hc)
    have hav := findBoard_drop (by rw [hnumbers]; exact hnodup) ha
    have hkey := findBoard_key (key := waveKey) (fun b c h => congrArg (fun k => k.1) h) hkeys c.number
    rw [hav, Option.map_some] at hkey
    obtain ⟨b, hb, hab⟩ := Option.map_eq_some_iff.mp hkey.symm
    exact ⟨a, b, hb, hab.symm, hac⟩
  refine ((List.forall₂_and_left _ _).mpr ⟨hfound, h.records⟩).imp ?_
  rintro c d ⟨⟨a, b, hb, hab, hac⟩, hcd⟩
  exact ⟨number_of_place hcd.1, b, hb, .of_keys hab hac hcd⟩

theorem WavesPassed.tables {s w t : State} (h : WavesPassed s w t) : TablesHeld s.tbs w.tbs := by
  obtain ⟨v, -, -, htbs, hv⟩ := h.nears
  exact htbs ▸ hv.paced.tables

theorem TablesHeld.waves {t u : Tbs} (h : TablesHeld t u) (x : Wave) : wavePosition u x = wavePosition t x
    ∧ contactHalfWidth u x = contactHalfWidth t x ∧ wavePost u x = wavePost t x ∧ feedQuantum u = feedQuantum t := by
  rw [h.1]
  cases x <;> exact ⟨rfl, rfl, rfl, rfl⟩

theorem WavesPassed.slow {s w t : State} (h : WavesPassed s w t) (x : Wave) {c : Board}
    (hslow : (pumpOf s.pot x).atSpeed = false ∨ inContactZone w x c = false ∨ s.pot.lastEncoder = none) : contactGain w x c = 0 := by
  obtain ⟨v, -, hpot, -, hv⟩ := h.nears
  obtain hs | hs | hs := hslow
  · refine contactGain_slow (Bool.eq_false_iff.mpr fun hw => ?_) c
    have hx := hv.paced.atSpeed x hw
    rw [hpot, hs] at hx
    cases hx
  · exact contactGain_apart hs
  · exact contactGain_none (hv.paced.lastEncoder.trans (by rw [hpot]; exact hs)) x c

theorem WavesPassed.zone {s w t : State} (h : WavesPassed s w t) (x : Wave) {b c d : Board} (hp : BoardPassed w b c d) :
    inContactZone w x c = overlaps t.btk.position b (wavePosition s.tbs x - contactHalfWidth s.tbs x)
      (wavePosition s.tbs x + contactHalfWidth s.tbs x) := by
  obtain ⟨hposition, hwidth, -⟩ := h.tables.waves x
  rw [h.position, inContactZone, hposition, hwidth]
  simp only [overlaps, boardExtent, boardOffset, hp.lead, hp.length]
  rfl

theorem WavesPassed.left {s w t : State} (h : WavesPassed s w t) {b c d : Board} (hp : BoardPassed w b c d) :
    leftWaves w c = true ↔ ∃ length, b.length = some length
      ∧ wavePosition s.tbs .laminar + wavePost s.tbs .laminar < signedDiff t.btk.position b.lead - length := by
  obtain ⟨hposition, -, hpost, -⟩ := h.tables.waves .laminar
  rw [h.position, leftWaves, hposition, hpost, boardOffset, hp.lead, hp.length]
  cases b.length with
  | none => simp
  | some len => simp

theorem debt_foldl {R : Board → Board → Prop} {p q : Board → Bool} {f g : Int → Board → Int}
    (hpq : ∀ b c, R b c → p b = q c) (hfg : ∀ d b c, R b c → f d b = g d c) {l m : List Board} (h : List.Forall₂ R l m) (d : Int) :
    (l.filter p).foldl f d = (m.filter q).foldl g d := by
  induction h generalizing d with
  | nil => rfl
  | @cons b c l m hb _ ih =>
    rw [List.filter_cons, List.filter_cons, hpq b c hb]
    split
    · rw [List.foldl_cons, List.foldl_cons, hfg d b c hb]
      exact ih _
    · exact ih d

/-- The debt of the sample, told from the train that the event leaves. -/
theorem WavesPassed.debt_gained {s w t : State} (h : WavesPassed s w t)
    (hnodup : (s.btk.train.map (·.number)).Nodup) :
    t.pot.debt = (t.btk.train.filter fun b => b.wave == .done && (findBoard s.btk.train b.number).any fun old => old.wave != .done).foldl
      (fun d b => min (10 * feedQuantum s.tbs) (d + ((bankOf s.tbs b).map solderUse).getD 0)) s.pot.debt := by
  obtain ⟨v, -, hpot, htbs, hv⟩ := h.nears
  have hline := h.line
  have hcontact := potContact_acts hline
  have htrain : (potContact w).1.btk.train = w.btk.train.map (contacted w) := by rw [hcontact]
  have hdebt : (potContact w).1.pot.debt = s.pot.debt := by
    rw [hcontact, ← hpot]
    exact hv.paced.debt
  have htbs : (potContact w).1.tbs = w.tbs := by rw [hcontact]
  rw [h.debt, debtAfter, hdebt, becomeDone, htrain]
  refine debt_foldl (R := fun x d => ∃ c b, x = contacted w c ∧ findBoard s.btk.train d.number = some b ∧ BoardPassed w b c d) ?_ ?_
    (List.forall₂_map_left_iff.mpr ((h.records_passed hnodup).imp ?_)) _
  · rintro _ d ⟨c, b, rfl, hb, hp⟩
    have hdone : (b.wave != .done) = (c.wave != .done) := by
      by_cases hf : b.wave.final
      · rw [hp.stays hf]
      · have hb : b.wave ≠ .done := fun h => hf (.inl h)
        have hc : c.wave ≠ .done := fun h => hp.waits hf (.inl h)
        exact (bne_iff_ne.mpr hb).trans (bne_iff_ne.mpr hc).symm
    rw [nextWaveStatus_contacted hline, ← hp.wave, hb, Option.any_some, hdone, Bool.and_comm]
    rfl
  · rintro x _ d ⟨c, b, rfl, hb, hp⟩
    have hbank : bankOf w.tbs (contacted w c) = bankOf s.tbs d := h.tables.bankOf (b := d) (c := contacted w c) hp.bank.symm
    rw [htbs, hbank, debtLimit, (h.tables.waves .chip).2.2.2]
  · rintro c d ⟨hn, b, hb, hp⟩
    exact ⟨c, b, rfl, by rw [hn]; exact hb, hp⟩

/-- The status that the event gives a record, by the rows of R149. -/
theorem WavesPassed.status {s w t : State} (h : WavesPassed s w t) {b c d : Board} {n : BoardNo} (hn : c.number = n)
    (hmem : n ∈ w.btk.train.map (·.number)) (hp : BoardPassed w b c d) :
    (b.wave.final → d.wave = b.wave)
      ∧ (¬b.wave.final → b.length = none → d.wave = .pending)
      ∧ (¬b.wave.final → leftWaves w c = true → d.wave = .done ∨ d.wave = .lowered)
      ∧ (¬b.wave.final → leftWaves w c = true → wasGoverned s n = true → d.wave = .done)
      ∧ (¬b.wave.final → leftWaves w c = true → wasGoverned t n = false → d.wave = .lowered)
      ∧ (¬b.wave.final → b.length ≠ none → ¬leftWaves w c = true → inContactZone w .chip c = true ∨ inContactZone w .laminar c = true →
          d.wave = .inContact)
      ∧ (¬b.wave.final → b.length ≠ none → ¬leftWaves w c = true → ¬inContactZone w .chip c = true → ¬inContactZone w .laminar c = true →
          d.wave = .pending) := by
  have hgone (hf : ¬b.wave.final) (hl : leftWaves w c = true) : d.wave = if wasGoverned w n then .done else .lowered := by
    have hlen : c.length.isNone = false := by
      rw [leftWaves] at hl
      cases hc : c.length with
      | none => simp [hc] at hl
      | some len => rfl
    rw [hp.wave, nextWaveStatus, if_neg (by exact hp.waits hf), hlen, hl, hn]
    rfl
  have hhere (hf : ¬b.wave.final) (hlen : b.length ≠ none) (hl : ¬leftWaves w c = true) :
      d.wave = if inContactZone w .chip c || inContactZone w .laminar c then .inContact else .pending := by
    have hlen : c.length.isNone = false := by
      rw [hp.length]
      cases hb : b.length with
      | none => exact absurd hb hlen
      | some len => rfl
    rw [hp.wave, nextWaveStatus, if_neg (by exact hp.waits hf), hlen, if_neg Bool.false_ne_true, if_neg hl]
  obtain ⟨v, -, hpot, -, hv⟩ := h.nears
  refine ⟨fun hf => ?_, fun hf hlen => ?_, fun hf hl => ?_, fun hf hl hg => ?_, fun hf hl hg => ?_, fun hf hlen hl hz => ?_,
    fun hf hlen hl hc hz => ?_⟩
  · rw [hp.wave, nextWaveStatus_final true (by rw [hp.stays hf]; exact hf), hp.stays hf]
  · rw [hp.wave, nextWaveStatus, if_neg (by exact hp.waits hf), hp.length, hlen]
    rfl
  · rw [hgone hf hl]
    split
    · exact .inl rfl
    · exact .inr rfl
  · rw [hgone hf hl, if_pos (by exact hv.governed n hmem (by rw [hpot]; exact hg))]
  · rw [hgone hf hl, if_neg fun hw => ?_]
    rw [wasGoverned_eq, h.governed n hw] at hg
    cases hg
  · rw [hhere hf hlen hl, if_pos (by simpa using hz)]
  · rw [hhere hf hlen hl, if_neg (by simp [hc, hz])]

/-- Settles O36: the boards near POT's contact unchanged, take contact and statuses in one step each, and keep both after it. -/
theorem contactAndWaveStatusFollow : Obligations.ContactAndWaveStatusFollow := by
  unfold Obligations.ContactAndWaveStatusFollow
  refine ⟨fun s last hline hlast => ?_, fun c s v hv hseq ha hline hnodup => ?_⟩
  · intro stamp ms runs meets
    rw [potContact_acts hline]
    have hmap : s.btk.train.map (contacted s) = s.btk.train.map fun b =>
         { b with chipMs := if runs .chip ∧ meets b .chip then b.chipMs + ms else b.chipMs,
                  laminarMs := if runs .laminar ∧ meets b .laminar then b.laminarMs + ms else b.laminarMs } := by
      refine List.map_congr_left fun b _ => ?_
      rw [contacted, contacted_meets hlast, contacted_meets hlast]
      rfl
    rw [hmap]
  · obtain ⟨t, ht, hw⟩ := exec_waves hv hseq ha hline hnodup
    refine ⟨t, ht, fun hdone => ?_⟩
    obtain ⟨w, hw⟩ := hw hdone
    refine ⟨hw.lastEncoder, hw.debt_gained hnodup, fun n b d hb hd => ?_⟩
    obtain ⟨c, hc, hdc, b', hb', hp⟩ := findBoard_forall₂ (fun c d h => h.1) (hw.records_passed hnodup) hd
    obtain ⟨hmem, hn⟩ := findBoard_mem hc
    obtain rfl : b = b' := Option.some.inj (hb.symm.trans (by rw [← hn]; exact hb'))
    have hslow (x : Wave) := hw.slow x (c := c)
    have hgain (x : Wave) := contactGain_le w x c
    obtain ⟨hfinal, hlength, hleft, hdone, hlowered, hhere, hpending⟩ :=
      hw.status hn (by rw [← hn]; exact List.mem_map_of_mem hmem) hp
    have hzone (x : Wave) := hw.zone x hp
    simp only [hzone, hw.left hp] at hslow hleft hdone hlowered hhere hpending
    have hchip := hp.chip
    have hlaminar := hp.laminar
    intro meets left final
    refine ⟨?_, ?_, ?_, ?_, ?_, ?_, hfinal, hlength, hleft, hdone, hlowered, hhere, hpending⟩
    · omega
    · have := hgain .chip
      omega
    · omega
    · have := hgain .laminar
      omega
    · intro h
      have hzero := hslow .chip (h.imp_right (.imp_left Bool.eq_false_iff.mpr))
      omega
    · intro h
      have hzero := hslow .laminar (h.imp_right (.imp_left Bool.eq_false_iff.mpr))
      omega

end Sys2Proof.Machine
end

section
/-! The doses of an accounting (R95, R96), and the end of a spray run (R97). -/

namespace Sys2Proof.Machine

/-! ## The pieces of a plan (R95) -/

/-- In a plan in rising order, each view lasts from its own entry to the next one, up to the end of the interval. -/
theorem planPieces_zip (d t : Nat) (v : NozzleView) (cs : List (Nat × NozzleView)) (hsorted : cs.Pairwise fun x y => x.1 ≤ y.1)
    (ht : ∀ x ∈ cs, t ≤ min d x.1) :
    planPieces d t v cs = ((v :: cs.map (·.2)).zip ((t :: cs.map fun x => min d x.1).zip ((cs.map fun x => min d x.1) ++ [d]))).map
      fun p => (p.1, p.2.2 - p.2.1) := by
  induction cs generalizing t v with
  | nil => rfl
  | cons c cs ih =>
    obtain ⟨u, w⟩ := c
    rw [List.pairwise_cons] at hsorted
    have hu : t ≤ min d u := ht (u, w) (List.mem_cons_self ..)
    rw [planPieces, Nat.min_comm u d, Nat.max_eq_right hu, ih (min d u) w hsorted.2 fun x hx => by have := hsorted.1 x hx; omega]
    rfl

/-! ## Doses added to the accumulators (R96) -/

/-- The state with other spray records. -/
def withSprays (s : State) (x : List SprayRecord) : State := { s with flx := { s.flx with sprays := x } }

/-- The accumulators after each board has gained a dose. -/
def credited (gain : BoardNo → Nat) (x : List SprayRecord) : List SprayRecord :=
  x.map fun r => { r with dose := min 4294967295 (r.dose + gain r.board) }

theorem credited_le (gain : BoardNo → Nat) (x : List SprayRecord) : ∀ r ∈ credited gain x, r.dose ≤ 4294967295 := by
  intro r hr
  obtain ⟨q, -, rfl⟩ := List.mem_map.mp hr
  exact min_le_left ..

theorem credited_zero {x : List SprayRecord} (h : ∀ r ∈ x, r.dose ≤ 4294967295) : credited (fun _ => 0) x = x := by
  refine (List.map_congr_left fun r hr => ?_).trans (List.map_id x)
  rw [Nat.add_zero, Nat.min_eq_right (h r hr)]
  rfl

theorem credited_credited (f g : BoardNo → Nat) (x : List SprayRecord) : credited g (credited f x) = credited (fun b => f b + g b) x := by
  simp only [credited, List.map_map]
  refine List.map_congr_left fun r _ => ?_
  simp only [Function.comp_apply, SprayRecord.mk.injEq, true_and]
  omega

/-- What one piece gives a board. -/
def pieceGain (flow : Nat) (owner : BoardNo) (p : NozzleView × Nat) : Nat :=
  if p.1.isOpen = true ∧ p.1.owner = some owner then pieceDose flow p.1.duty p.2 else 0

/-- The accumulators after one piece. -/
def accountPiece (flow : Nat) (s : State) (p : NozzleView × Nat) : State :=
  withSprays s (credited (fun b => pieceGain flow b p) s.flx.sprays)

/-- One piece as the accounting takes it. -/
theorem accountPiece_eq {s : State} (h : ∀ r ∈ s.flx.sprays, r.dose ≤ 4294967295) (flow : Nat) (p : NozzleView × Nat) :
    accountPiece flow s p = match p.1.isOpen, p.1.owner with
      | true, some b => mapSpray s b fun r => { r with dose := satAdd 4294967295 r.dose (pieceDose flow p.1.duty p.2) }
      | _, _ => s := by
  have hidle (hgain : ∀ b, pieceGain flow b p = 0) : accountPiece flow s p = s := by
    rw [accountPiece, funext hgain, credited_zero h]
    rfl
  split
  next b hopen howner =>
    refine congrArg (withSprays s) (List.map_congr_left fun r hr => ?_)
    beta_reduce
    by_cases hb : r.board = b
    · rw [pieceGain, if_pos ⟨hopen, by rw [howner, hb]⟩, if_pos hb]
      rfl
    · rw [pieceGain, if_neg (by rw [howner]; rintro ⟨-, h⟩; exact hb (Option.some.inj h).symm), if_neg hb, Nat.add_zero,
        Nat.min_eq_right (h r hr)]
  next hno =>
    refine hidle fun b => if_neg ?_
    rintro ⟨hopen, howner⟩
    exact hno b hopen howner

theorem accountPiece_le (flow : Nat) (s : State) (p : NozzleView × Nat) :
    ∀ r ∈ (accountPiece flow s p).flx.sprays, r.dose ≤ 4294967295 := credited_le (fun b => pieceGain flow b p) s.flx.sprays

theorem foldl_accountPiece (flow : Nat) (ps : List (NozzleView × Nat)) {s : State} (h : ∀ r ∈ s.flx.sprays, r.dose ≤ 4294967295) :
    ps.foldl (accountPiece flow) s = withSprays s (credited (fun b => (ps.map (pieceGain flow b)).sum) s.flx.sprays) := by
  induction ps generalizing s with
  | nil =>
    rw [List.foldl_nil]
    simp only [List.map_nil, List.sum_nil, credited_zero h]
    rfl
  | cons p ps ih =>
    rw [List.foldl_cons, ih (accountPiece_le flow s p)]
    simp only [accountPiece, withSprays, credited_credited, List.map_cons, List.sum_cons]

/-- What one nozzle gives a board over an interval. -/
def nozzleGain (s : State) (d : Nat) (b : BoardNo) (n : NozzleIx) : Nat :=
  ((planPieces d 0 s.flx.nozzles[n].planStart s.flx.nozzles[n].planChanges).map (pieceGain (outputFlow s.tbs (valveOutput n)) b)).sum

theorem accountNozzle_eq {s : State} (h : ∀ r ∈ s.flx.sprays, r.dose ≤ 4294967295) (d : Nat) (n : NozzleIx) :
    accountNozzle d s n = withSprays s (credited (fun b => nozzleGain s d b n) s.flx.sprays) := by
  have hfold (ps : List (NozzleView × Nat)) {u : State} (hu : ∀ r ∈ u.flx.sprays, r.dose ≤ 4294967295) :
      ps.foldl (fun s p => match p.1.isOpen, p.1.owner with
        | true, some b => mapSpray s b fun r =>
          { r with dose := satAdd 4294967295 r.dose (pieceDose (outputFlow s.tbs (valveOutput n)) p.1.duty p.2) }
        | _, _ => s) u = ps.foldl (accountPiece (outputFlow u.tbs (valveOutput n))) u := by
    induction ps generalizing u with
    | nil => rfl
    | cons p ps ih =>
      rw [List.foldl_cons, List.foldl_cons, ← accountPiece_eq hu]
      exact ih (accountPiece_le _ u p)
  exact (hfold _ h).trans (foldl_accountPiece _ _ h)

theorem foldl_accountNozzle (d : Nat) (ns : List NozzleIx) {s : State} (h : ∀ r ∈ s.flx.sprays, r.dose ≤ 4294967295) :
    ns.foldl (accountNozzle d) s = withSprays s (credited (fun b => (ns.map (nozzleGain s d b)).sum) s.flx.sprays) := by
  induction ns generalizing s with
  | nil =>
    rw [List.foldl_nil]
    simp only [List.map_nil, List.sum_nil, credited_zero h]
    rfl
  | cons n ns ih =>
    rw [List.foldl_cons, accountNozzle_eq h, ih (by exact credited_le (fun b => nozzleGain s d b n) s.flx.sprays)]
    simp only [withSprays, credited_credited, List.map_cons, List.sum_cons]
    rfl

/-! ## The accumulators in the board records (R96) -/

/-- A board record with the dose of its accumulator. -/
def dosed (x : List SprayRecord) (b : Board) : Board :=
  match x.find? fun r => r.board == b.number with
  | some r => { b with dose := r.dose }
  | none => b

theorem foldl_dosed (x : List SprayRecord) (hnodup : (x.map (·.board)).Nodup) (s : State) :
    x.foldl (fun s r => mapBoard s r.board fun b => { b with dose := r.dose }) s
      = { s with btk := { s.btk with train := s.btk.train.map (dosed x) } } := by
  induction x generalizing s with
  | nil =>
    have hid : dosed [] = id := rfl
    rw [hid, List.map_id]
    rfl
  | cons r x ih =>
    rw [List.map_cons, List.nodup_cons] at hnodup
    rw [List.foldl_cons, ih hnodup.2]
    simp only [mapBoard, List.map_map]
    congr 2
    refine List.map_congr_left fun b _ => ?_
    by_cases hb : b.number = r.board
    · have hnone : x.find? (fun q => q.board == r.board) = none := by
        refine List.find?_eq_none.mpr fun q hq => ?_
        have hne : q.board ≠ r.board := fun h => hnodup.1 (List.mem_map.mpr ⟨q, hq, h⟩)
        simpa using hne
      simp [dosed, hb, hnone]
    · have hne : ¬r.board = b.number := fun h => hb h.symm
      simp [dosed, hb, hne]

theorem credited_boards (gain : BoardNo → Nat) (x : List SprayRecord) : (credited gain x).map (·.board) = x.map (·.board) := by
  rw [credited, List.map_map]
  rfl

/-! ## The accounting (R95, R96) -/

/-- A plan that starts again. -/
def planAgain (z : Nozzle) : Nozzle := { z with planStart := z.view, planChanges := [] }

/-- The accumulators after an interval. -/
def accounted (s : State) (d : Nat) : List SprayRecord := credited (fun b => (allNozzles.map (nozzleGain s d b)).sum) s.flx.sprays

theorem flxAccount_none {s : State} (h : s.flx.lastAccounted = none) : (flxAccount s).1 = { s with flx := { s.flx with
    lastAccounted := some (s.sig[S 10]).arrivalCycle, nozzles := s.flx.nozzles.map planAgain } } := by
  simp only [flxAccount, h]
  rfl

theorem flxAccount_some {s : State} {last : Word32} (h : s.flx.lastAccounted = some last) (hnodup : (s.flx.sprays.map (·.board)).Nodup)
    (hdose : ∀ r ∈ s.flx.sprays, r.dose ≤ 4294967295) :
    let x := accounted s (intervalMicros (s.sig[S 10]).arrivalCycle last)
    (flxAccount s).1 = { s with
      btk := { s.btk with train := s.btk.train.map (dosed x) },
      flx := { s.flx with sprays := x, lastAccounted := some (s.sig[S 10]).arrivalCycle, nozzles := s.flx.nozzles.map planAgain } } := by
  intro x
  have hfold : allNozzles.foldl (accountNozzle (intervalMicros (s.sig[S 10]).arrivalCycle last)) s = withSprays s x :=
    foldl_accountNozzle _ _ hdose
  have hwrite : writeDoses (withSprays s x) = { withSprays s x with btk := { s.btk with train := s.btk.train.map (dosed x) } } :=
    foldl_dosed x (by rw [show x.map (·.board) = s.flx.sprays.map (·.board) from credited_boards ..]; exact hnodup) (withSprays s x)
  simp only [flxAccount, h, hfold, hwrite]
  rfl

/-- What the accounting gives is the sum of the statement: the plan's views, each with its start and its end. -/
theorem nozzleGain_zip {s : State} (n : NozzleIx) (hsorted : (s.flx.nozzles[n]).planChanges.Pairwise fun x y => x.1 ≤ y.1) (d : Nat)
    (b : BoardNo) :
    nozzleGain s d b n = (((s.flx.nozzles[n].planStart :: s.flx.nozzles[n].planChanges.map (·.2)).zip
      ((0 :: s.flx.nozzles[n].planChanges.map fun x => min d x.1).zip ((s.flx.nozzles[n].planChanges.map fun x => min d x.1) ++ [d]))).map
      fun p => if p.1.isOpen = true ∧ p.1.owner = some b
        then outputFlow s.tbs (valveOutput n) * p.1.duty * (p.2.2 - p.2.1) / 1000000 else 0).sum := by
  rw [nozzleGain, planPieces_zip _ _ _ _ hsorted fun _ _ => Nat.zero_le _, List.map_map]
  rfl

/-! ## The end of a run (R97) -/

/-- What the end of a run reads of a board record and of a spray record. -/
def fluxKey (b : Board) : BoardNo × FluxStatus := (b.number, b.flux)
@[inherit_doc fluxKey] def closingKey (r : SprayRecord) : BoardNo × Bool := (r.board, r.runClosing)

theorem fluxOf_key (s : State) (n : BoardNo) : fluxOf s n = ((s.btk.train.map fluxKey).find? fun k => k.1 == n).map (·.2) := by
  rw [List.find?_map, Option.map_map]
  rfl

theorem closing_key (x : Flx) (n : BoardNo) :
    (findSpray x n).map (·.runClosing) = ((x.sprays.map closingKey).find? fun k => k.1 == n).map (·.2) := by
  rw [List.find?_map, Option.map_map]
  rfl

theorem mapBoard_fluxKeys (s : State) (n : BoardNo) {f : Board → Board} (hf : ∀ b, fluxKey (f b) = fluxKey b) :
    (mapBoard s n f).btk.train.map fluxKey = s.btk.train.map fluxKey := by
  simp only [mapBoard, List.map_map]
  refine List.map_congr_left fun b _ => ?_
  simp only [Function.comp_apply]
  split
  · exact hf b
  · rfl

theorem newEpisode_fluxKeys (c : Cause) (s : State) : (newEpisode c s).1.btk.train.map fluxKey = s.btk.train.map fluxKey := by
  have hkey (b : Board) : fluxKey (capturedBoard b) = fluxKey b := by
    unfold capturedBoard
    dsimp only
    split <;> rfl
  simp only [newEpisode, List.map_map]
  exact List.map_congr_left fun b _ => hkey b

/-- Quiet hand-overs other than FLX's REWORK write no flux status. -/
theorem handle_fluxKeys {t : Task} (s : State) (hq : t.kind ∈ quietKinds) (ht : t.kind ≠ .flxRework) :
    (handle t s).1.btk.train.map fluxKey = s.btk.train.map fluxKey := by
  by_cases hb : Block.btk ∈ touched t
  · cases t
    case admission => rfl
    case noMotion =>
      simp only [handle, noMotion]
      (repeat' split) <;> rfl
    case defect n d =>
      simp only [handle, writeDefect]
      split
      · rfl
      · exact mapBoard_fluxKeys s n fun b => rfl
    case disposition n d =>
      simp only [handle, writeDisposition]
      split
      · rfl
      · exact mapBoard_fluxKeys s n fun b => rfl
    case holdCause c =>
      simp only [handle, holdCause]
      (repeat' split)
      · exact newEpisode_fluxKeys c s
      · exact newEpisode_fluxKeys c s
      all_goals rfl
    case flxRework n => exact absurd rfl ht
    all_goals first
      | exact absurd hq (by simp only [Task.kind]; decide)
      | exact absurd hb (by simp only [touched]; decide)
  · rw [(handle_touches t s).same .btk hb]

/-- Quiet hand-overs other than FLX's REWORK leave every run-closing flag. -/
theorem handle_closingKeys {t : Task} (s : State) (hq : t.kind ∈ quietKinds) (ht : t.kind ≠ .flxRework) :
    (handle t s).1.flx.sprays.map closingKey = s.flx.sprays.map closingKey := by
  by_cases hb : Block.flx ∈ touched t
  · cases t
    case flxForcing =>
      simp only [handle, flxForcing]
      split
      · simp only [beginForcing, List.map_map]
        rfl
      · rfl
    case flxRework n => exact absurd rfl ht
    all_goals first
      | exact absurd hq (by simp only [Task.kind]; decide)
      | exact absurd hb (by simp only [touched]; decide)
  · rw [(handle_touches t s).same .flx hb]

/-! ### Records looked up by board -/

section
variable {α : Type} {key : α → BoardNo} {g : α → α} (hg : ∀ a, key (g a) = key a) {m n : BoardNo}
include hg

theorem find?_map_other (h : m ≠ n) (l : List α) :
    (l.map fun a => if key a = m then g a else a).find? (fun a => key a == n) = l.find? fun a => key a == n := by
  induction l with
  | nil => rfl
  | cons a l ih =>
    rw [List.map_cons, List.find?_cons, List.find?_cons, ih]
    by_cases ha : key a = m
    · have hn : (key a == n) = false := by simpa [ha] using h
      rw [if_pos ha, hg, hn]
    · rw [if_neg ha]

theorem find?_map_same (l : List α) :
    (l.map fun a => if key a = n then g a else a).find? (fun a => key a == n) = (l.find? fun a => key a == n).map g := by
  induction l with
  | nil => rfl
  | cons a l ih =>
    rw [List.map_cons, List.find?_cons, List.find?_cons, ih]
    by_cases ha : key a = n
    · have hn : (key a == n) = true := by simpa using ha
      rw [if_pos ha, hg, hn]
      rfl
    · have hn : (key a == n) = false := by simpa using ha
      rw [if_neg ha, hn]

end

theorem findSpray_other {s : State} {m n : BoardNo} (h : m ≠ n) {f : SprayRecord → SprayRecord} (hf : ∀ r, (f r).board = r.board) :
    findSpray (mapSpray s m f).flx n = findSpray s.flx n := find?_map_other hf h _

theorem findSpray_same (s : State) (n : BoardNo) {f : SprayRecord → SprayRecord} (hf : ∀ r, (f r).board = r.board) :
    findSpray (mapSpray s n f).flx n = (findSpray s.flx n).map f := find?_map_same hf _

theorem findBoard_other {s : State} {m n : BoardNo} (h : m ≠ n) {f : Board → Board} (hf : ∀ b, (f b).number = b.number) :
    findBoard (mapBoard s m f).btk.train n = findBoard s.btk.train n := find?_map_other hf h _

theorem findBoard_same (s : State) (n : BoardNo) {f : Board → Board} (hf : ∀ b, (f b).number = b.number) :
    findBoard (mapBoard s n f).btk.train n = (findBoard s.btk.train n).map f := find?_map_same hf _

/-- A run that has ended: the flux status is DONE and the run-closing flag is clear. -/
structure RunEnded (n : BoardNo) (s : State) : Prop where
  flux : fluxOf s n = some .done
  closing : (findSpray s.flx n).map (·.runClosing) = some false

/-- FLX's REWORK of another board. -/
theorem flxRework_ended {n m : BoardNo} {s : State} (h : RunEnded n s) : RunEnded n (flxRework m s).1 := by
  by_cases hm : m = n
  · subst hm
    simp only [flxRework, h.flux]
    exact h
  · have hstop (f : FluxStatus) : RunEnded n (writeFlux m f (mapSpray (dropEdges (fun e => e.board == m) s) m fun r =>
        { r with segments := r.segments.map reworkSegment, runClosing := false })) := by
      constructor
      · rw [fluxOf, writeFlux, findBoard_other hm (f := fun b => { b with flux := f }) fun _ => rfl]
        exact h.flux
      · rw [writeFlux_flx, findSpray_other hm (f := fun r => { r with segments := r.segments.map reworkSegment, runClosing := false }) fun _ => rfl]
        exact h.closing
    unfold flxRework
    dsimp only
    split
    · exact hstop _
    · exact hstop _
    all_goals exact h

theorem handle_runEnded {n : BoardNo} {t : Task} {s : State} (hq : t.kind ∈ quietKinds) (h : RunEnded n s) : RunEnded n (handle t s).1 := by
  by_cases ht : t.kind = .flxRework
  · cases t
    case flxRework m => exact flxRework_ended h
    all_goals simp [Task.kind] at ht
  · exact ⟨by rw [fluxOf_key, handle_fluxKeys s hq ht, ← fluxOf_key]; exact h.flux,
      by rw [closing_key, handle_closingKeys s hq ht, ← closing_key]; exact h.closing⟩

theorem settle_runEnded {n : BoardNo} (k : Nat) {ts : List Task} {s : State} (hts : Among quietKinds ts) (h : RunEnded n s) :
    RunEnded n (settle k ts s) :=
  settle_kinds (P := RunEnded n) quietKinds (by decide) (fun _ _ hq hu => handle_runEnded hq hu) (fun _ hu => ⟨hu.flux, hu.closing⟩) k ts s
    hts h

/-- The end of a run of a board with both records. -/
theorem flxRunEnd_ends {s : State} {n : BoardNo} {b : Board} {r : SprayRecord} (hb : findBoard s.btk.train n = some b)
    (hr : findSpray s.flx n = some r) (hclosing : r.runClosing = true) :
    RunEnded n (flxRunEnd n s).1 ∧ Among quietKinds (flxRunEnd n s).2
      ∧ ∀ m, bankOf s.tbs b = some m → ¬(doseMinimum m ≤ (b.dose / 1000 : Nat) ∧ ((b.dose / 1000 : Nat) : Int) ≤ doseMaximum m) →
          (flxRunEnd n s).2 = [.duct1Demand, .defect n .dose, .event (A 28)] := by
  have hended : RunEnded n (writeFlux n .done (mapSpray s n fun r => { r with runClosing := false })) := by
    constructor
    · have hfound : findBoard (mapSpray s n fun r => { r with runClosing := false }).btk.train n = some b := hb
      rw [fluxOf, writeFlux, findBoard_same _ n (f := fun b => { b with flux := .done }) fun _ => rfl, hfound]
      rfl
    · rw [writeFlux_flx, findSpray_same s n (f := fun r => { r with runClosing := false }) fun _ => rfl, hr]
      rfl
  have hnat : ((b.dose : Int) / 1000) = ((b.dose / 1000 : Nat) : Int) := by omega
  have hbank : bankOf (writeFlux n .done (mapSpray s n fun r => { r with runClosing := false })).tbs b = bankOf s.tbs b := rfl
  simp only [flxRunEnd, hb, hr, hclosing, if_true, hbank, hnat]
  cases hm : bankOf s.tbs b with
  | none => exact ⟨hended, rfl, fun m h => by cases h⟩
  | some m =>
    refine ⟨hended, ?_, fun m' h hout => ?_⟩
    · dsimp only
      split <;> rfl
    · obtain rfl := Option.some.inj h
      dsimp only
      rw [if_neg hout]

/-- Settles O33: the pieces of the plans are the accumulators' gains, and a run's end stays an end. -/
theorem dosesAreAccounted : Obligations.DosesAreAccounted := by
  unfold Obligations.DosesAreAccounted
  refine ⟨fun s hnodup hdose hsorted => ?_, fun s n b r hb hr hclosing => ?_⟩
  · intro t stamp share
    have hnozzles (n : NozzleIx) : (s.flx.nozzles.map planAgain)[n] = { s.flx.nozzles[n] with planStart := viewOf s n, planChanges := [] } := by
      simp only [Fin.getElem_fin, Vector.getElem_map]
      rfl
    cases hlast : s.flx.lastAccounted with
    | none =>
      have ht : t = _ := flxAccount_none hlast
      rw [ht]
      exact ⟨rfl, hnozzles, fun _ => ⟨rfl, rfl⟩, fun _ h => by cases h⟩
    | some last =>
      have ht : t = _ := flxAccount_some hlast hnodup hdose
      have hshare (d : Nat) (b : BoardNo) : nozzleGain s d b = share d b := funext fun n => nozzleGain_zip n (hsorted n) d b
      rw [ht]
      refine ⟨rfl, hnozzles, (fun h => by cases h), fun last' h => ?_⟩
      obtain rfl := Option.some.inj h
      refine ⟨?_, ?_⟩
      · simp only [accounted, credited, hshare]
        rfl
      · rfl
  · intro t
    obtain ⟨hended, hamong, htasks⟩ := flxRunEnd_ends hb hr hclosing
    have ht : t = settle 4294967295 ((flxRunEnd n s).2 ++ []) (flxRunEnd n s).1 := run_cons ..
    rw [List.append_nil] at ht
    have htold := settle_runEnded 4294967295 hamong hended
    rw [← ht] at htold
    refine ⟨htold.flux, htold.closing, fun hdone m hm hout => ?_⟩
    rw [htasks m hm hout] at ht
    have hkinds : ∀ u ∈ [Task.duct1Demand, .defect n .dose, .event (A 28)], u.kind ∈ recordKinds := by
      refine List.forall_mem_cons.mpr ⟨?_, List.forall_mem_cons.mpr ⟨?_, List.forall_mem_singleton.mpr ?_⟩⟩ <;>
        simp only [Task.kind] <;> decide
    have hfound : (findBoard (flxRunEnd n s).1.btk.train n).isSome = true := by
      have hf := hended.flux
      rw [fluxOf] at hf
      cases h : findBoard (flxRunEnd n s).1.btk.train n with
      | none => rw [h] at hf; cases hf
      | some c => rfl
    have hleft : AlarmsMoved s (flxRunEnd n s).1 := (handle_left (t := .flxRunEnd n) s (by simp only [Task.kind]; decide)).moved
    have hdefect := settle_defect (d := .dose) ⟨hkinds, hfound, .inl (by simp)⟩ 4294967295
    rw [← ht] at hdefect
    refine ⟨hdefect.resolve_left (by rw [hdone]; exact Bool.false_ne_true), fun hmask => ?_⟩
    have hraised := settle_tells (a := A 28) (s := (flxRunEnd n s).1) (by rfl) (by rw [hleft.entries]; exact hmask)
      (fun u hu => recordKinds_no_cycle _ (hkinds u hu)) (by simp) 4294967295
    have hlater := (settle_left (s := (flxRunEnd n s).1) hkinds 4294967295).moved.cycle
    rw [← ht] at hraised hlater
    have hnow := hraised.resolve_left (by rw [hdone]; exact Bool.false_ne_true)
    rw [RaisedNow, hlater.trans hleft.cycle] at hnow
    exact hnow

end Sys2Proof.Machine
end

section
/-! A RESTART at which a soft A41 is raised and cleared again (R41, R113, R184). BTK ends its fault condition and so hands A41 its
combined condition, which HLD's part keeps true: A41 becomes ACTIVE and activates PREHEAT, whose loops take their cutoff levels. R184
then clears A41, which is SOFT, and deactivates PREHEAT, and no rule gives the loops another u_prev. -/

namespace Sys2Proof.Machine

open Host

/-- A41 made SOFT by commit, without delay, linked to PREHEAT. -/
def softA41 : AlarmEntry := { cls := .soft, masked := false, delay := 0, links := 2 }

/-- A line in STANDBY with a conveyor fault whose alarm was acknowledged; O1 goes to SAFE at level 5 when it is cut. -/
def faultedStandby : State :=
  { State.reset with
    lif := { Lif.reset with openCycle := true },
    mru := { State.reset.mru with line := .standby },
    tbs := { State.reset.tbs with output := [(1, 4, 1), (1, 5, 5)], alarms := vset State.reset.tbs.alarms (A 41) softA41 },
    btk := { State.reset.btk with faultCondition := true },
    acu := { State.reset.acu with a41Hld := true } }

/-- RESTART from node 1. -/
def restartCell : ReqCell := { dest := 0, src := 1, tag := 0, operands := 0, check := 0 }

/-- The cell with its CHECK. -/
def restartRequest : ReqCell := { restartCell with check := checkOf (requestRaw 18 restartCell) }

theorem restartRequest_accepted : accepted 18 restartRequest faultedStandby :=
  ⟨by decide +kernel, by decide +kernel, by decide, by decide, by decide +kernel⟩

/-- After the event PREHEAT is INACTIVE and loop L1 holds its cutoff level. -/
theorem faultedStandby_restarts :
    (((run (restarted faultedStandby) (restartTasks .standby)).tle.loops[(0 : LoopIx)]).uPrev = 5)
      ∧ groupActive (run (restarted faultedStandby) (restartTasks .standby)) .preheat = false := by decide +kernel

/-- A RESTART that is taken. -/
theorem exec_restart {r : ReqCell} {s : State} (ha : accepted 18 r s) (ht : restartTaken s = true) :
    exec (.restart r) s = .next (pushReply r.src r.tag .ok (lineData (run (restarted s) (restartTasks s.mru.line)))
      (run (restarted s) (restartTasks s.mru.line))) := by
  have hd : decideByCode (18 : Word16).toNat r s
      = { status := .ok, state := restarted s, tasks := restartTasks s.mru.line, data := lineData } := if_pos ht
  rw [exec_accepted (c := .restart r) rfl ha, hd]
  rfl

/-- Refutes O48: RESTART does not leave every loop with u_prev 0 or, in an ACTIVE group, its cutoff level. -/
theorem not_restartReturnsToStandby : ¬ Obligations.RestartReturnsToStandby := by
  intro h
  obtain ⟨huprev, hgroup⟩ := faultedStandby_restarts
  obtain ⟨t, ht, -, -, -, -, -, -, -, -, -, -, -, -, -, -, -, -, -, -, -, -, -, -, hloops, -⟩ :=
    h restartRequest faultedStandby restartRequest_accepted (.inl rfl)
  obtain ⟨-, -, -, -, -, -, hloop⟩ := hloops 0
  have hrun := Host.Outcome.next.inj (ht.symm.trans (exec_restart restartRequest_accepted rfl))
  rw [show faultedStandby.mru.line = .standby from rfl] at hrun
  have htle := congrArg State.tle hrun
  have hacu := congrArg State.acu hrun
  rw [pushReply_tle, pushReply_tle] at htle
  rw [pushReply_acu, pushReply_acu] at hacu
  have hinactive : groupActive t .preheat = false := by
    rw [← hgroup]
    simp only [groupActive, hacu]
  rw [htle, huprev] at hloop
  obtain hzero | ⟨hactive, -⟩ := hloop
  · revert hzero
    decide
  · exact Bool.false_ne_true (hinactive.symm.trans hactive)

end Sys2Proof.Machine
end

section
/-! Timed edges and the valves of one group of edges (R26, R93, R94, R95). -/

namespace Sys2Proof.Machine

/-! ## What a timed edge leaves of FLX and of the command queue (R10, R26) -/

/-- From `s` to `t` only the count of late edges moves in FLX, and it does not fall. -/
structure LateOnly (s t : State) : Prop where
  flx : t.flx = { s.flx with lateEdges := t.flx.lateEdges }
  late : min 65535 s.flx.lateEdges ≤ t.flx.lateEdges

theorem LateOnly.of_flx {s t : State} (h : t.flx = s.flx) : LateOnly s t := ⟨by rw [h], by rw [h]; exact min_le_right ..⟩

theorem takeTimed_late (c : TimedCell) (s : State) : LateOnly s (takeTimed c s) := by
  unfold takeTimed
  split
  · exact .of_flx rfl
  · exact ⟨rfl, by simp only [countLateEdges, satAdd]; omega⟩

/-- A new automatic command in an output's record. -/
def automaticSet (o : OutIx) (v : Nat) (s : State) : State := setOutputRecord s o { outputRecord s o with automatic := v }

/-- A timed edge in its two parts: LIF takes the cell of a committed valve, and OUT follows. -/
theorem timedEdge_cases (n : NozzleIx) (isOpen : Bool) (duty delay : Nat) (s : State) :
    ∃ u, (u = s ∨ ∃ c, u = takeTimed c s)
      ∧ (timedEdge n isOpen duty delay s = formPure (valveOutput n) (automaticSet (valveOutput n) (if isOpen then duty else 0) u)
        ∨ ∃ d, timedEdge n isOpen duty delay s = setOutputRecord (automaticSet (valveOutput n) (if isOpen then duty else 0) u) (valveOutput n)
            { outputRecord (automaticSet (valveOutput n) (if isOpen then duty else 0) u) (valveOutput n) with delivered := d }) := by
  have hpart (u : State) (h : u = if s.tbs.outputCommitted[valveOutput n] then
      takeTimed { output := valveOutput n, dest := outputNode s.tbs (valveOutput n), channel := outputChannel s.tbs (valveOutput n),
                  isOpen := isOpen, duty := duty, delay := delay } s else s) :
      timedEdge n isOpen duty delay s = formPure (valveOutput n) (automaticSet (valveOutput n) (if isOpen then duty else 0) u)
        ∨ ∃ d, timedEdge n isOpen duty delay s = setOutputRecord (automaticSet (valveOutput n) (if isOpen then duty else 0) u) (valveOutput n)
            { outputRecord (automaticSet (valveOutput n) (if isOpen then duty else 0) u) (valveOutput n) with delivered := d } := by
    have heq : timedEdge n isOpen duty delay s = if deliveredValue (automaticSet (valveOutput n) (if isOpen then duty else 0) u) (valveOutput n)
          = (if isOpen then duty else 0)
        then setOutputRecord (automaticSet (valveOutput n) (if isOpen then duty else 0) u) (valveOutput n)
          { outputRecord (automaticSet (valveOutput n) (if isOpen then duty else 0) u) (valveOutput n) with
            delivered := if isOpen then duty else 0 }
        else formPure (valveOutput n) (automaticSet (valveOutput n) (if isOpen then duty else 0) u) := by
      rw [h]
      rfl
    rw [heq]
    by_cases hd : deliveredValue (automaticSet (valveOutput n) (if isOpen then duty else 0) u) (valveOutput n) = if isOpen then duty else 0
    · rw [if_pos hd]
      exact .inr ⟨_, rfl⟩
    · rw [if_neg hd]
      exact .inl rfl
  refine ⟨_, ?_, hpart _ rfl⟩
  split
  · exact .inr ⟨_, rfl⟩
  · exact .inl rfl

theorem timedEdge_flx (n : NozzleIx) (isOpen : Bool) (duty delay : Nat) (s : State) :
    (timedEdge n isOpen duty delay s).flx = s.flx ∨ ∃ c, (timedEdge n isOpen duty delay s).flx = (takeTimed c s).flx := by
  obtain ⟨u, hu, hend⟩ := timedEdge_cases n isOpen duty delay s
  have hflx : (timedEdge n isOpen duty delay s).flx = u.flx := by
    obtain h | ⟨d, h⟩ := hend
    · rw [h, formPure_flx]
      rfl
    · rw [h]
      rfl
  obtain rfl | ⟨c, rfl⟩ := hu
  · exact .inl hflx
  · exact .inr ⟨c, hflx⟩

theorem timedEdge_late (n : NozzleIx) (isOpen : Bool) (duty delay : Nat) (s : State) : LateOnly s (timedEdge n isOpen duty delay s) := by
  obtain h | ⟨c, h⟩ := timedEdge_flx n isOpen duty delay s
  · exact .of_flx h
  · have hc := takeTimed_late c s
    exact ⟨by rw [h]; exact hc.flx, by rw [h]; exact hc.late⟩

/-- From `s` to `t` the command queue grows by `k` cells at most, and where they have room no edge counts late. -/
structure QueueGrows (k : Nat) (s t : State) : Prop where
  length : t.lif.commandQueue.length ≤ s.lif.commandQueue.length + k
  late : s.lif.commandQueue.length + k ≤ 32 → t.flx.lateEdges = s.flx.lateEdges

theorem QueueGrows.of_eq {s t : State} (hl : t.lif = s.lif) (hf : t.flx.lateEdges = s.flx.lateEdges) (k : Nat) : QueueGrows k s t :=
  ⟨by rw [hl]; exact Nat.le_add_right .., fun _ => hf⟩

theorem QueueGrows.trans {j k : Nat} {s t u : State} (h : QueueGrows j s t) (g : QueueGrows k t u) : QueueGrows (j + k) s u := by
  obtain ⟨hlength, hlate⟩ := h
  obtain ⟨glength, glate⟩ := g
  exact ⟨by omega, fun hroom => (glate (by omega)).trans (hlate (by omega))⟩

theorem takeTimed_grows (c : TimedCell) (s : State) : QueueGrows 1 s (takeTimed c s) := by
  unfold takeTimed
  split
  next hroom => exact ⟨by simp, fun _ => rfl⟩
  next hfull => exact ⟨Nat.le_add_right .., fun hroom => absurd hroom (by omega)⟩

theorem takeCommand_grows (c : CommandCell) (l : Lif) : (takeCommand c l).commandQueue.length ≤ l.commandQueue.length + 1 := by
  unfold takeCommand
  (repeat' split) <;> simp

theorem formPure_grows (o : OutIx) (s : State) : QueueGrows 1 s (formPure o s) := by
  refine ⟨?_, fun _ => by rw [formPure_flx]⟩
  have hcommand (u : State) (h : u.lif.commandQueue.length ≤ s.lif.commandQueue.length) :
      (handCommand o u).lif.commandQueue.length ≤ s.lif.commandQueue.length + 1 := by
    unfold handCommand
    split
    · exact (takeCommand_grows _ _).trans (by omega)
    · omega
  unfold formPure
  dsimp only
  split
  · omega
  · refine hcommand _ ?_
    rw [setOutputRecord_lif]
    split
    · exact List.length_filter_le ..
    · exact le_refl _

theorem timedEdge_grows (n : NozzleIx) (isOpen : Bool) (duty delay : Nat) (s : State) : QueueGrows 2 s (timedEdge n isOpen duty delay s) := by
  obtain ⟨u, hu, hend⟩ := timedEdge_cases n isOpen duty delay s
  have htaken : QueueGrows 1 s u := by
    obtain rfl | ⟨c, rfl⟩ := hu
    · exact .of_eq rfl rfl 1
    · exact takeTimed_grows c s
  refine QueueGrows.trans (k := 1) htaken ?_
  obtain h | ⟨d, h⟩ := hend
  · have hset : QueueGrows 0 u (automaticSet (valveOutput n) (if isOpen then duty else 0) u) := .of_eq (by rfl) (by rfl) 0
    rw [h]
    exact hset.trans (k := 1) (formPure_grows ..)
  · rw [h]
    exact .of_eq (by rfl) (by rfl) 1

theorem takeTimed_out (c : TimedCell) (s : State) : (takeTimed c s).out = s.out := (takeTimed_touches c s).same .out (by decide)

theorem valveOutput_injective {m n : NozzleIx} (h : valveOutput m = valveOutput n) : m = n := by
  revert m n
  decide

theorem valveOutput_ne_feeder (n : NozzleIx) : valveOutput n ≠ O 21 := by
  revert n
  decide

/-- The automatic commands of the valves after a timed edge (R26). -/
theorem timedEdge_automatic (n : NozzleIx) (isOpen : Bool) (duty delay : Nat) (s : State) (m : NozzleIx) :
    (outputRecord (timedEdge n isOpen duty delay s) (valveOutput m)).automatic
      = if m = n then (if isOpen then duty else 0) else (outputRecord s (valveOutput m)).automatic := by
  obtain ⟨u, hu, hend⟩ := timedEdge_cases n isOpen duty delay s
  have hout : u.out = s.out := by
    obtain rfl | ⟨c, rfl⟩ := hu
    · rfl
    · exact takeTimed_out c s
  by_cases hmn : m = n
  · subst hmn
    rw [if_pos rfl]
    obtain h | ⟨d, h⟩ := hend
    · rw [h, formPure_record_same _ (valveOutput_ne_feeder m)]
      exact congrArg OutputRecord.automatic (outputRecord_set_same ..)
    · rw [h, outputRecord_set_same]
      exact congrArg OutputRecord.automatic (outputRecord_set_same ..)
  · have hne : valveOutput n ≠ valveOutput m := fun h => hmn (valveOutput_injective h).symm
    have hset : outputRecord (automaticSet (valveOutput n) (if isOpen then duty else 0) u) (valveOutput m) = outputRecord s (valveOutput m) := by
      rw [automaticSet, outputRecord_set_other _ _ hne, outputRecord, hout]
      rfl
    rw [if_neg hmn]
    obtain h | ⟨d, h⟩ := hend
    · rw [h, formPure_record_other _ hne, hset]
    · rw [h, outputRecord_set_other _ _ hne, hset]

/-! ## One nozzle of a group (R93, R95) -/

/-- A valve handed and its change entered into the plan. -/
def handNozzle (before : State) (delay : Nat) (t : State) (n : NozzleIx) : State := planChange before delay n (handValve before delay n t)

theorem applyGroup_eq (s : State) (g : Nat × List Edge) :
    applyGroup s g = allNozzles.foldl (handNozzle s g.1) (g.2.foldl applyEdge s) := rfl

/-- What the hand-over of some nozzles' changes leaves: `t` is the state with the changes, `u` the one after it. -/
structure Handed (before : State) (delay : Nat) (ns : List NozzleIx) (t u : State) : Prop where
  edges : u.flx.edges = t.flx.edges
  sprays : u.flx.sprays = t.flx.sprays
  accounted : u.flx.lastAccounted = t.flx.lastAccounted
  btk : u.btk = t.btk
  tbs : u.tbs = t.tbs
  views : ∀ m, viewOf u m = viewOf t m
  plans : ∀ m, (u.flx.nozzles[m]).planChanges = (t.flx.nozzles[m]).planChanges
    ++ if m ∈ ns ∧ viewOf t m ≠ viewOf before m then [(delay, viewOf t m)] else []
  automatic : ∀ m, (outputRecord u (valveOutput m)).automatic
    = if m ∈ ns ∧ ¬((viewOf t m).isOpen = (viewOf before m).isOpen ∧ (viewOf t m).duty = (viewOf before m).duty)
      then (if (viewOf t m).isOpen then (viewOf t m).duty else 0) else (outputRecord t (valveOutput m)).automatic
  late : min 65535 t.flx.lateEdges ≤ u.flx.lateEdges
  grows : QueueGrows (2 * ns.length) t u

theorem Handed.nil (before : State) (delay : Nat) (t : State) : Handed before delay [] t t :=
  ⟨rfl, rfl, rfl, rfl, rfl, fun _ => rfl, fun _ => by simp, fun _ => by simp, min_le_right .., .of_eq rfl rfl _⟩

theorem mapNozzle_nozzle (s : State) (n m : NozzleIx) (f : Nozzle → Nozzle) :
    (mapNozzle s n f).flx.nozzles[m] = if m = n then f s.flx.nozzles[m] else s.flx.nozzles[m] := by
  rw [mapNozzle_flx_nozzles]
  split
  next h =>
    subst h
    exact vset_same ..
  next h => exact vset_other _ (Ne.symm h) _

theorem viewOf_of_nozzles {s t : State} (h : t.flx.nozzles = s.flx.nozzles) (n : NozzleIx) : viewOf t n = viewOf s n := by
  rw [viewOf, viewOf, h]

theorem handValve_handed (before : State) (delay : Nat) (n : NozzleIx) (t : State) :
    LateOnly t (handValve before delay n t) ∧ QueueGrows 2 t (handValve before delay n t)
      ∧ (handValve before delay n t).btk = t.btk ∧ (handValve before delay n t).tbs = t.tbs
      ∧ ∀ m, (outputRecord (handValve before delay n t) (valveOutput m)).automatic
        = if m = n ∧ ¬((viewOf t m).isOpen = (viewOf before m).isOpen ∧ (viewOf t m).duty = (viewOf before m).duty)
          then (if (viewOf t m).isOpen then (viewOf t m).duty else 0) else (outputRecord t (valveOutput m)).automatic := by
  have hsame := (handValve_touches before delay n t).same
  refine ⟨?_, ?_, hsame .btk (by decide), hsame .tbs (by decide), fun m => ?_⟩
  · unfold handValve
    dsimp only
    split
    · exact .of_flx rfl
    · exact timedEdge_late ..
  · unfold handValve
    dsimp only
    split
    · exact .of_eq rfl rfl 2
    · exact timedEdge_grows ..
  · unfold handValve
    dsimp only
    split
    next h =>
      rw [if_neg]
      rintro ⟨rfl, hno⟩
      exact hno h
    next h =>
      rw [timedEdge_automatic]
      by_cases hmn : m = n
      · subst hmn
        simp only [if_true, true_and, h, not_false_eq_true]
      · rw [if_neg hmn, if_neg fun hk => hmn hk.1]

/-- A nozzle record with a change entered into its plan. -/
def planEntered (delay : Nat) (z : Nozzle) : Nozzle := { z with planChanges := z.planChanges ++ [(delay, z.view)] }

theorem planChange_eq (before : State) (delay : Nat) (n : NozzleIx) (s : State) :
    planChange before delay n s = if viewOf s n = viewOf before n then s else mapNozzle s n (planEntered delay) := rfl

theorem handNozzle_handed (before : State) (delay : Nat) (t : State) (n : NozzleIx) :
    Handed before delay [n] t (handNozzle before delay t n) := by
  obtain ⟨⟨hflx, hlate⟩, hgrows, hbtk, htbs, hautomatic⟩ := handValve_handed before delay n t
  have hnozzles : (handValve before delay n t).flx.nozzles = t.flx.nozzles := by rw [hflx]
  have hlast : (handValve before delay n t).flx.lastAccounted = t.flx.lastAccounted := by rw [hflx]
  have hview := viewOf_of_nozzles hnozzles
  have hauto (m : NozzleIx) : (outputRecord (handValve before delay n t) (valveOutput m)).automatic
      = if m ∈ [n] ∧ ¬((viewOf t m).isOpen = (viewOf before m).isOpen ∧ (viewOf t m).duty = (viewOf before m).duty)
        then (if (viewOf t m).isOpen then (viewOf t m).duty else 0) else (outputRecord t (valveOutput m)).automatic := by
    rw [hautomatic m]
    simp only [List.mem_singleton]
  rw [handNozzle, planChange_eq, hview]
  split
  next h =>
    refine ⟨by rw [hflx], by rw [hflx], by rw [hflx], hbtk, htbs, hview, fun m => ?_, hauto, hlate, hgrows⟩
    rw [hnozzles, if_neg, List.append_nil]
    rintro ⟨hm, hne⟩
    rw [List.mem_singleton.mp hm] at hne
    exact hne h
  next h =>
    refine ⟨by rw [mapNozzle_flx_edges, hflx], by rw [mapNozzle_flx_sprays, hflx], hlast, hbtk, htbs, fun m => ?_, fun m => ?_, hauto, hlate,
      hgrows.trans (k := 0) (.of_eq (by rfl) (by rfl) 0)⟩
    · rw [viewOf, mapNozzle_nozzle, hnozzles]
      split <;> rfl
    · rw [mapNozzle_nozzle, hnozzles]
      by_cases hm : m = n
      · subst hm
        rw [if_pos rfl, if_pos ⟨List.mem_singleton_self _, h⟩]
        rfl
      · rw [if_neg hm, if_neg fun hk => hm (List.mem_singleton.mp hk.1), List.append_nil]

theorem Handed.cons {before : State} {delay : Nat} {n : NozzleIx} {ns : List NozzleIx} (hn : n ∉ ns) {t u w : State}
    (h : Handed before delay [n] t u) (k : Handed before delay ns u w) : Handed before delay (n :: ns) t w := by
  refine ⟨k.edges.trans h.edges, k.sprays.trans h.sprays, k.accounted.trans h.accounted, k.btk.trans h.btk, k.tbs.trans h.tbs,
    fun m => (k.views m).trans (h.views m), fun m => ?_, fun m => ?_, ?_, ?_⟩
  · rw [k.plans, h.plans, h.views]
    by_cases hm : m = n
    · subst hm
      simp [hn]
    · simp [hm]
  · rw [k.automatic, h.automatic, h.views]
    by_cases hm : m = n
    · subst hm
      simp [hn]
    · simp [hm]
  · have := h.late
    have := k.late
    omega
  · have hgrows := h.grows.trans k.grows
    rw [List.length_singleton] at hgrows
    rw [List.length_cons, show 2 * (ns.length + 1) = 2 * 1 + 2 * ns.length by omega]
    exact hgrows

theorem foldl_handNozzle (before : State) (delay : Nat) {ns : List NozzleIx} (hns : ns.Nodup) (t : State) :
    Handed before delay ns t (ns.foldl (handNozzle before delay) t) := by
  induction ns generalizing t with
  | nil => exact .nil ..
  | cons n ns ih =>
    rw [List.nodup_cons] at hns
    exact .cons hns.1 (handNozzle_handed ..) (ih hns.2 _)

end Sys2Proof.Machine
end

section
/-! The spray edges taken at a sample: segments, nozzle records, and the groups of one delay (R91, R92, R93). -/

namespace Sys2Proof.Machine

/-! ## Views and the segments that cover them (R91) -/

/-- A view as the segments that cover its nozzle make it. -/
def ViewFollows (cs : List (BoardNo × Nat)) (v : NozzleView) : Prop :=
  (cs = [] → v = ⟨false, 0, none⟩)
    ∧ (cs ≠ [] → v.isOpen = true ∧ (∃ x ∈ cs, v.duty = x.2) ∧ (∀ x ∈ cs, x.2 ≤ v.duty) ∧ ∃ x ∈ cs, v.owner = some x.1)

theorem foldl_max_greatest (l : List Nat) (d : Nat) :
    (l.foldl max d = d ∨ l.foldl max d ∈ l) ∧ d ≤ l.foldl max d ∧ ∀ x ∈ l, x ≤ l.foldl max d := by
  induction l generalizing d with
  | nil => exact ⟨.inl rfl, le_refl d, fun x hx => by cases hx⟩
  | cons a l ih =>
    obtain ⟨hmem, hle, hall⟩ := ih (max d a)
    rw [List.foldl_cons]
    refine ⟨?_, by omega, fun x hx => ?_⟩
    · obtain h | h := hmem
      · rw [h]
        obtain hd | ha := le_total a d
        · exact .inl (max_eq_left hd)
        · rw [max_eq_right ha]
          exact .inr (List.mem_cons_self ..)
      · exact .inr (List.mem_cons_of_mem _ h)
    · obtain rfl | hx := List.mem_cons.mp hx
      · omega
      · exact hall x hx

theorem deriveView_follows (s : State) (n : NozzleIx) (before : NozzleView) : ViewFollows (covering s n) (deriveView s n before) := by
  rw [deriveView]
  cases hc : covering s n with
  | nil => exact ⟨fun _ => rfl, fun h => absurd rfl h⟩
  | cons c rest =>
    obtain ⟨b, duty⟩ := c
    obtain ⟨hmem, hle, hall⟩ := foldl_max_greatest (rest.map (·.2)) duty
    refine ⟨fun h => by simp at h, fun _ => ⟨rfl, ?_, fun x hx => ?_, ?_⟩⟩
    · obtain h | h := hmem
      · exact ⟨(b, duty), List.mem_cons_self .., h⟩
      · obtain ⟨x, hx, hxd⟩ := List.mem_map.mp h
        exact ⟨x, List.mem_cons_of_mem _ hx, hxd.symm⟩
    · obtain rfl | hx := List.mem_cons.mp hx
      · exact hle
      · exact hall x.2 (List.mem_map_of_mem hx)
    · by_cases hkept : (before.isOpen && ((b, duty) :: rest).any fun c => before.owner == some c.1) = true
      · obtain ⟨x, hx, howner⟩ := List.any_eq_true.mp (Bool.and_eq_true_iff.mp hkept).2
        exact ⟨x, hx, by simp only [hkept, if_true]; exact beq_iff_eq.mp howner⟩
      · exact ⟨(b, duty), List.mem_cons_self .., by simp only [hkept, if_false, Bool.false_eq_true]⟩

theorem ViewFollows.duty_closed {cs : List (BoardNo × Nat)} {v : NozzleView} (h : ViewFollows cs v) (hv : v.isOpen ≠ true) : v.duty = 0 := by
  by_cases hc : cs = []
  · rw [h.1 hc]
  · exact absurd (h.2 hc).1 hv

theorem covering_congr {s t : State} (hsprays : t.flx.sprays = s.flx.sprays) (hbtk : t.btk = s.btk) (htbs : t.tbs = s.tbs) (n : NozzleIx) :
    covering t n = covering s n := by
  unfold covering
  rw [hsprays, hbtk, htbs]

theorem deriveNozzles_sprays (s : State) : (deriveNozzles s).flx.sprays = s.flx.sprays := rfl

theorem deriveNozzles_view (s : State) (n : NozzleIx) : viewOf (deriveNozzles s) n = deriveView s n (viewOf s n) := by
  simp only [viewOf, deriveNozzles, Fin.getElem_fin, Vector.getElem_ofFn]

theorem deriveNozzles_plan (s : State) (n : NozzleIx) :
    ((deriveNozzles s).flx.nozzles[n]).planChanges = (s.flx.nozzles[n]).planChanges := by
  simp only [deriveNozzles, Fin.getElem_fin, Vector.getElem_ofFn]

theorem deriveNozzles_follows (s : State) (n : NozzleIx) : ViewFollows (covering (deriveNozzles s) n) (viewOf (deriveNozzles s) n) := by
  rw [deriveNozzles_view, covering_congr (s := s) (deriveNozzles_sprays s) rfl rfl]
  exact deriveView_follows ..

/-! ## One edge applied (R93) -/

/-- What edges applied to their segments leave: no list, count or output, and every view is as it was or follows its segments. -/
structure EdgesApplied (s t : State) : Prop where
  edges : t.flx.edges = s.flx.edges
  accounted : t.flx.lastAccounted = s.flx.lastAccounted
  lateEdges : t.flx.lateEdges = s.flx.lateEdges
  lif : t.lif = s.lif
  out : t.out = s.out
  plans : ∀ n : NozzleIx, (t.flx.nozzles[n]).planChanges = (s.flx.nozzles[n]).planChanges
  views : (∀ n, viewOf t n = viewOf s n ∧ covering t n = covering s n) ∨ ∀ n, ViewFollows (covering t n) (viewOf t n)

theorem EdgesApplied.refl (s : State) : EdgesApplied s s := ⟨rfl, rfl, rfl, rfl, rfl, fun _ => rfl, .inl fun _ => ⟨rfl, rfl⟩⟩

theorem EdgesApplied.trans {s t u : State} (h : EdgesApplied s t) (k : EdgesApplied t u) : EdgesApplied s u where
  edges := k.edges.trans h.edges
  accounted := k.accounted.trans h.accounted
  lateEdges := k.lateEdges.trans h.lateEdges
  lif := k.lif.trans h.lif
  out := k.out.trans h.out
  plans n := (k.plans n).trans (h.plans n)
  views := by
    obtain hk | hk := k.views
    · obtain hh | hh := h.views
      · exact .inl fun n => ⟨(hk n).1.trans (hh n).1, (hk n).2.trans (hh n).2⟩
      · exact .inr fun n => by rw [(hk n).1, (hk n).2]; exact hh n
    · exact .inr hk

theorem derived_applied {s u : State} (hedges : u.flx.edges = s.flx.edges) (haccounted : u.flx.lastAccounted = s.flx.lastAccounted)
    (hlate : u.flx.lateEdges = s.flx.lateEdges) (hlif : u.lif = s.lif) (hout : u.out = s.out) (hnozzles : u.flx.nozzles = s.flx.nozzles) :
    EdgesApplied s (deriveNozzles u) :=
  ⟨hedges, haccounted, hlate, hlif, hout, fun n => by rw [deriveNozzles_plan, hnozzles], .inr (deriveNozzles_follows u)⟩

theorem applyEdge_applied (s : State) (e : Edge) : EdgesApplied s (applyEdge s e) := by
  unfold applyEdge
  split
  · dsimp only
    split
    · exact derived_applied (by rfl) (by rfl) (by rfl) (by rfl) (by rfl) (by rfl)
    · exact derived_applied (by rfl) (by rfl) (by rfl) (by rfl) (by rfl) (by rfl)
  · exact derived_applied (by rfl) (by rfl) (by rfl) (by rfl) (by rfl) (by rfl)
  · exact .refl s

theorem foldl_applyEdge (es : List Edge) (s : State) : EdgesApplied s (es.foldl applyEdge s) :=
  List.foldlRecOn (motive := fun t : State => EdgesApplied s t) es applyEdge (.refl s) fun _ ht e _ => ht.trans (applyEdge_applied _ e)

/-! ## One group, and the groups one after another (R93) -/

/-- A nozzle that follows its segments, with its valve's automatic command. -/
def NozzleFollows (u : State) (n : NozzleIx) : Prop :=
  ViewFollows (covering u n) (viewOf u n) ∧ (outputRecord u (valveOutput n)).automatic = (viewOf u n).duty

/-- What groups of edges leave. -/
structure GroupsApplied (k : Nat) (s t : State) : Prop where
  edges : t.flx.edges = s.flx.edges
  accounted : t.flx.lastAccounted = s.flx.lastAccounted
  late : min 65535 s.flx.lateEdges ≤ t.flx.lateEdges
  grows : QueueGrows (16 * k) s t
  follows : ∀ n, NozzleFollows s n → NozzleFollows t n

theorem GroupsApplied.refl (s : State) : GroupsApplied 0 s s := ⟨rfl, rfl, min_le_right .., .of_eq rfl rfl _, fun _ => id⟩

theorem GroupsApplied.trans {j k : Nat} {s t u : State} (h : GroupsApplied j s t) (g : GroupsApplied k t u) : GroupsApplied (j + k) s u where
  edges := g.edges.trans h.edges
  accounted := g.accounted.trans h.accounted
  late := by
    have := h.late
    have := g.late
    omega
  grows := by
    rw [Nat.mul_add]
    exact h.grows.trans g.grows
  follows n hn := g.follows n (h.follows n hn)

theorem applyGroup_handed (s : State) (g : Nat × List Edge) : Handed s g.1 allNozzles (g.2.foldl applyEdge s) (applyGroup s g) := by
  rw [applyGroup_eq]
  exact foldl_handNozzle s g.1 (List.nodup_finRange 8) _

theorem mem_allNozzles (n : NozzleIx) : n ∈ allNozzles := List.mem_finRange n

theorem applyGroup_applied (s : State) (g : Nat × List Edge) : GroupsApplied 1 s (applyGroup s g) := by
  have happlied := foldl_applyEdge g.2 s
  have hhanded := applyGroup_handed s g
  generalize g.2.foldl applyEdge s = t at happlied hhanded
  refine ⟨hhanded.edges.trans happlied.edges, hhanded.accounted.trans happlied.accounted, ?_, ?_, fun n ⟨hview, hauto⟩ => ?_⟩
  · rw [← happlied.lateEdges]
    exact hhanded.late
  · exact QueueGrows.trans (j := 0) (.of_eq happlied.lif happlied.lateEdges 0) hhanded.grows
  · have hcover : covering (applyGroup s g) n = covering t n := covering_congr hhanded.sprays hhanded.btk hhanded.tbs n
    have hfollows : ViewFollows (covering t n) (viewOf t n) := by
      obtain h | h := happlied.views
      · rw [(h n).1, (h n).2]
        exact hview
      · exact h n
    refine ⟨by rw [hcover, hhanded.views]; exact hfollows, ?_⟩
    rw [hhanded.automatic, hhanded.views]
    by_cases hsame : (viewOf t n).isOpen = (viewOf s n).isOpen ∧ (viewOf t n).duty = (viewOf s n).duty
    · rw [if_neg fun h => h.2 hsame, outputRecord, happlied.out, hsame.2]
      exact hauto
    · rw [if_pos ⟨mem_allNozzles n, hsame⟩]
      split
      · rfl
      next hclosed => exact (hfollows.duty_closed hclosed).symm

theorem foldl_applyGroup (gs : List (Nat × List Edge)) (s : State) : GroupsApplied gs.length s (gs.foldl applyGroup s) := by
  induction gs generalizing s with
  | nil => exact .refl s
  | cons g gs ih =>
    rw [List.length_cons, Nat.add_comm, List.foldl_cons]
    exact GroupsApplied.trans (applyGroup_applied s g) (ih (applyGroup s g))

end Sys2Proof.Machine
end

section
/-! The edges that a sample takes, and the runs that close by them (R92, R93, R94). -/

namespace Sys2Proof.Machine

/-! ## The runs that close (R93) -/

/-- The edge's board is SPRAYING and has no edge left. -/
def runOver (s : State) (e : Edge) : Bool := decide (fluxOf s e.board = some .spraying) && !hasEdges s e.board

/-- The spray records after the runs of some edges' boards have closed. -/
def closingSprays (s : State) (gone : List Edge) (x : List SprayRecord) : List SprayRecord :=
  x.map fun r => if gone.any (fun e => runOver s e && e.board == r.board) then { r with runClosing := true } else r

theorem closingSprays_cons (s : State) (e : Edge) (gone : List Edge) (x : List SprayRecord) : closingSprays s (e :: gone) x =
    closingSprays s gone (x.map fun r => if runOver s e && e.board == r.board then { r with runClosing := true } else r) := by
  simp only [closingSprays, List.map_map]
  refine List.map_congr_left fun r _ => ?_
  rw [List.any_cons, Function.comp_apply]
  by_cases h : (runOver s e && e.board == r.board) = true
  · rw [if_pos (by rw [h, Bool.true_or]), if_pos h, ite_self]
  · rw [Bool.not_eq_true] at h
    rw [h, Bool.false_or, if_neg Bool.false_ne_true]

theorem closeRun_eq (s : State) (e : Edge) (x : List SprayRecord) :
    (if fluxOf (withSprays s x) e.board = some .spraying ∧ hasEdges (withSprays s x) e.board = false then
        mapSpray (withSprays s x) e.board fun r => { r with runClosing := true } else withSprays s x)
      = withSprays s (x.map fun r => if runOver s e && e.board == r.board then { r with runClosing := true } else r) := by
  by_cases h : runOver s e = true
  · have hover : fluxOf s e.board = some .spraying ∧ hasEdges s e.board = false := by simpa [runOver] using h
    rw [if_pos (by exact hover)]
    refine congrArg (withSprays s) (List.map_congr_left fun r _ => ?_)
    by_cases hb : r.board = e.board
    · simp [h, hb]
    · have hne : ¬e.board = r.board := fun k => hb k.symm
      simp [hb, hne]
  · have hover : ¬(fluxOf s e.board = some .spraying ∧ hasEdges s e.board = false) := fun k => h (by simpa [runOver] using k)
    rw [Bool.not_eq_true] at h
    rw [if_neg (by exact hover)]
    simp only [h, Bool.false_and, Bool.false_eq_true, if_false, List.map_id']

theorem closeRuns_eq (s : State) (gone : List Edge) : closeRuns gone s = withSprays s (closingSprays s gone s.flx.sprays) := by
  have hfold (x : List SprayRecord) : gone.foldl (fun s e => if fluxOf s e.board = some .spraying ∧ hasEdges s e.board = false then
      mapSpray s e.board fun r => { r with runClosing := true } else s) (withSprays s x) = withSprays s (closingSprays s gone x) := by
    induction gone generalizing x with
    | nil =>
      have hid : closingSprays s [] x = x := by simp [closingSprays]
      rw [hid]
      rfl
    | cons e gone ih => rw [List.foldl_cons, closeRun_eq, ih, ← closingSprays_cons]
  exact hfold s.flx.sprays

theorem closingSprays_segments (s : State) (gone : List Edge) (x : List SprayRecord) (n : BoardNo) :
    ((closingSprays s gone x).find? fun r => r.board == n).map (·.segments) = (x.find? fun r => r.board == n).map (·.segments) := by
  induction x with
  | nil => rfl
  | cons r x ih =>
    have hr : (if gone.any (fun e => runOver s e && e.board == r.board) then { r with runClosing := true } else r).board = r.board
        ∧ (if gone.any (fun e => runOver s e && e.board == r.board) then { r with runClosing := true } else r).segments = r.segments := by
      split <;> exact ⟨rfl, rfl⟩
    rw [closingSprays, List.map_cons, ← closingSprays, List.find?_cons, List.find?_cons, hr.1]
    split
    · rw [Option.map_some, Option.map_some, hr.2]
    · exact ih

theorem closeRuns_segmentState (s : State) (gone : List Edge) (n : BoardNo) (k : Nat) :
    segmentState (closeRuns gone s) n k = segmentState s n k := by
  have h := closingSprays_segments s gone s.flx.sprays n
  have hkey (x : List SprayRecord) : ((x.find? fun r => r.board == n).bind fun r => (r.segments.find? fun g => g.number == k).map (·.state))
      = ((x.find? fun r => r.board == n).map (·.segments)).bind fun l => (l.find? fun g => g.number == k).map (·.state) := by
    cases x.find? fun r => r.board == n <;> rfl
  rw [closeRuns_eq, show segmentState (withSprays s (closingSprays s gone s.flx.sprays)) n k
    = ((closingSprays s gone s.flx.sprays).find? fun r => r.board == n).bind fun r => (r.segments.find? fun g => g.number == k).map (·.state)
    from rfl, hkey, h, ← hkey]
  rfl

theorem closeRuns_fluxOf (s : State) (gone : List Edge) (n : BoardNo) : fluxOf (closeRuns gone s) n = fluxOf s n := by
  rw [closeRuns_eq]
  rfl

theorem closeRuns_nozzles (s : State) (gone : List Edge) : (closeRuns gone s).flx.nozzles = s.flx.nozzles := by
  rw [closeRuns_eq]
  rfl

theorem closeRuns_covering (s : State) (gone : List Edge) (n : NozzleIx) : covering (closeRuns gone s) n = covering s n := by
  rw [closeRuns_eq]
  simp only [covering, withSprays, closingSprays, List.flatMap_map]
  refine List.flatMap_congr fun r _ => ?_
  cases hc : gone.any fun e => runOver s e && e.board == r.board <;> rfl

theorem closeRuns_closes {s : State} {gone : List Edge} {e : Edge} (he : e ∈ gone) (hflux : fluxOf s e.board = some .spraying)
    (hedges : hasEdges s e.board = false) : ∀ r ∈ (closeRuns gone s).flx.sprays, r.board = e.board → r.runClosing = true := by
  rw [closeRuns_eq]
  intro r hr hb
  obtain ⟨q, -, rfl⟩ := List.mem_map.mp hr
  have hboard : q.board = e.board := by
    revert hb
    split <;> exact id
  rw [if_pos (List.any_eq_true.mpr ⟨e, he, by simp [runOver, hflux, hedges, hboard]⟩)]

/-! ## One edge applied to its segment (R93) -/

theorem setSegment_state (s : State) (n : BoardNo) (k : Nat) (x : SegState) :
    segmentState (setSegment s n k x) n k = (segmentState s n k).map fun _ => x := by
  have hfind (l : List Segment) : ((l.map fun g => if g.number = k then { g with state := x } else g).find? fun g => g.number == k).map (·.state)
      = ((l.find? fun g => g.number == k).map (·.state)).map fun _ => x := by
    induction l with
    | nil => rfl
    | cons g l ih =>
      rw [List.map_cons, List.find?_cons, List.find?_cons]
      by_cases hg : g.number = k
      · simp [hg]
      · rw [if_neg hg, show (g.number == k) = false by simpa using hg]
        exact ih
  rw [segmentState, setSegment, findSpray_same s n
    (f := fun r => { r with segments := r.segments.map fun g => if g.number = k then { g with state := x } else g }) fun _ => rfl, segmentState]
  cases findSpray s.flx n with
  | none => rfl
  | some r => exact hfind r.segments

theorem applyEdge_opening {s : State} {e : Edge} (hk : e.kind = .opening) (hstate : segmentState s e.board e.segment = some .pending) :
    applyEdge s e = deriveNozzles (setSegment (if fluxOf s e.board = some .pending then writeFlux e.board .spraying s else s)
      e.board e.segment .opened) := by
  simp only [applyEdge, hk, hstate]

theorem applyEdge_closing {s : State} {e : Edge} (hk : e.kind = .closing) (hstate : segmentState s e.board e.segment = some .opened) :
    applyEdge s e = deriveNozzles (setSegment s e.board e.segment .closed) := by
  simp only [applyEdge, hk, hstate]

theorem applyEdge_none {s : State} {e : Edge} (hopen : ¬(e.kind = .opening ∧ segmentState s e.board e.segment = some .pending))
    (hclose : ¬(e.kind = .closing ∧ segmentState s e.board e.segment = some .opened)) : applyEdge s e = s := by
  unfold applyEdge
  split
  next hk hstate => exact absurd ⟨hk, hstate⟩ hopen
  next hk hstate => exact absurd ⟨hk, hstate⟩ hclose
  · rfl

theorem applyEdge_segment (s : State) (e : Edge) : segmentState (applyEdge s e) e.board e.segment =
    if e.kind = .opening ∧ segmentState s e.board e.segment = some .pending then some .opened
    else if e.kind = .closing ∧ segmentState s e.board e.segment = some .opened then some .closed
    else segmentState s e.board e.segment := by
  by_cases hopen : e.kind = .opening ∧ segmentState s e.board e.segment = some .pending
  · have hsame : segmentState (if fluxOf s e.board = some .pending then writeFlux e.board .spraying s else s) e.board e.segment
        = segmentState s e.board e.segment := by split <;> rfl
    rw [if_pos hopen, applyEdge_opening hopen.1 hopen.2]
    refine (setSegment_state _ e.board e.segment .opened).trans ?_
    rw [hsame, hopen.2]
    rfl
  · rw [if_neg hopen]
    by_cases hclose : e.kind = .closing ∧ segmentState s e.board e.segment = some .opened
    · rw [if_pos hclose, applyEdge_closing hclose.1 hclose.2]
      refine (setSegment_state _ e.board e.segment .closed).trans ?_
      rw [hclose.2]
      rfl
    · rw [if_neg hclose, applyEdge_none hopen hclose]

theorem applyEdge_flux {s : State} {e : Edge} (hk : e.kind = .opening) (hstate : segmentState s e.board e.segment = some .pending)
    (hflux : fluxOf s e.board = some .pending) : fluxOf (applyEdge s e) e.board = some .spraying := by
  rw [applyEdge_opening hk hstate, if_pos hflux]
  obtain ⟨b, hb, -⟩ := Option.map_eq_some_iff.mp hflux
  have hfound := findBoard_same s e.board (f := fun b => { b with flux := .spraying }) fun _ => rfl
  rw [hb] at hfound
  exact congrArg (Option.map (·.flux)) hfound

/-! ## The edges of a sample (R92) -/

theorem putGroup_length (delay : Nat) (e : Edge) (gs : List (Nat × List Edge)) : (putGroup delay e gs).length ≤ gs.length + 1 := by
  induction gs with
  | nil => exact le_refl _
  | cons g gs ih =>
    rw [putGroup]
    (repeat' split) <;> simp only [List.length_cons] <;> omega

theorem foldl_putGroup_length (delay : Edge → Nat) (es : List Edge) (gs : List (Nat × List Edge)) :
    (es.foldl (fun gs e => putGroup (delay e) e gs) gs).length ≤ gs.length + es.length := by
  induction es generalizing gs with
  | nil => exact le_refl _
  | cons e es ih =>
    have hput := putGroup_length (delay e) e gs
    have hrest := ih (putGroup (delay e) e gs)
    rw [List.foldl_cons, List.length_cons]
    omega

/-- The edges that the conveyor passes before the next sample. -/
def edgesTaken (v8 : Int) (s : State) : List Edge := s.flx.edges.filter fun e => decide (edgeAhead s e < v8 / 8)

/-- Those at or behind the position. -/
def edgesLate (v8 : Int) (s : State) : Nat := ((edgesTaken v8 s).filter fun e => decide (edgeAhead s e ≤ 0)).length

/-- The groups of equal delay. -/
def edgeGroups (v8 : Int) (s : State) : List (Nat × List Edge) :=
  (edgesTaken v8 s).foldl (fun gs e => putGroup (edgeDelay (edgeAhead s e) v8) e gs) []

/-- The state in which the groups are applied: the edges are out of the list, and the late ones counted. -/
def edgesOut (v8 : Int) (s : State) : State :=
  countLateEdges (edgesLate v8 s) (dropEdges (fun e => decide (edgeAhead s e < v8 / 8)) s)

theorem takeEdges_eq (v8 : Int) (s : State) :
    takeEdges v8 s = closeRuns (edgesTaken v8 s) ((edgeGroups v8 s).foldl applyGroup (edgesOut v8 s)) := rfl

theorem flxTakeEdges_eq {s : State} {v8 : Int} (hpos : 0 < v8) (hv8 : s.btk.v8 = some v8) (hforcing : s.flx.forcing = false) :
    flxTakeEdges s = (takeEdges v8 s, [.duct1Demand]) := by
  simp [flxTakeEdges, hforcing, hv8, hpos]

theorem edgeDelay_tdiv (v8 ahead : Int) :
    edgeDelay ahead v8 = if ahead ≤ 0 then 0 else (Int.tdiv (ahead * 16000) v8).toNat := by
  rw [edgeDelay]
  split
  · rfl
  · rw [Int.tdiv_eq_ediv_of_nonneg (by omega)]

/-- What taking the edges leaves of the groups' work: the closing of runs moves no list, count or output. -/
structure EdgesGone (v8 : Int) (s t : State) : Prop where
  edges : t.flx.edges = s.flx.edges.filter fun e => decide (v8 / 8 ≤ edgeAhead s e)
  late : min 65535 (s.flx.lateEdges + edgesLate v8 s) ≤ t.flx.lateEdges
  exact : s.lif.commandQueue.length + 16 * (edgesTaken v8 s).length ≤ 32 →
    t.flx.lateEdges = min 65535 (s.flx.lateEdges + edgesLate v8 s)
  follows : ∀ n, NozzleFollows s n → NozzleFollows t n
  accounted : t.flx.lastAccounted = s.flx.lastAccounted

theorem edgesOut_edges (v8 : Int) (s : State) : (edgesOut v8 s).flx.edges = s.flx.edges.filter fun e => decide (v8 / 8 ≤ edgeAhead s e) := by
  refine List.filter_congr fun e _ => ?_
  by_cases h : edgeAhead s e < v8 / 8
  · simp [h]
  · simp [h, not_lt.mp h]

theorem takeEdges_gone (v8 : Int) (s : State) : EdgesGone v8 s (takeEdges v8 s) := by
  have hgroups := foldl_applyGroup (edgeGroups v8 s) (edgesOut v8 s)
  have hcount : (edgesOut v8 s).flx.lateEdges = min 65535 (s.flx.lateEdges + edgesLate v8 s) := rfl
  have hlen : (edgeGroups v8 s).length ≤ (edgesTaken v8 s).length := by
    have := foldl_putGroup_length (fun e => edgeDelay (edgeAhead s e) v8) (edgesTaken v8 s) []
    rw [List.length_nil, Nat.zero_add] at this
    exact this
  rw [takeEdges_eq]
  generalize (edgeGroups v8 s).foldl applyGroup (edgesOut v8 s) = t at hgroups
  have hruns := closeRuns_eq t (edgesTaken v8 s)
  refine ⟨?_, ?_, fun hroom => ?_, fun n hn => ?_, ?_⟩
  · rw [hruns]
    exact hgroups.edges.trans (edgesOut_edges v8 s)
  · rw [hruns]
    have hlate := hgroups.late
    rw [hcount] at hlate
    exact le_trans (by omega) hlate
  · rw [hruns]
    refine (hgroups.grows.late ?_).trans hcount
    have hqueue : (edgesOut v8 s).lif.commandQueue.length = s.lif.commandQueue.length := rfl
    omega
  · obtain ⟨hview, hauto⟩ := hgroups.follows n hn
    refine ⟨?_, ?_⟩
    · rw [closeRuns_covering, hruns]
      exact hview
    · rw [hruns]
      exact hauto
  · rw [hruns]
    exact hgroups.accounted

theorem hasEdges_iff (s : State) (n : BoardNo) : hasEdges s n = false ↔ ∀ x ∈ s.flx.edges, x.board ≠ n := by
  simp [hasEdges]

/-- A board whose last edge is taken while it is SPRAYING (R93). -/
theorem takeEdges_closes {v8 : Int} {s : State} {e : Edge} (he : e ∈ edgesTaken v8 s) (hflux : fluxOf (takeEdges v8 s) e.board = some .spraying)
    (hedges : ∀ x ∈ (takeEdges v8 s).flx.edges, x.board ≠ e.board) :
    ∀ r ∈ (takeEdges v8 s).flx.sprays, r.board = e.board → r.runClosing = true := by
  rw [takeEdges_eq] at hflux hedges ⊢
  generalize (edgeGroups v8 s).foldl applyGroup (edgesOut v8 s) = t at hflux hedges
  have hruns := closeRuns_eq t (edgesTaken v8 s)
  rw [hruns] at hflux hedges
  exact closeRuns_closes he hflux ((hasEdges_iff t e.board).mpr hedges)

/-! ### A single edge -/

section
variable {v8 : Int} {s : State} {e : Edge} (h : edgesTaken v8 s = [e])
include h

theorem takeEdges_single : takeEdges v8 s = closeRuns [e] (applyGroup (edgesOut v8 s) (edgeDelay (edgeAhead s e) v8, [e])) := by
  rw [takeEdges_eq, edgeGroups, h, List.foldl_cons, List.foldl_nil, putGroup, List.foldl_cons, List.foldl_nil]

omit h in
theorem single_handed : Handed (edgesOut v8 s) (edgeDelay (edgeAhead s e) v8) allNozzles (applyEdge (edgesOut v8 s) e)
    (applyGroup (edgesOut v8 s) (edgeDelay (edgeAhead s e) v8, [e])) := applyGroup_handed (edgesOut v8 s) (edgeDelay (edgeAhead s e) v8, [e])

theorem single_segment : segmentState (takeEdges v8 s) e.board e.segment =
    if e.kind = .opening ∧ segmentState s e.board e.segment = some .pending then some .opened
    else if e.kind = .closing ∧ segmentState s e.board e.segment = some .opened then some .closed
    else segmentState s e.board e.segment := by
  have hsprays := (single_handed (v8 := v8) (s := s) (e := e)).sprays
  have hstate : segmentState (applyGroup (edgesOut v8 s) (edgeDelay (edgeAhead s e) v8, [e])) e.board e.segment
      = segmentState (applyEdge (edgesOut v8 s) e) e.board e.segment := by simp only [segmentState, findSpray, hsprays]
  have hout : segmentState (edgesOut v8 s) e.board e.segment = segmentState s e.board e.segment := rfl
  rw [takeEdges_single h, closeRuns_segmentState, hstate, applyEdge_segment, hout]

theorem single_flux (hk : e.kind = .opening) (hstate : segmentState s e.board e.segment = some .pending)
    (hflux : fluxOf s e.board = some .pending) : fluxOf (takeEdges v8 s) e.board = some .spraying := by
  have hbtk := (single_handed (v8 := v8) (s := s) (e := e)).btk
  have hout : segmentState (edgesOut v8 s) e.board e.segment = segmentState s e.board e.segment := rfl
  have hfluxOut : fluxOf (edgesOut v8 s) e.board = fluxOf s e.board := rfl
  rw [takeEdges_single h, closeRuns_fluxOf, fluxOf, hbtk, ← fluxOf]
  exact applyEdge_flux hk (hout.trans hstate) (hfluxOut.trans hflux)

theorem single_plan (n : NozzleIx) : ((takeEdges v8 s).flx.nozzles[n]).planChanges = (s.flx.nozzles[n]).planChanges ++
    if viewOf (takeEdges v8 s) n = viewOf s n then [] else [(edgeDelay (edgeAhead s e) v8, viewOf (takeEdges v8 s) n)] := by
  have hhanded := single_handed (v8 := v8) (s := s) (e := e)
  have happlied := applyEdge_applied (edgesOut v8 s) e
  have hnozzles := closeRuns_nozzles (applyGroup (edgesOut v8 s) (edgeDelay (edgeAhead s e) v8, [e])) [e]
  rw [← takeEdges_single h] at hnozzles
  have hplan : ((edgesOut v8 s).flx.nozzles[n]).planChanges = (s.flx.nozzles[n]).planChanges := rfl
  have hbefore : viewOf (edgesOut v8 s) n = viewOf s n := rfl
  rw [viewOf_of_nozzles hnozzles, hnozzles, hhanded.plans, hhanded.views, happlied.plans, hplan, hbefore]
  by_cases hv : viewOf (applyEdge (edgesOut v8 s) e) n = viewOf s n
  · rw [if_pos hv, if_neg fun k => k.2 hv]
  · rw [if_neg hv, if_pos ⟨mem_allNozzles n, hv⟩]

end

end Sys2Proof.Machine
end

section
/-! The edge list and the last accounted cycle at the event of a GOOD encoder sample (R92, R95). -/

namespace Sys2Proof.Machine

/-- The kinds of hand-over at a GOOD encoder sample: no record joins the train. -/
def sampleKinds : List TaskKind := [.missingTest, .retire] ++
  recordKinds.filter fun k => !([.flxNewRecord, .phmNewRecord, .potNewRecord] : List TaskKind).contains k

theorem sampleKinds_closed : closedKinds sampleKinds = true := by decide

/-- The edge list only loses edges, and the last accounted cycle stays. -/
structure EdgesLost (s t : State) : Prop where
  edges : t.flx.edges.Sublist s.flx.edges
  accounted : t.flx.lastAccounted = s.flx.lastAccounted

theorem EdgesLost.refl (s : State) : EdgesLost s s := ⟨List.Sublist.refl _, rfl⟩

theorem EdgesLost.trans {s t u : State} (h : EdgesLost s t) (k : EdgesLost t u) : EdgesLost s u :=
  ⟨k.edges.trans h.edges, k.accounted.trans h.accounted⟩

theorem EdgesLost.of_eq {s t : State} (he : t.flx.edges = s.flx.edges) (ha : t.flx.lastAccounted = s.flx.lastAccounted) : EdgesLost s t :=
  ⟨by rw [he], ha⟩

theorem EdgesLost.of_flx {s t : State} (h : t.flx = s.flx) : EdgesLost s t := .of_eq (by rw [h]) (by rw [h])

theorem foldl_edgesLost {α : Type} {f : State → α → State} (h : ∀ s x, EdgesLost s (f s x)) (l : List α) (s : State) :
    EdgesLost s (l.foldl f s) :=
  List.foldlRecOn (motive := fun t : State => EdgesLost s t) l f (.refl s) fun _ ht _ _ => ht.trans (h ..)

theorem LateOnly.lost {s t : State} (h : LateOnly s t) : EdgesLost s t := by
  obtain ⟨hflx, -⟩ := h
  exact .of_eq (by rw [hflx]) (by rw [hflx])

theorem withFlx_lost (s : State) {x : Flx} (he : x.edges.Sublist s.flx.edges) (ha : x.lastAccounted = s.flx.lastAccounted) :
    EdgesLost s { s with flx := x } := ⟨he, ha⟩

theorem planChange_lost (before : State) (delay : Nat) (n : NozzleIx) (s : State) : EdgesLost s (planChange before delay n s) := by
  unfold planChange
  split
  · exact .refl s
  · exact .of_eq rfl rfl

theorem closeRuns_lost (gone : List Edge) (s : State) : EdgesLost s (closeRuns gone s) := by
  rw [closeRuns_eq]
  exact .of_eq rfl rfl

theorem flxRework_lost (n : BoardNo) (s : State) : EdgesLost s (flxRework n s).1 := by
  unfold flxRework
  dsimp only
  split
  · exact ⟨List.filter_sublist, rfl⟩
  · exact ⟨List.filter_sublist, rfl⟩
  all_goals exact .refl s

theorem flxRemoved_lost (n : BoardNo) (s : State) : EdgesLost s (flxRemoved n s).1 := by
  unfold flxRemoved
  dsimp only
  refine .trans (t := deriveNozzles { dropEdges (fun e => e.board == n) s with flx := { (dropEdges (fun e => e.board == n) s).flx with
    sprays := (dropEdges (fun e => e.board == n) s).flx.sprays.filter fun r => !(r.board == n) } }) ⟨List.filter_sublist, rfl⟩
    (foldl_edgesLost (fun t k => ?_) _ _)
  split
  · exact .of_eq rfl rfl
  · exact .refl t

theorem flxConsume_lost (s : State) : EdgesLost s (flxConsume s).1 := by
  have herase (e : Edge) : EdgesLost s (closeRuns [e] { s with flx := { s.flx with edges := s.flx.edges.erase e } }) :=
    .trans (t := { s with flx := { s.flx with edges := s.flx.edges.erase e } }) ⟨List.erase_sublist, rfl⟩ (closeRuns_lost ..)
  unfold flxConsume
  split
  · split
    · exact .refl s
    next e _ =>
      dsimp only
      split
      · exact (herase e).trans (.of_eq rfl rfl)
      · exact herase e
  · exact .refl s

theorem flxEndingCloses_lost (s : State) : EdgesLost s (flxEndingCloses s).1 := by
  unfold flxEndingCloses
  dsimp only
  refine .trans (t := deriveNozzles { s with flx := { s.flx with sprays := s.flx.sprays.map fun r =>
    { r with segments := r.segments.map fun g => if g.state = .ending then { g with state := .closed } else g } } }) (.of_eq rfl rfl)
    (foldl_edgesLost (fun t n => ?_) _ _)
  refine (planChange_lost s 0 n t).trans ?_
  split
  · exact .trans (t := mapNozzle (planChange s 0 n t) n fun z => { z with closeOwed := false }) (.of_eq rfl rfl) (timedEdge_late ..).lost
  · exact .refl _

theorem flxRunEnd_lost (n : BoardNo) (s : State) : EdgesLost s (flxRunEnd n s).1 := by
  unfold flxRunEnd
  dsimp only
  split
  · split
    · split <;> exact .of_eq rfl rfl
    · exact .refl s
  · exact .refl s

theorem flxForcing_lost (s : State) : EdgesLost s (flxForcing s).1 := by
  unfold flxForcing
  dsimp only
  split
  · exact .of_eq rfl rfl
  · exact .of_eq rfl rfl

theorem flxTakeEdges_lost (s : State) : EdgesLost s (flxTakeEdges s).1 := by
  unfold flxTakeEdges
  split
  · exact .refl s
  · split
    · exact .refl s
    next v8 hv8 =>
      split
      · exact ⟨by rw [(takeEdges_gone v8 s).edges]; exact List.filter_sublist, (takeEdges_gone v8 s).accounted⟩
      · exact .refl s

theorem accountNozzle_edges (d : Nat) (s : State) (n : NozzleIx) : (accountNozzle d s n).flx.edges = s.flx.edges := by
  unfold accountNozzle
  refine List.foldlRecOn (motive := fun t : State => t.flx.edges = s.flx.edges) _ _ rfl fun t ht p _ => ?_
  split
  · exact ht
  · exact ht

theorem writeDoses_edges (s : State) : (writeDoses s).flx.edges = s.flx.edges :=
  List.foldlRecOn (motive := fun t : State => t.flx.edges = s.flx.edges) _ _ rfl fun _ ht _ _ => ht

theorem flxAccount_edges (s : State) : (flxAccount s).1.flx.edges = s.flx.edges
    ∧ (flxAccount s).1.flx.lastAccounted = some (s.sig[S 10]).arrivalCycle := by
  refine ⟨?_, rfl⟩
  unfold flxAccount
  dsimp only
  split
  · rfl
  · refine (writeDoses_edges _).trans ?_
    exact List.foldlRecOn (motive := fun t : State => t.flx.edges = s.flx.edges) _ _ rfl fun _ ht n _ => (accountNozzle_edges _ _ n).trans ht

/-- Outside the accounting, the hand-overs of a sample only take edges from the list. -/
theorem handle_lost {t : Task} (s : State) (h : t.kind ∈ sampleKinds) (ht : t.kind ≠ .flxAccount) : EdgesLost s (handle t s).1 := by
  by_cases hb : Block.flx ∈ touched t
  · cases t
    case flxRework n => exact flxRework_lost n s
    case flxRemoved n => exact flxRemoved_lost n s
    case flxConsume => exact flxConsume_lost s
    case flxEndingCloses => exact flxEndingCloses_lost s
    case flxRunEnd n => exact flxRunEnd_lost n s
    case flxForcing => exact flxForcing_lost s
    case flxTakeEdges => exact flxTakeEdges_lost s
    case flxAccount => exact absurd rfl ht
    all_goals first
      | exact absurd h (by simp only [Task.kind]; decide)
      | exact absurd hb (by simp only [touched]; decide)
  · exact .of_flx ((handle_touches t s).same .flx hb)

theorem handle_edges {t : Task} (s : State) (h : t.kind ∈ sampleKinds) : (handle t s).1.flx.edges.Sublist s.flx.edges := by
  by_cases ht : t.kind = .flxAccount
  · cases t
    case flxAccount => exact (flxAccount_edges s).1 ▸ List.Sublist.refl _
    all_goals simp [Task.kind] at ht
  · exact (handle_lost s h ht).edges

/-! ## The event (R92) -/

theorem settle_edges (n : Nat) {ts : List Task} (s : State) (hts : ∀ t ∈ ts, t.kind ∈ sampleKinds) :
    (settle n ts s).flx.edges.Sublist s.flx.edges :=
  settle_kinds (P := fun u => u.flx.edges.Sublist s.flx.edges) sampleKinds sampleKinds_closed
    (fun _ u ht hu => (handle_edges u ht).trans hu) (fun _ hu => hu) n ts s (among_iff.mpr hts) (List.Sublist.refl _)

/-- The kinds of hand-over at a sample after its accounting. -/
def accountedKinds : List TaskKind := sampleKinds.filter fun k => !([.flxAccount, .flxSample] : List TaskKind).contains k

theorem accountedKinds_sample {k : TaskKind} (h : k ∈ accountedKinds) : k ∈ sampleKinds ∧ k ≠ .flxAccount ∧ k ≠ .flxSample := by
  revert k
  decide

/-- After the accounting no hand-over of the sample accounts again. -/
theorem settle_accounted (n : Nat) {ts : List Task} (s : State) (hts : ∀ t ∈ ts, t.kind ∈ accountedKinds) :
    (settle n ts s).flx.lastAccounted = s.flx.lastAccounted :=
  settle_kinds (P := fun u => u.flx.lastAccounted = s.flx.lastAccounted) accountedKinds (by decide)
    (fun _ u ht hu => (handle_lost u (accountedKinds_sample ht).1 (accountedKinds_sample ht).2.1).accounted.trans hu) (fun _ hu => hu) n ts s
    (among_iff.mpr hts) rfl

/-- FLX's part of a sample accounts for its cycle, or has done so before. -/
theorem settle_flxSample (n : Nat) {post : List Task} (s : State) (hpost : ∀ t ∈ post, t.kind ∈ accountedKinds) :
    (settle n ((handle .flxSample s).2 ++ post) (handle .flxSample s).1).overrun = true
      ∨ (settle n ((handle .flxSample s).2 ++ post) (handle .flxSample s).1).flx.lastAccounted = some (s.sig[S 10]).arrivalCycle := by
  by_cases h : s.flx.lastAccounted = some (s.sig[S 10]).arrivalCycle
  · have hstep : handle .flxSample s = (s, []) := if_pos h
    rw [hstep, List.nil_append]
    exact .inr ((settle_accounted n s hpost).trans h)
  · have hstep : handle .flxSample s = (s, [.flxAccount, .flxRunEnds, .flxEndingCloses, .flxTakeEdges]) := if_neg h
    rw [hstep]
    obtain _ | n := n
    · exact .inl rfl
    · have hflx : ∀ t ∈ [Task.flxRunEnds, .flxEndingCloses, .flxTakeEdges], t.kind ∈ accountedKinds := by decide
      have hrest : ∀ t ∈ [Task.flxRunEnds, .flxEndingCloses, .flxTakeEdges] ++ post, t.kind ∈ accountedKinds := by
        intro t ht
        obtain ht | ht := List.mem_append.mp ht
        · exact hflx t ht
        · exact hpost t ht
      rw [List.cons_append, settle_cons]
      exact .inr ((settle_accounted n (flxAccount s).1 hrest).trans (flxAccount_edges s).2)

theorem accounted_before (ns : List BoardNo) :
    ∀ t ∈ List.map (fun n => Task.defect n .trackUnsure) ns ++ .missingTest :: encoderRest.take 4, t.kind ∈ accountedKinds := by
  have hrest : ∀ t ∈ .missingTest :: encoderRest.take 4, t.kind ∈ accountedKinds := by decide
  intro t ht
  obtain ht | ht := List.mem_append.mp ht
  · obtain ⟨n, -, rfl⟩ := List.mem_map.mp ht
    simp only [Task.kind]
    decide
  · exact hrest t ht

/-- The edges and the last accounted cycle after a GOOD encoder sample. -/
theorem exec_edges {c : SampleCell} {s : State} {v : Word16} (hv : verdict s.lif.openCycle (sampleRaw c) = .toSig)
    (hseq : c.sequence.toNat ≤ 63) (ha : arrivalsOf s c = [(S 10, 0, v)]) : ∃ t, exec (.sample c) s = .next t
      ∧ t.flx.edges.Sublist s.flx.edges ∧ (t.overrun = false → t.flx.lastAccounted = some s.lif.cycle) := by
  obtain ⟨n, t, u, ns, -, ht, hmoved, -, hend⟩ := exec_encoder_event hv hseq ha
  have hu : u.flx = s.flx := by rw [hmoved.rest]; rfl
  have hbefore := accounted_before ns
  have hafter : ∀ t ∈ encoderRest.drop 5, t.kind ∈ accountedKinds := by decide
  have hsplit : List.map (fun n => Task.defect n .trackUnsure) ns ++ .missingTest :: encoderRest
      = (List.map (fun n => Task.defect n .trackUnsure) ns ++ .missingTest :: encoderRest.take 4) ++ .flxSample :: encoderRest.drop 5 := by
    simp [encoderRest]
  rw [hsplit] at hend
  refine ⟨t, ht, ?_, fun hdone => ?_⟩
  · have hlost := settle_edges n u (ts := (List.map (fun n => Task.defect n .trackUnsure) ns ++ .missingTest :: encoderRest.take 4)
      ++ .flxSample :: encoderRest.drop 5) fun w hw => by
        obtain hw | hw := List.mem_append.mp hw
        · exact (accountedKinds_sample (hbefore w hw)).1
        · obtain rfl | hw := List.mem_cons.mp hw
          · decide
          · exact (accountedKinds_sample (hafter w hw)).1
    rw [hu] at hlost
    obtain rfl | rfl := hend
    · exact hlost
    · exact hlost
  · have hreach := settle_reaches (P := fun w => w.sig = u.sig) (Q := fun t => t.kind ∈ accountedKinds)
      (fun _ w hw hs => (handle_spares (b := .sig) (ks := accountedKinds) (by decide) w hw).trans hs)
      (fun _ w hw _ => among_iff.mp (handle_among (by decide) w hw)) n _ .flxSample (encoderRest.drop 5) u hbefore rfl
    rw [← hend.eq hdone] at hreach
    obtain ⟨m, w, hw, htw⟩ := hreach.resolve_left (by rw [hdone]; exact Bool.false_ne_true)
    have hflx := settle_flxSample m w hafter
    rw [← htw] at hflx
    rw [hflx.resolve_left (by rw [hdone]; exact Bool.false_ne_true), hw, hmoved.rest]
    exact congrArg (fun r => some r.arrivalCycle) (recordArrival_same s s.sig (S 10, 0, v))

/-- Settles O32: the event in its two parts, and one scheduling by its groups. -/
theorem sprayEdgesAreTaken : Obligations.SprayEdgesAreTaken := by
  unfold Obligations.SprayEdgesAreTaken
  refine ⟨fun c s v hv hseq ha => exec_edges hv hseq ha, fun s v8 hpos hv8 hforcing => ?_⟩
  have htake : (flxTakeEdges s).1 = takeEdges v8 s := by rw [flxTakeEdges_eq hpos hv8 hforcing]
  rw [htake]
  have hgone := takeEdges_gone v8 s
  intro t ahead taken late
  refine ⟨hgone.edges, hgone.late, hgone.exact, fun n => ?_, fun e he => takeEdges_closes he, fun e he => single_segment he,
    fun e he => single_flux he, fun e he n => ?_⟩
  · rintro follows ⟨hview, hauto⟩
    exact hgone.follows n ⟨hview, hauto⟩
  · rw [← edgeDelay_tdiv]
    exact single_plan he n

end Sys2Proof.Machine
end
